-- ==== Sys2Proof/Word.lean ====
section
/-! DEFINITION. The byte of the local link and of the line bus payloads (R179, R186). Everything that computes
with bytes stands in Machine/Bytes.lean. -/

namespace Sys2Proof

/-- One byte as it is shifted over the local link, or sent in a notice payload (R179, R187). -/
abbrev Byte := BitVec 8

end Sys2Proof
end

