-- ==== Sys2Proof/Config.lean ====
section
/-! DEFINITION. What the spec leaves open and the model leaves free: the order of two things that fall at one
instant inside one event (00, "Events and their order"), and the bytes of a number that its field cannot hold. Nothing can
be proved about the values; a statement that needs one says so as a hypothesis. -/

namespace Sys2Proof

/-- DESIGN CHOICE (entry 26): whether, at the n-th open order, the first of the two things the spec names is
taken first. It has no body, so a claim holds whichever order the part takes. -/
opaque Config.firstOfTwo : Nat → Bool

/-- DESIGN CHOICE (entry 42): the four bytes that a coil record carries for a boundary offset that four signed bytes
cannot hold, which R189 does not state. It has no body, so a claim holds whatever bytes the part writes. -/
opaque Config.wideOffset : Int → BitVec 32

end Sys2Proof
end

