-- ==== Sys2Proof/Machine/Bytes.lean ====
section
/-! DEFINITION. How numbers are written as bytes and bits (R186), the sum byte of the local link (R179), and the
check of a notice frame (R188). -/

namespace Sys2Proof.Machine

/-! ## Bytes, most significant first (R186) -/

/-- The `w` bytes of a number, most significant byte first (R186). -/
def be : Nat → Nat → List Byte
  | 0, _ => []
  | w + 1, n => BitVec.ofNat 8 (n / 256 ^ w) :: be w n

/-- The number that bytes write, most significant byte first (R186). -/
def ofBe (bytes : List Byte) : Nat := bytes.foldl (fun n b => n * 256 + b.toNat) 0

/-- The `w` bytes of a signed number in two's complement (R186). -/
def beInt (w : Nat) (x : Int) : List Byte := be w (x % (256 ^ w : Nat)).toNat

/-- The signed number that sixteen bits write in two's complement (R186). -/
def ofTwos16 (n : Nat) : Int := (BitVec.ofNat 16 n).toInt

/-- A yes-or-no item is one byte, 1 for yes (R186). -/
def yesNo (b : Bool) : List Byte := [if b then 1 else 0]

/-- An optional number of `w` bytes; its bytes are 0 where it is absent (R186). -/
def beOption (w : Nat) (n : Option Nat) : List Byte := be w (n.getD 0)

/-- A presence field: bit 0 for the first optional field (R186). -/
def presence (w : Nat) (present : List Bool) : List Byte :=
  be w (present.foldr (fun b n => 2 * n + b.toNat) 0)

/-- A list of varying length: its number of members in one byte, then the members (R186). -/
def listBytes {α : Type} (member : α → List Byte) (members : List α) : List Byte :=
  be 1 members.length ++ members.flatMap member

/-- The sum of bytes modulo 256 (R179). -/
def byteSum (bytes : List Byte) : Byte := bytes.foldl (· + ·) 0

/-- The sum byte that makes bytes add up to 0 modulo 256 (R179, R180). -/
def sumByte (bytes : List Byte) : Byte := 0 - byteSum bytes

/-! ## Bits, high first (R153) -/

/-- The `w` bits of a number, high bit first (R153). -/
def bitsOf : Nat → Nat → List Bool
  | 0, _ => []
  | w + 1, n => n.testBit w :: bitsOf w n

/-- The number that bits write, high bit first (R153). -/
def ofBits (bits : List Bool) : Nat := bits.foldl (fun n b => 2 * n + b.toNat) 0

/-- The bits of bytes, in the order sent (R186). -/
def byteBits (bytes : List Byte) : List Bool := bytes.flatMap (fun b => bitsOf 8 b.toNat)

/-- The first `w` bits of what is read; past its end the bus is recessive, which is 1 (R156). -/
def takeBits : Nat → List Bool → List Bool
  | 0, _ => []
  | w + 1, [] => true :: takeBits w []
  | w + 1, b :: rest => b :: takeBits w rest

/-- The `k` bytes at the front of what is read. -/
def takeBytes : Nat → List Bool → List Byte
  | 0, _ => []
  | k + 1, bits => BitVec.ofNat 8 (ofBits (takeBits 8 bits)) :: takeBytes k (bits.drop 8)

/-- One bit of the check's computation (R188). -/
def checkStep (register : BitVec 16) (bit : Bool) : BitVec 16 :=
  let shifted := register <<< 1
  if register.msb != bit then shifted ^^^ 32773#16 else shifted

/-- The check of a frame over its bits from the header to the last payload bit (R188). -/
def frameCheck (bits : List Bool) : BitVec 16 := bits.foldl checkStep 65535#16

end Sys2Proof.Machine
end

