-- ==== Sys2Proof/Machine/Limits.lean ====
section
/-! DEFINITION. The fixed numbers of the spec, and the roundings it names (00, "Arithmetic words"). Times are in
units of 10 microseconds. -/

namespace Sys2Proof.Machine

/-- The ceiling of the run count (R1, R10). -/
def maxCount : Nat := 4294967295
/-- The lookback, in mm (00, "Terms"; R31). -/
def lookback : Nat := 262144
/-- The horizon, in mm (00, "Terms"; R58). -/
def horizon : Nat := 10000000
/-- The fault span cap, in mm (R30). -/
def faultSpanCap : Nat := 131071
/-- The cap of a LOSS mark's span, in mm (R30). -/
def lossSpanCap : Nat := 16777215
/-- Places in the mark list (R40). -/
def markPlaces : Nat := 96
/-- Places open to ordinary marks (R40). -/
def ordinaryPlaces : Nat := 88
/-- Places in the loss list (R62). -/
def lossPlaces : Nat := 8
/-- Places in the lot table (R107). -/
def lotPlaces : Nat := 8
/-- Places in the packing plan (R119). -/
def planPlaces : Nat := 32
/-- Places in the coil log (R119). -/
def logPlaces : Nat := 8
/-- Places in a coil's event list (R120). -/
def eventPlaces : Nat := 12
/-- Places in the holder list (R147). -/
def holderPlaces : Nat := 16
/-- Places in the row history (R90). -/
def historyPlaces : Nat := 16
/-- Places in each FIFO of the port (R159). -/
def fifoPlaces : Nat := 4
/-- The most rows a knot fault run holds (R99). -/
def runRows : Nat := 64
/-- The error score that mutes the port (R164). -/
def muteScore : Nat := 192
/-- The recessive bit times of an idle gap (R154). -/
def gapBits : Nat := 11
/-- The idle gaps after which a muted port rejoins (R164). -/
def rejoinGaps : Nat := 64
/-- The greatest hops of a mark (R46). -/
def maxHops : Nat := 7
/-- The window length cap, 20,000 mm in 1/65,536 mm (R76). -/
def windowCap : Nat := 1310720000
/-- The clamp of the trim correction (R86). -/
def trimClamp : Int := 400
/-- The TRIM period, 10 ms (R87). -/
def trimPeriod : Nat := 1000
/-- The speed sample period, 100 ms (R13). -/
def samplePeriod : Nat := 10000
/-- The SPIN filter, 0.5 ms (R26). -/
def spinFilter : Nat := 50
/-- The debounce of the hold wire, 2 ms (R144). -/
def debounce : Nat := 200
/-- Units of the time base in one unit of a filter field, 0.1 ms (R20). -/
def filterUnit : Nat := 10
/-- Units of the time base in a millisecond. -/
def perMs : Nat := 100

/-- One more occurrence in a tally, which saturates at 65,535 (R182). -/
def tally (n : Nat) : Nat := min (n + 1) 65535
/-- One more in a count that saturates at 255. -/
def tally255 (n : Nat) : Nat := min (n + 1) 255
/-- The serial after one of 0 to 65,535 (R32, R95). -/
def nextSerial16 (n : Nat) : Nat := if n = 65535 then 0 else n + 1
/-- The serial after one of 0 to 255 (R60, R158). -/
def nextSerial8 (n : Nat) : Nat := if n = 255 then 0 else n + 1
/-- The coil serial after one of 1 to 65,535 (R123). -/
def nextCoilSerial (n : Nat) : Nat := if n = 65535 then 1 else n + 1

/-- A value clamped to a range (00, "Arithmetic words"). -/
def clampInt (low high x : Int) : Int := max low (min high x)

/-- A quotient rounded half away from zero (00, "Arithmetic words"). -/
def roundHalfAway (num : Int) (den : Nat) : Int :=
  let size := (2 * num.natAbs + den) / (2 * den)
  if num < 0 then -(size : Int) else size

/-- The least whole number not below a quotient (00, "Arithmetic words"). -/
def ceilDiv (num den : Nat) : Nat := (num + (den - 1)) / den

/-- A sender length scaled by a ratio: rounded to nearest with halves going up (4.3). -/
def scale (ratio : Nat) (x : Int) : Int := (x * ratio + 32768) / 65536

end Sys2Proof.Machine
end

