-- ==== Sys2Proof/Syntax.lean ====
section
/-! DEFINITION. The commands of the part: one constructor of `Instr` for each row of spec/opcode_table.json,
with the operands the spec gives it. A host command carries, beside its arguments, `fill`: how many fill bytes
its link frame holds after the sum byte (R179), which decides whether the reply before it is collected (R180). -/

namespace Sys2Proof

/-- The sixteen parameters of a lot record and of the base set (R108), in the order of their presence bits (R189). -/
inductive Param where
  | nominalLay | tolerance | stopTolerance | windowTwists | faultWindows | settleTurns | trimGain | rowPitch
  | knotStopCount | brokenTwineRows | stretch | spliceLimitA | spliceLimitB | densityLimitA | densityLimitB
  | shortLimit
deriving DecidableEq, Repr

/-- One value for each of the sixteen parameters (R108). -/
structure Params (α : Type) where
  nominalLay : α
  tolerance : α
  stopTolerance : α
  windowTwists : α
  faultWindows : α
  settleTurns : α
  trimGain : α
  rowPitch : α
  knotStopCount : α
  brokenTwineRows : α
  stretch : α
  spliceLimitA : α
  spliceLimitB : α
  densityLimitA : α
  densityLimitB : α
  shortLimit : α
deriving DecidableEq, Repr

/-- A lot record: its tag, and each parameter present with a value or absent (R108). -/
structure LotRecord where
  tag : Nat
  params : Params (Option Nat)
deriving DecidableEq, Repr

/-- The commands and events of the part, one for each row of the opcode table. Levels are `true` for high.
Bits of a frame are `true` for recessive, the bus's 1 (R153). -/
inductive Instr where
  /-- POWER_ON_RESET (R176): power-on, or a low pulse on RSTN, from its beginning to the end of the hold. -/
  | powerOnReset
  /-- RESET (R177). -/
  | reset (fill : Nat)
  /-- WHEEL_CHANGE (R3): the levels of WHA and WHB after the change. -/
  | wheelChange (wha whb : Bool)
  /-- SENSE_RAW_CHANGE (R20): the new raw level of one sense input. -/
  | senseRawChange (input : Fin 32) (level : Bool)
  /-- SENSE_FILTER_EXPIRY (R20). -/
  | senseFilterExpiry (input : Fin 32)
  /-- SPIN_RAW_CHANGE (R26): the new raw level of SPIN. -/
  | spinRawChange (level : Bool)
  /-- SPIN_FILTER_EXPIRY (R26). -/
  | spinFilterExpiry
  /-- SPEED_SAMPLE (R13). -/
  | speedSample
  /-- FEED_TIMEOUT (R55): the feed whose silence timer expires. -/
  | feedTimeout (feed : Fin 4)
  /-- CUT_TIMER_EXPIRY (R129). -/
  | cutTimerExpiry
  /-- TRIM_PERIOD_START (R87). -/
  | trimPeriodStart
  /-- TRIM_HIGH_TIME_END (R87). -/
  | trimHighTimeEnd
  /-- HOLD_WIRE_CHANGE (R144): the new level of HOLDW. -/
  | holdWireChange (level : Bool)
  /-- HOLD_DEBOUNCE_EXPIRY (R144). -/
  | holdDebounceExpiry
  /-- POSITION_TIMER_EXPIRY (R165). -/
  | positionTimerExpiry
  /-- IDLE (R154): an idle gap of 11 recessive bit times completes. -/
  | idle
  /-- FRAME_START (R155): the bit time after an idle. -/
  | frameStart
  /-- ARBITRATION_LOST (R155). -/
  | arbitrationLost
  /-- BIT_ERROR (R156). -/
  | bitError
  /-- FRAME_SENT (R156). -/
  | frameSent
  /-- FRAME_RECEIVED (R161): whether the start came before an idle gap had completed, gaps being counted from the entry
  to LISTEN (R164, R174), and the bits read after the start bit, first to last; past the end of the list the bus is
  recessive. -/
  | frameReceived (early : Bool) (bits : List Bool)
  /-- BAD_FRAME (R179): every whole byte of the link frame. -/
  | badFrame (bytes : List Byte)
  /-- STATUS (R181). -/
  | status (fill : Nat)
  /-- ATTENTION READ (R184). -/
  | attentionRead (fill : Nat)
  /-- ATTENTION ENABLE (R184): the three argument bytes as one number. -/
  | attentionEnable (mask fill : Nat)
  /-- TALLIES READ (R182). -/
  | talliesRead (fill : Nat)
  /-- RESTART RUN (R185). -/
  | restartRun (fill : Nat)
  /-- PROFILE SET (R171, R190): field code, index and value. -/
  | profileSet (field index value fill : Nat)
  /-- PROFILE CLOSE (R172). -/
  | profileClose (fill : Nat)
  /-- LOT LOAD (R110). -/
  | lotLoad (record : LotRecord) (fill : Nat)
  /-- LOT DROP (R112). -/
  | lotDrop (tag fill : Nat)
  /-- LOT READ (R117). -/
  | lotRead (tag fill : Nat)
  /-- LOT START (R116). -/
  | lotStart (tag fill : Nat)
  /-- HOLD (R150). -/
  | hold (fill : Nat)
  /-- RELEASE (R150). -/
  | release (fill : Nat)
  /-- STOP ACK (R151). -/
  | stopAck (fill : Nat)
  /-- PLAN APPEND (R121): lot tag, target, coil count and byte 6 of the plan entry, which holds the package
  kind and the end flag (R189). -/
  | planAppend (lotTag target count packageByte fill : Nat)
  /-- PLAN CLEAR (R122). -/
  | planClear (fill : Nat)
  /-- PLAN READ (R122). -/
  | planRead (fill : Nat)
  /-- COIL TAKE (R138). -/
  | coilTake (fill : Nat)
  /-- COIL PEEK (R138). -/
  | coilPeek (fill : Nat)
  /-- CUT ORDER (R130). -/
  | cutOrder (fill : Nat)
  /-- CUT RETRY (R129). -/
  | cutRetry (fill : Nat)
  /-- CUT CONFIRM (R129). -/
  | cutConfirm (fill : Nat)
  /-- MARK PLACE (R47): mark kind code, offset and detail. -/
  | markPlace (kind offset detail fill : Nat)
  /-- MARK READ (R48). -/
  | markRead (index fill : Nat)
  /-- LOSS READ (R68). -/
  | lossRead (fill : Nat)
  /-- FEED READ (R68). -/
  | feedRead (index fill : Nat)
  /-- SECTION READ (R103). -/
  | sectionRead (fill : Nat)
  /-- ROW READ (R104). -/
  | rowRead (index fill : Nat)
deriving DecidableEq, Repr

end Sys2Proof
end

