-- ==== Sys2Proof/Machine/State.lean ====
section
/-! DEFINITION. Everything the spec gives the part to hold, block by block (00, "Blocks and how they work
together"), as plain data, and its value after a station reset. Numbers are `Nat` or `Int`; the sets that R186
writes as masks are bit vectors. -/

namespace Sys2Proof.Machine

/-! ## Sets written as masks (R186) -/

/-- A set of the seven hold reasons, bit n for the n-th reason of R186. -/
abbrev HoldSet := BitVec 7
/-- A set of the nineteen attention conditions, bit n for the n-th condition of R183. -/
abbrev AttentionSet := BitVec 19
/-- A set of the six cut reasons of R186. -/
abbrev CauseSet := BitVec 6
/-- A set of sense inputs, bit n for input n (R186). -/
abbrev InputSet := BitVec 32

/-- The seven causes for which a station pulls the hold wire (R142). -/
inductive HoldReason where
  | orderedHold | layStop | knotStop | cut | logFull | boundaryLost | countLimit
deriving DecidableEq, Repr

/-- The nineteen attention conditions, in the order of R183. -/
inductive Condition where
  | coilReady | planExhausted | planMismatch | cutFailed | lotUnknown | layStop | knotStop | boundaryLost
  | markLost | feedLost | feedFound | gap | retroLoss | lineHeld | lineReleased | countLimit | busMuted
  | busActive | noticeDropped
deriving DecidableEq, Repr

/-- The reasons a coil was cut (R120, R186). -/
inductive CutReason where
  | target | lotChange | cutRequest | ordered | manual | restart
deriving DecidableEq, Repr

/-! ## Station and profile (chapter 11) -/

/-- OPEN, where the profile may be written, or RUNNING (R169). -/
inductive StationState where
  | openState | running
deriving DecidableEq, Repr

/-- What moves the run count (R2). -/
inductive LengthSource where
  | wheel | rows
deriving DecidableEq, Repr

/-- The service of a sense input (R18). -/
inductive Service where
  | unused | knotSection | row | splice | gauge | cutDone | operator
deriving DecidableEq, Repr

/-- The detection of a sense input (R18). -/
inductive Detection where
  | rising | falling | high | low
deriving DecidableEq, Repr

/-- The assignment of one sense input (R18). -/
structure Assignment where
  service : Service
  detection : Detection
  filter : Nat
  expectedKnots : Nat
deriving DecidableEq, Repr

/-- One feed slot of the profile (R170); a sender of `none` is unset. -/
structure FeedConfig where
  sender : Option Nat
  path : Nat
  ratio : Nat
  timeout : Nat
deriving DecidableEq, Repr

/-- The station profile (R170); a station number of `none` is unset. -/
structure Profile where
  stationNumber : Option Nat
  feedCount : Nat
  feeds : List FeedConfig
  source : LengthSource
  wheelStep : Nat
  direction : Bool
  inputs : List Assignment
  twistsPerPulse : Nat
  laySupervision : Bool
  knotSupervision : Bool
  coilBuilding : Bool
  forwarding : Bool
  stopTime : Nat
  minimumCutSpacing : Nat
  cutTimeout : Nat
  bitRate : Nat
  positionInterval : Nat
  base : Params Nat
deriving DecidableEq, Repr

/-- The levels standing on the input pins, `true` for high (00, "Pins"). -/
structure Pins where
  wha : Bool
  whb : Bool
  spin : Bool
  sns : List Bool
  holdw : Bool
deriving DecidableEq, Repr

/-! ## Length unit (chapter 1) -/

/-- The length unit (R1); `sampleDue` is the time of the next speed sample (R13). -/
structure LengthUnit where
  runCount : Nat
  fraction : Nat
  saturated : Bool
  speed : Int
  sampleBase : Nat
  reference : Option (Bool × Bool)
  sampleDue : Option Nat
  reverseClamps : Nat
  wheelSkips : Nat
deriving DecidableEq, Repr

/-! ## Sense unit (chapter 2) -/

/-- A pending change of a filtered level: the level, and when the raw level last took it (R18). -/
structure PendingLevel where
  level : Bool
  since : Nat
deriving DecidableEq, Repr

/-- An open gauge run (R18, R25). -/
structure GaugeRun where
  start : Nat
  byCap : Bool
deriving DecidableEq, Repr

/-- The working state of one sense input (R18). -/
structure SenseInput where
  filtered : Option Bool
  pending : Option PendingLevel
  gauge : Option GaugeRun
deriving DecidableEq, Repr

/-- The sense unit: the 32 inputs and the spindle pin (R18, R26). -/
structure SenseUnit where
  inputs : List SenseInput
  spinFiltered : Option Bool
  spinPending : Option PendingLevel
deriving DecidableEq, Repr

/-! ## Marks (chapter 3) -/

/-- The eight kinds of mark (R29). -/
inductive MarkKind where
  | splice | layFault | knotFault | gaugeFault | operator | loss | lotChange | cutRequest
deriving DecidableEq, Repr

/-- Where a record came from: raised here, or received through the feed of an index (R29). -/
inductive MarkSource where
  | here
  | feed (index : Nat)
deriving DecidableEq, Repr

/-- How a record's position and span were obtained (R29). -/
structure MarkFlags where
  late : Bool
  clamped : Bool
  spanClamped : Bool
deriving DecidableEq, Repr

/-- The origin identity of a mark (R29). -/
structure Origin where
  station : Nat
  serial : Nat
deriving DecidableEq, Repr

/-- A mark record (R29). The detail is held as its 16 bits, in two's complement for a LAY_FAULT (R186). -/
structure Mark where
  position : Nat
  kind : MarkKind
  span : Nat
  lotTag : Nat
  origin : Origin
  detail : BitVec 16
  hops : Nat
  source : MarkSource
  flags : MarkFlags
deriving DecidableEq, Repr

/-- What a block gives the mark list when it raises a local-origin mark (R31); the lot tag is given only with
a LOT_CHANGE. -/
structure Raising where
  kind : MarkKind
  position : Nat
  span : Nat
  detail : BitVec 16
  spanClamped : Bool
  clamped : Bool
  lotTag : Option Nat
deriving DecidableEq, Repr

/-- The fate of a mark at its placement (R36 to R42). -/
inductive Placement where
  /-- R36: a waiting mark has the same origin identity. -/
  | duplicate
  /-- R37: a waiting LOT_CHANGE of the same lot lies at or before it. -/
  | mergedAway
  /-- R38: at or below the run count. -/
  | fires
  /-- R39: stored, there being room. -/
  | stored
  /-- R41: stored, an ordinary mark being evicted for it. -/
  | evicts
  /-- R40 or R42: refused. -/
  | refused
deriving DecidableEq, Repr

/-- The mark list (R29, R32, R49). -/
structure MarkList where
  marks : List Mark
  nextSerial : Nat
  duplicates : Nat
  merges : Nat
  lost : Nat
  discarded : Nat
deriving DecidableEq, Repr

/-! ## Feed and loss unit (chapter 4) -/

/-- The state of a feed (R52). -/
inductive FeedState where
  | unheard | heard | lost
deriving DecidableEq, Repr

/-- One feed table entry (R52). `lastLocal` is L_last, `prevStamp` is S_prev with its valid flag, `reach` is r,
and `silenceSince` is when the silence timer started, `none` while it is stopped. -/
structure FeedEntry where
  sender : Nat
  path : Nat
  ratio : Nat
  timeout : Nat
  reach : Nat
  state : FeedState
  lastLocal : Nat
  prevStamp : Option Nat
  expectedSerial : Option Nat
  senderLot : Nat
  senderSpeed : Int
  senderHold : HoldSet
  silenceSince : Option Nat
deriving DecidableEq, Repr

/-- Why a loss interval stands (R62). -/
inductive LossCause where
  | feedLost | gap | refused | evicted | relayed
deriving DecidableEq, Repr

/-- A loss interval (R62); a high of `none` is OPEN. -/
structure LossInterval where
  low : Nat
  high : Option Nat
  cause : LossCause
  feed : Option Nat
deriving DecidableEq, Repr

/-- The feed and loss unit (R52, R62, R69). -/
structure FeedUnit where
  table : List FeedEntry
  losses : List LossInterval
  far : Nat
  badMarks : Nat
deriving DecidableEq, Repr

/-! ## Lay monitor and TRIM (chapter 5) -/

/-- The states of the lay monitor (R71). -/
inductive LayState where
  | off | settling | measuring | suspended
deriving DecidableEq, Repr

/-- The lay monitor's working set (R72). -/
structure LayWorkingSet where
  nominal : Nat
  bandLow : Nat
  bandHigh : Nat
  stopTolerance : Nat
  windowTwists : Nat
  faultWindows : Nat
  settleTurns : Nat
  gain : Nat
deriving DecidableEq, Repr

/-- An open lay window: its start A as a full-precision position in 1/65,536 mm, and its twists n (R71). -/
structure LayWindow where
  start : Nat
  twists : Nat
deriving DecidableEq, Repr

/-- An open lay fault run, in whole millimetres (R71). -/
structure LayFaultRun where
  start : Nat
  finish : Nat
  windows : Nat
  worst : Int
deriving DecidableEq, Repr

/-- The lay monitor (R71); `trimCorrection` is c. -/
structure LayMonitor where
  state : LayState
  working : Option LayWorkingSet
  settleCount : Nat
  window : Option LayWindow
  faultRun : Option LayFaultRun
  trimCorrection : Int
deriving DecidableEq, Repr

/-- The TRIM output: when the running period started, its high time, and the level of the pin (R87). -/
structure TrimOutput where
  periodStart : Option Nat
  highTime : Nat
  level : Bool
deriving DecidableEq, Repr

/-! ## Knot monitor (chapter 6) -/

/-- The states of the knot monitor (R90). -/
inductive KnotState where
  | off | firstRow | counting
deriving DecidableEq, Repr

/-- Why the knot monitor waits for a first row (R90). -/
inductive FirstRowCause where
  | start | lot
deriving DecidableEq, Repr

/-- The knot monitor's working set (R90). -/
structure KnotWorkingSet where
  stopCount : Nat
  brokenRows : Nat
deriving DecidableEq, Repr

/-- One section of the knotter's bed (R90). -/
structure Section where
  input : Nat
  expected : Nat
  count : Nat
  misses : Nat
  noise : Nat
deriving DecidableEq, Repr

/-- A row summary of the row history (R90). -/
structure RowSummary where
  serial : Nat
  start : Nat
  idle : Bool
  missing : List Nat
  total : Nat
  noisy : InputSet
deriving DecidableEq, Repr

/-- An open knot fault run (R90). -/
structure KnotFaultRun where
  start : Nat
  finish : Nat
  rows : Nat
  total : Nat
  firstSerial : Nat
deriving DecidableEq, Repr

/-- The stop record (R90). -/
structure StopRecord where
  serial : Nat
  total : Nat
  totalFailed : Bool
  broken : Option Nat
deriving DecidableEq, Repr

/-- The knot monitor (R90). -/
structure KnotMonitor where
  state : KnotState
  cause : FirstRowCause
  working : Option KnotWorkingSet
  sections : List Section
  rowSerial : Nat
  history : List RowSummary
  faultRun : Option KnotFaultRun
  stopRecord : Option StopRecord
deriving DecidableEq, Repr

/-! ## Lot unit (chapter 7) -/

/-- The lot unit's answer to a fired LOT_CHANGE (R113). -/
inductive LotAnswer where
  | void | activated | unknown
deriving DecidableEq, Repr

/-- The lot unit (R107); an effective set of `none` is not kept. -/
structure LotUnit where
  table : List LotRecord
  activeTag : Nat
  effective : Option (Params Nat)
  unknown : Bool
deriving DecidableEq, Repr

/-! ## Coil builder (chapter 8) -/

/-- The states of the coil builder (R119). -/
inductive BuilderState where
  | off | building | cutDue | cutting | cutFailed
deriving DecidableEq, Repr

/-- A plan entry (R121). -/
structure PlanEntry where
  lotTag : Nat
  target : Nat
  count : Nat
  package : Nat
  endFlag : Bool
deriving DecidableEq, Repr

/-- The flags of an event entry (R120). -/
structure EventFlags where
  late : Bool
  carried : Bool
  truncated : Bool
  absorbed : Bool
  void : Bool
  clamped : Bool
deriving DecidableEq, Repr

/-- An event entry of a coil record (R120). -/
structure Event where
  kind : MarkKind
  offset : Nat
  span : Nat
  origin : Origin
  detail : BitVec 16
  flags : EventFlags
deriving DecidableEq, Repr

/-- The grade of a coil (R136). -/
inductive Grade where
  | a | b | c | hold
deriving DecidableEq, Repr

/-- The fields a coil record takes at its close (R120, R189). -/
structure Closing where
  endAt : Nat
  runLength : Nat
  relaxed : Nat
  causes : CauseSet
  boundaryOffset : Option Int
  grade : Grade
deriving DecidableEq, Repr

/-- The flags of a coil record (R120). -/
structure CoilFlags where
  incomplete : Bool
  short : Bool
  lateCut : Bool
  confirmed : Bool
deriving DecidableEq, Repr

/-- A coil record, current or logged (R120). -/
structure Coil where
  serial : Nat
  lotTag : Nat
  package : Nat
  start : Nat
  target : Nat
  planned : Option Nat
  closing : Option Closing
  flags : CoilFlags
  splices : Nat
  gauges : Nat
  faultTotal : Nat
  events : List Event
  unlisted : Nat
deriving DecidableEq, Repr

/-- What a coil reads from the effective set when it opens (R120). -/
structure Reading where
  stretch : Nat
  spliceA : Nat
  spliceB : Nat
  densityA : Nat
  densityB : Nat
  shortLimit : Nat
deriving DecidableEq, Repr

/-- The current coil: its record, whether it took the plan's head entry (its entry reference; DEDUCED, entry
18), and its reading (R120). -/
structure CurrentCoil where
  record : Coil
  entryRef : Bool
  reading : Reading
deriving DecidableEq, Repr

/-- A claimed mark (R119, R126). -/
structure Claim where
  origin : Origin
  kind : MarkKind
  lotTag : Nat
deriving DecidableEq, Repr

/-- A cut sequence: its cause set, its claim with whether that mark has fired, and its boundary position
(R119, R126, R135). -/
structure CutSequence where
  causes : CauseSet
  claim : Option Claim
  claimFired : Bool
  boundary : Option Nat
deriving DecidableEq, Repr

/-- The coil builder (R119); `cutTimer` is when the cut timer started, `none` while it is stopped. -/
structure CoilBuilder where
  state : BuilderState
  plan : List PlanEntry
  current : Option CurrentCoil
  sequence : Option CutSequence
  outstanding : Option Claim
  cutTimer : Option Nat
  log : List Coil
  nextSerial : Nat
  repeatedCuts : Nat
  unrecordedCuts : Nat
deriving DecidableEq, Repr

/-! ## Hold unit (chapter 9) -/

/-- The observed state of the hold wire (R144). -/
inductive WireState where
  | running | held
deriving DecidableEq, Repr

/-- A pending change of the observed state (R144). -/
structure PendingWire where
  state : WireState
  since : Nat
deriving DecidableEq, Repr

/-- An entry of the holder list (R147). -/
structure Holder where
  station : Nat
  reasons : HoldSet
deriving DecidableEq, Repr

/-- The hold unit (R142, R144, R147). -/
structure HoldUnit where
  own : HoldSet
  observed : WireState
  pending : Option PendingWire
  holders : List Holder
  uncounted : Bool
deriving DecidableEq, Repr

/-! ## Line bus port (chapter 10) -/

/-- The states of the line bus port (R164). -/
inductive PortState where
  | silent | listen | active | muted
deriving DecidableEq, Repr

/-- The fields of a MARK payload (R187); the kind is its code, so that an unreadable one can be held (R59). -/
structure MarkPayload where
  position : Nat
  span : Nat
  kindCode : Nat
  hops : Nat
  lotTag : Nat
  originStation : Nat
  originSerial : Nat
  detail : BitVec 16
deriving DecidableEq, Repr

/-- The fields of a POSITION payload (R165). -/
structure PositionPayload where
  speed : Int
  activeLot : Nat
  own : HoldSet
  observed : WireState
  builder : BuilderState
deriving DecidableEq, Repr

/-- What a notice says, by its kind (R153). -/
inductive Payload where
  | hold (reasons : HoldSet)
  | release
  | mark (m : MarkPayload)
  | position (p : PositionPayload)
deriving DecidableEq, Repr

/-- A queued notice: its payload, its notice serial and stamp shift (0 outside MARK notices) and its attempt
count (R157 to R159). -/
structure Queued where
  payload : Payload
  serial : Nat
  shift : Nat
  attempts : Nat
deriving DecidableEq, Repr

/-- The places notices wait in (R159). -/
inductive Slot where
  | class0 | class1 | own | forwarded | class3
deriving DecidableEq, Repr

/-- The frame being sent: the place of its notice, whether a newer notice has taken that place (R159), and
the bits of the frame from its start bit to its last end bit. -/
structure InFlight where
  slot : Slot
  superseded : Bool
  bits : List Bool
deriving DecidableEq, Repr

/-- The line bus port (R153 to R168). `ownTurn` says that class 2's turn is at the own-origin FIFO (R160),
`positionSince` when the POSITION timer last started, `idleGaps` the idle gaps counted in MUTED (R164). `noFrameYet` says
that since the entry to LISTEN no frame has been started, judged or passed over (entry 39). -/
structure BusPort where
  state : PortState
  score : Nat
  class0 : Option Queued
  class1 : List Queued
  own : List Queued
  forwarded : List Queued
  class3 : Option Queued
  serialCounter : Nat
  ownTurn : Bool
  positionSince : Option Nat
  idleGaps : Nat
  busIdle : Bool
  noFrameYet : Bool
  sending : Option InFlight
  dropped : Nat
  unfit : Nat
  ownNumber : Nat
deriving DecidableEq, Repr

/-! ## Local link (chapter 12) -/

/-- The result codes (12.2). -/
inductive ResultCode where
  | done | badFrame | unknownCommand | wrongState | outOfRange | full | absent | inUse | empty | sameLot
  | inconsistent
deriving DecidableEq, Repr

/-- A reply: its result code and data bytes (R180). -/
structure Reply where
  code : ResultCode
  data : List Byte
deriving DecidableEq, Repr

/-- The local link (R179, R180, R183). `ldo` is the model's own: the bytes shifted out during the last frame
(entry 9). -/
structure LocalLink where
  reply : Option Reply
  latched : AttentionSet
  enabled : AttentionSet
  lostReplies : Nat
  badFrames : Nat
  ldo : List Byte
deriving DecidableEq, Repr

/-! ## The part -/

/-- The whole part. `now` is the station's time base in units of 10 microseconds (entry 2). `orders` and
`pending` are the model's own: the counter of open orders (entry 26), and the commands that wait. -/
structure State where
  station : StationState
  profile : Profile
  pins : Pins
  now : Nat
  length : LengthUnit
  sense : SenseUnit
  marks : MarkList
  feeds : FeedUnit
  lay : LayMonitor
  trim : TrimOutput
  knot : KnotMonitor
  lots : LotUnit
  builder : CoilBuilder
  hold : HoldUnit
  port : BusPort
  link : LocalLink
  orders : Nat
  pending : List Instr
deriving DecidableEq, Repr

/-- The part never stops at a fault: the spec answers every command with a result code and gives every event
an effect, so this type has no constructor. -/
inductive Fault where
deriving DecidableEq, Repr

/-- Why `exec` may decline a command. -/
inductive Refusal where
  /-- Raised by `exec` for a command without a meaning; no arm raises it. Safe: the model stops where the part
  would go on. -/
  | notModelled (mnemonic : String)
deriving DecidableEq, Repr

/-! ## Replacing one block

Every operation changes the part by these; Laws/State.lean has their lemmas. -/

/-- The part with another station state. -/
def State.withStation (s : State) (v : StationState) : State := { s with station := v }
/-- The part with another profile. -/
def State.withProfile (s : State) (v : Profile) : State := { s with profile := v }
/-- The part with other levels on its input pins. -/
def State.withPins (s : State) (v : Pins) : State := { s with pins := v }
/-- The part at another time. -/
def State.withNow (s : State) (v : Nat) : State := { s with now := v }
/-- The part with another length unit. -/
def State.withLength (s : State) (v : LengthUnit) : State := { s with length := v }
/-- The part with another sense unit. -/
def State.withSense (s : State) (v : SenseUnit) : State := { s with sense := v }
/-- The part with another mark list. -/
def State.withMarks (s : State) (v : MarkList) : State := { s with marks := v }
/-- The part with another feed and loss unit. -/
def State.withFeeds (s : State) (v : FeedUnit) : State := { s with feeds := v }
/-- The part with another lay monitor. -/
def State.withLay (s : State) (v : LayMonitor) : State := { s with lay := v }
/-- The part with another TRIM output. -/
def State.withTrim (s : State) (v : TrimOutput) : State := { s with trim := v }
/-- The part with another knot monitor. -/
def State.withKnot (s : State) (v : KnotMonitor) : State := { s with knot := v }
/-- The part with another lot unit. -/
def State.withLots (s : State) (v : LotUnit) : State := { s with lots := v }
/-- The part with another coil builder. -/
def State.withBuilder (s : State) (v : CoilBuilder) : State := { s with builder := v }
/-- The part with another hold unit. -/
def State.withHold (s : State) (v : HoldUnit) : State := { s with hold := v }
/-- The part with another line bus port. -/
def State.withPort (s : State) (v : BusPort) : State := { s with port := v }
/-- The part with another local link. -/
def State.withLink (s : State) (v : LocalLink) : State := { s with link := v }
/-- The part with another counter of open orders. -/
def State.withOrders (s : State) (v : Nat) : State := { s with orders := v }
/-- The part with another queue of commands. -/
def State.withPending (s : State) (v : List Instr) : State := { s with pending := v }

/-! ## Reset values -/

/-- The base set after a station reset (R108). -/
def resetBase : Params Nat :=
  { nominalLay := 1000, tolerance := 50, stopTolerance := 100, windowTwists := 40, faultWindows := 3
    settleTurns := 20, trimGain := 16, rowPitch := 100, knotStopCount := 8, brokenTwineRows := 3, stretch := 0
    spliceLimitA := 0, spliceLimitB := 2, densityLimitA := 10, densityLimitB := 50, shortLimit := 90 }

/-- The assignment of every sense input after a station reset (R18). -/
def resetAssignment : Assignment :=
  { service := .unused, detection := .rising, filter := 0, expectedKnots := 1 }

/-- Every feed slot after a station reset (R170). -/
def resetFeedConfig : FeedConfig := { sender := none, path := 0, ratio := 65536, timeout := 2000 }

/-- The working state of every sense input after a station reset (R18). -/
def resetInput : SenseInput := { filtered := none, pending := none, gauge := none }

/-- The profile after a station reset (R170). -/
def resetProfile : Profile :=
  { stationNumber := none, feedCount := 0, feeds := List.replicate 4 resetFeedConfig, source := .wheel
    wheelStep := 65536, direction := false, inputs := List.replicate 32 resetAssignment, twistsPerPulse := 1
    laySupervision := false, knotSupervision := false, coilBuilding := false, forwarding := false, stopTime := 0
    minimumCutSpacing := 0, cutTimeout := 5000, bitRate := 125, positionInterval := 500, base := resetBase }

/-- The part right after a station reset. DESIGN CHOICE (entries 1, 2, 30): the levels of the input pins, the
time, and the fields that mean nothing while their unit is stopped; every other value is the spec's. -/
def State.reset : State :=
  { station := .openState
    profile := resetProfile
    pins := { wha := false, whb := false, spin := false, sns := List.replicate 32 false, holdw := true }
    now := 0
    length := { runCount := 0, fraction := 0, saturated := false, speed := 0, sampleBase := 0, reference := none
                sampleDue := none, reverseClamps := 0, wheelSkips := 0 }
    sense := { inputs := List.replicate 32 resetInput, spinFiltered := none, spinPending := none }
    marks := { marks := [], nextSerial := 0, duplicates := 0, merges := 0, lost := 0, discarded := 0 }
    feeds := { table := [], losses := [], far := 0, badMarks := 0 }
    lay := { state := .off, working := none, settleCount := 0, window := none, faultRun := none
             trimCorrection := 0 }
    trim := { periodStart := none, highTime := 0, level := false }
    knot := { state := .off, cause := .start, working := none, sections := [], rowSerial := 0, history := []
              faultRun := none, stopRecord := none }
    lots := { table := [], activeTag := 0, effective := none, unknown := false }
    builder := { state := .off, plan := [], current := none, sequence := none, outstanding := none
                 cutTimer := none, log := [], nextSerial := 1, repeatedCuts := 0, unrecordedCuts := 0 }
    hold := { own := 0, observed := .running, pending := none, holders := [], uncounted := false }
    port := { state := .silent, score := 0, class0 := none, class1 := [], own := [], forwarded := []
              class3 := none, serialCounter := 0, ownTurn := true, positionSince := none, idleGaps := 0
              busIdle := false, noFrameYet := false, sending := none, dropped := 0, unfit := 0, ownNumber := 0 }
    link := { reply := none, latched := 0, enabled := 0, lostReplies := 0, badFrames := 0, ldo := [] }
    orders := 0
    pending := [] }

end Sys2Proof.Machine
end

