-- ==== Sys2Proof/Machine/Flags.lean ====
section
/-! DEFINITION. The sets of the part and their members: hold reasons (R142), attention conditions (R183), cut
reasons (R120), sets of inputs, with the bits R186 gives each member. -/

namespace Sys2Proof.Machine

/-- The bit of a hold reason (R186). -/
def HoldReason.bit : HoldReason → Nat
  | .orderedHold => 0
  | .layStop => 1
  | .knotStop => 2
  | .cut => 3
  | .logFull => 4
  | .boundaryLost => 5
  | .countLimit => 6

/-- The bit of an attention condition, in the order of R183. -/
def Condition.bit : Condition → Nat
  | .coilReady => 0
  | .planExhausted => 1
  | .planMismatch => 2
  | .cutFailed => 3
  | .lotUnknown => 4
  | .layStop => 5
  | .knotStop => 6
  | .boundaryLost => 7
  | .markLost => 8
  | .feedLost => 9
  | .feedFound => 10
  | .gap => 11
  | .retroLoss => 12
  | .lineHeld => 13
  | .lineReleased => 14
  | .countLimit => 15
  | .busMuted => 16
  | .busActive => 17
  | .noticeDropped => 18

/-- The bit of a cut reason (R186). -/
def CutReason.bit : CutReason → Nat
  | .target => 0
  | .lotChange => 1
  | .cutRequest => 2
  | .ordered => 3
  | .manual => 4
  | .restart => 5

/-- The set of one hold reason. -/
def oneReason (r : HoldReason) : HoldSet := 1#7 <<< r.bit
/-- A hold reason set with a reason given (R142). -/
def giveReason (r : HoldReason) (own : HoldSet) : HoldSet := own ||| oneReason r
/-- A hold reason set with a reason removed (R142). -/
def removeReason (r : HoldReason) (own : HoldSet) : HoldSet := own &&& ~~~(oneReason r)
/-- Whether a hold reason stands in a set. -/
def hasReason (r : HoldReason) (own : HoldSet) : Bool := own.getLsbD r.bit

/-- The set of one condition. -/
def oneCondition (c : Condition) : AttentionSet := 1#19 <<< c.bit
/-- Whether a condition is in a set. -/
def hasCondition (c : Condition) (conditions : AttentionSet) : Bool := conditions.getLsbD c.bit

/-- The cause set of one cut reason. -/
def oneCause (r : CutReason) : CauseSet := 1#6 <<< r.bit
/-- A cause set with a cut reason added. -/
def addCause (r : CutReason) (causes : CauseSet) : CauseSet := causes ||| oneCause r
/-- Whether a cut reason is in a cause set. -/
def hasCause (r : CutReason) (causes : CauseSet) : Bool := causes.getLsbD r.bit

/-- A set of inputs with one added. -/
def addInput (n : Nat) (inputs : InputSet) : InputSet := inputs ||| (1#32 <<< n)

/-- Whether a kind is a boundary kind (R30). -/
def MarkKind.isBoundary : MarkKind → Bool
  | .lotChange | .cutRequest => true
  | _ => false

/-- Whether a kind is one of the three fault kinds (R30). -/
def MarkKind.isFault : MarkKind → Bool
  | .layFault | .knotFault | .gaugeFault => true
  | _ => false

/-- The cut reason that a boundary kind gives (R126). -/
def MarkKind.cause : MarkKind → CutReason
  | .lotChange => .lotChange
  | _ => .cutRequest

/-- No flag of R29 set. -/
def noFlags : MarkFlags := { late := false, clamped := false, spanClamped := false }

/-- No flag of R120 set in an event entry. -/
def noEventFlags : EventFlags :=
  { late := false, carried := false, truncated := false, absorbed := false, void := false, clamped := false }

end Sys2Proof.Machine
end

