-- ==== Sys2Proof/Machine/Operands.lean ====
section
/-! DEFINITION. The operand forms of the host commands: the parameter table of R108 and R189, the codes of
R186, and the profile fields that PROFILE SET writes (R170, R171, R190). -/

namespace Sys2Proof.Machine

/-! ## The sixteen parameters -/

/-- The parameters in the order of their presence bits (R189). -/
def allParams : List Param :=
  [.nominalLay, .tolerance, .stopTolerance, .windowTwists, .faultWindows, .settleTurns, .trimGain, .rowPitch,
   .knotStopCount, .brokenTwineRows, .stretch, .spliceLimitA, .spliceLimitB, .densityLimitA, .densityLimitB,
   .shortLimit]

/-- The value of one parameter. -/
def paramOf {α : Type} (ps : Params α) : Param → α
  | .nominalLay => ps.nominalLay
  | .tolerance => ps.tolerance
  | .stopTolerance => ps.stopTolerance
  | .windowTwists => ps.windowTwists
  | .faultWindows => ps.faultWindows
  | .settleTurns => ps.settleTurns
  | .trimGain => ps.trimGain
  | .rowPitch => ps.rowPitch
  | .knotStopCount => ps.knotStopCount
  | .brokenTwineRows => ps.brokenTwineRows
  | .stretch => ps.stretch
  | .spliceLimitA => ps.spliceLimitA
  | .spliceLimitB => ps.spliceLimitB
  | .densityLimitA => ps.densityLimitA
  | .densityLimitB => ps.densityLimitB
  | .shortLimit => ps.shortLimit

/-- The parameters with the value a function gives each. -/
def paramsFrom {α : Type} (f : Param → α) : Params α :=
  { nominalLay := f .nominalLay, tolerance := f .tolerance, stopTolerance := f .stopTolerance
    windowTwists := f .windowTwists, faultWindows := f .faultWindows, settleTurns := f .settleTurns
    trimGain := f .trimGain, rowPitch := f .rowPitch, knotStopCount := f .knotStopCount
    brokenTwineRows := f .brokenTwineRows, stretch := f .stretch, spliceLimitA := f .spliceLimitA
    spliceLimitB := f .spliceLimitB, densityLimitA := f .densityLimitA, densityLimitB := f .densityLimitB
    shortLimit := f .shortLimit }

/-- A parameter's least and greatest value (R108). -/
def paramRange : Param → Nat × Nat
  | .nominalLay => (10, 65535)
  | .tolerance => (5, 250)
  | .stopTolerance => (10, 500)
  | .windowTwists => (4, 250)
  | .faultWindows => (1, 15)
  | .settleTurns => (0, 255)
  | .trimGain => (0, 255)
  | .rowPitch => (2, 2000)
  | .knotStopCount => (1, 255)
  | .brokenTwineRows => (2, 15)
  | .stretch => (0, 1000)
  | .spliceLimitA => (0, 255)
  | .spliceLimitB => (0, 255)
  | .densityLimitA => (0, 1000)
  | .densityLimitB => (0, 1000)
  | .shortLimit => (0, 100)

/-- The bytes a parameter takes in the lot record (R189). -/
def paramWidth : Param → Nat
  | .nominalLay | .stopTolerance | .rowPitch | .stretch | .densityLimitA | .densityLimitB => 2
  | _ => 1

/-- The first byte of a parameter in the lot record (R189). -/
def paramPlace : Param → Nat
  | .nominalLay => 3
  | .tolerance => 5
  | .stopTolerance => 6
  | .windowTwists => 8
  | .faultWindows => 9
  | .settleTurns => 10
  | .trimGain => 11
  | .rowPitch => 12
  | .knotStopCount => 14
  | .brokenTwineRows => 15
  | .stretch => 16
  | .spliceLimitA => 18
  | .spliceLimitB => 19
  | .densityLimitA => 20
  | .densityLimitB => 22
  | .shortLimit => 24

/-- A parameter's presence bit in the lot record (R189). -/
def paramBit : Param → Nat
  | .nominalLay => 0
  | .tolerance => 1
  | .stopTolerance => 2
  | .windowTwists => 3
  | .faultWindows => 4
  | .settleTurns => 5
  | .trimGain => 6
  | .rowPitch => 7
  | .knotStopCount => 8
  | .brokenTwineRows => 9
  | .stretch => 10
  | .spliceLimitA => 11
  | .spliceLimitB => 12
  | .densityLimitA => 13
  | .densityLimitB => 14
  | .shortLimit => 15

/-- Whether a value lies in a range, both ends included (00, "Numbers"). -/
def inRange (low high n : Nat) : Bool := decide (low ≤ n) && decide (n ≤ high)

/-- Whether a value lies in a parameter's range (R108). -/
def paramInRange (p : Param) (n : Nat) : Bool := inRange (paramRange p).1 (paramRange p).2 n

/-- A record completed with the base set (R108). -/
def completeRecord (r : LotRecord) (base : Params Nat) : Params Nat :=
  paramsFrom fun p => (paramOf r.params p).getD (paramOf base p)

/-- The number of the first consistency test that fails, none where all three pass (R109). -/
def failedTest (ps : Params Nat) : Option Nat :=
  if ps.stopTolerance < ps.tolerance then some 1
  else if ps.spliceLimitB < ps.spliceLimitA then some 2
  else if ps.densityLimitB < ps.densityLimitA then some 3
  else none

/-! ## Codes of R186 -/

/-- The code of a mark kind (R186). -/
def MarkKind.code : MarkKind → Nat
  | .splice => 0
  | .layFault => 1
  | .knotFault => 2
  | .gaugeFault => 3
  | .operator => 4
  | .loss => 5
  | .lotChange => 6
  | .cutRequest => 7

/-- The mark kind of a code, none where it is unreadable (R186). -/
def markKindOf : Nat → Option MarkKind
  | 0 => some .splice
  | 1 => some .layFault
  | 2 => some .knotFault
  | 3 => some .gaugeFault
  | 4 => some .operator
  | 5 => some .loss
  | 6 => some .lotChange
  | 7 => some .cutRequest
  | _ => none

/-- The service of a code (R190). -/
def serviceOf : Nat → Option Service
  | 0 => some .unused
  | 1 => some .knotSection
  | 2 => some .row
  | 3 => some .splice
  | 4 => some .gauge
  | 5 => some .cutDone
  | 6 => some .operator
  | _ => none

/-- The detection of a code (R190). -/
def detectionOf : Nat → Option Detection
  | 0 => some .rising
  | 1 => some .falling
  | 2 => some .high
  | 3 => some .low
  | _ => none

/-- The source of a code (R190). -/
def sourceOf : Nat → Option LengthSource
  | 0 => some .wheel
  | 1 => some .rows
  | _ => none

/-- A switch's code: 0 off or clear, 1 on or set (R190). -/
def switchOf : Nat → Option Bool
  | 0 => some false
  | 1 => some true
  | _ => none

/-! ## The profile fields of PROFILE SET (R170, R190) -/

/-- A value that lies in a range. -/
def ranged (low high n : Nat) : Option Nat := if inRange low high n then some n else none

/-- The feed slot of an index. -/
def feedConfig (p : Profile) (i : Nat) : FeedConfig := p.feeds.getD i resetFeedConfig

/-- The assignment of an input. -/
def assignment (p : Profile) (i : Nat) : Assignment := p.inputs.getD i resetAssignment

/-- A field without an index takes index 0 (R190). -/
def unindexed (index : Nat) (p : Option Profile) : Option Profile := if index = 0 then p else none

/-- A field of a feed slot, whose index is 0 to 3 (R190). -/
def feedField (p : Profile) (index : Nat) (c : Option FeedConfig) : Option Profile :=
  if index < 4 then c.map fun c => { p with feeds := p.feeds.set index c } else none

/-- A field of an input's assignment, whose index is 0 to 31 (R190). -/
def inputField (p : Profile) (index : Nat) (a : Option Assignment) : Option Profile :=
  if index < 32 then a.map fun a => { p with inputs := p.inputs.set index a } else none

/-- The parameter whose presence bit is `n` (R190). -/
def paramOfBit (n : Nat) : Option Param := allParams.find? fun p => paramBit p = n

/-- A base set with one parameter written. -/
def writeParam (base : Params Nat) (p : Param) (n : Nat) : Params Nat :=
  paramsFrom fun q => if q = p then n else paramOf base q

/-- Writing a base set parameter, its field code being 32 plus its presence bit (R190). -/
def writeBase (p : Profile) (bit value : Nat) : Option Profile :=
  match paramOfBit bit with
  | some q => if paramInRange q value then some { p with base := writeParam p.base q value } else none
  | none => none

/-- The profile with a field written, or none where the field, its index or the value is out of range
(R171, R190). -/
def writeProfile (p : Profile) (field index value : Nat) : Option Profile :=
  match field with
  | 1 => unindexed index ((ranged 1 62 value).map fun v => { p with stationNumber := some v })
  | 2 => unindexed index ((ranged 0 4 value).map fun v => { p with feedCount := v })
  | 3 => feedField p index ((ranged 1 62 value).map fun v => { feedConfig p index with sender := some v })
  | 4 => feedField p index ((ranged 0 2000000 value).map fun v => { feedConfig p index with path := v })
  | 5 => feedField p index ((ranged 32768 131072 value).map fun v => { feedConfig p index with ratio := v })
  | 6 => feedField p index ((ranged 200 10000 value).map fun v => { feedConfig p index with timeout := v })
  | 7 => unindexed index ((sourceOf value).map fun v => { p with source := v })
  | 8 => unindexed index ((ranged 1 16777215 value).map fun v => { p with wheelStep := v })
  | 9 => unindexed index ((switchOf value).map fun v => { p with direction := v })
  | 10 => inputField p index ((serviceOf value).map fun v => { assignment p index with service := v })
  | 11 => inputField p index ((detectionOf value).map fun v => { assignment p index with detection := v })
  | 12 => inputField p index ((ranged 0 255 value).map fun v => { assignment p index with filter := v })
  | 13 => inputField p index ((ranged 1 64 value).map fun v => { assignment p index with expectedKnots := v })
  | 14 => unindexed index ((ranged 1 4 value).map fun v => { p with twistsPerPulse := v })
  | 15 => unindexed index ((switchOf value).map fun v => { p with laySupervision := v })
  | 16 => unindexed index ((switchOf value).map fun v => { p with knotSupervision := v })
  | 17 => unindexed index ((switchOf value).map fun v => { p with coilBuilding := v })
  | 18 => unindexed index ((switchOf value).map fun v => { p with forwarding := v })
  | 19 => unindexed index ((ranged 0 10000 value).map fun v => { p with stopTime := v })
  | 20 => unindexed index ((ranged 0 100000 value).map fun v => { p with minimumCutSpacing := v })
  | 21 => unindexed index ((ranged 1000 60000 value).map fun v => { p with cutTimeout := v })
  | 22 => unindexed index (if value = 125 ∨ value = 250 then some { p with bitRate := value } else none)
  | 23 => unindexed index ((ranged 100 2000 value).map fun v => { p with positionInterval := v })
  | _ => if 32 ≤ field then unindexed index (writeBase p (field - 32) value) else none

/-! ## The other arguments -/

/-- Whether a lot record's tag and present parameters lie in their ranges (R110). -/
def recordInRange (r : LotRecord) : Bool :=
  inRange 1 255 r.tag && allParams.all fun p => ((paramOf r.params p).all (paramInRange p))

/-- The plan entry of PLAN APPEND's arguments, none where a field is out of range (R121, R189): byte 6 holds
the package kind in bits 0 to 3 and the end flag in bit 7, and its bits 4 to 6 must be clear. -/
def planEntryOf (lotTag target count packageByte : Nat) : Option PlanEntry :=
  if lotTag ≤ 255 ∧ (target = 0 ∨ (1000 ≤ target ∧ target ≤ 4000000)) ∧ 1 ≤ count ∧ count ≤ 255 ∧
      packageByte ≤ 255 ∧ packageByte / 16 % 8 = 0 then
    some { lotTag := lotTag, target := target, count := count, package := packageByte % 16
           endFlag := packageByte.testBit 7 }
  else none

/-- The set of conditions of ATTENTION ENABLE's argument, none where it names one outside the nineteen
(R184, R186). -/
def attentionSetOf (mask : Nat) : Option AttentionSet :=
  if mask < 2 ^ 19 then some (BitVec.ofNat 19 mask) else none

/-- The host's mark kinds: OPERATOR or CUT_REQUEST (R47). -/
def hostMarkKind (code : Nat) : Option MarkKind :=
  match markKindOf code with
  | some .operator => some .operator
  | some .cutRequest => some .cutRequest
  | _ => none

end Sys2Proof.Machine
end

