-- ==== Sys2Proof/Machine/Ops.lean ====
section
/-! DEFINITION. What the blocks read of one another, and the operations they share: latching a condition (R183),
offering a notice to the line bus port (R158, R159), and changing the own hold reason set (R142, R146). -/

namespace Sys2Proof.Machine

/-! ## Readings -/

/-- The full-precision position, in 1/65,536 mm (R1). -/
def State.fullPosition (s : State) : Nat := s.length.runCount * 65536 + s.length.fraction

/-- The floor: the current coil's start while there is one, and 0 otherwise (R7). -/
def State.floor (s : State) : Nat :=
  match s.builder.current with
  | some cur => cur.record.start
  | none => 0

/-- The effective set; in OPEN, where it is not kept, the base set as the profile holds it (R107, R117). -/
def State.effective (s : State) : Params Nat := s.lots.effective.getD s.profile.base

/-- The station's number, 0 while unset (R170). -/
def State.stationNumber (s : State) : Nat := s.profile.stationNumber.getD 0

/-- Whether the station is RUNNING (R169). -/
def State.isRunning (s : State) : Bool := decide (s.station = .running)

/-- Whether this station pulls HOLDW (R143). -/
def State.pullsWire (s : State) : Bool := decide (s.hold.own ≠ 0)

/-- Whether CUT is asserted (R119). -/
def State.cutAsserted (s : State) : Bool := decide (s.builder.state = .cutting)

/-- Whether ATTN is asserted (R183). -/
def State.attn (s : State) : Bool := decide (s.link.latched &&& s.link.enabled ≠ 0)

/-- Whether a hold is unattributed (R149). -/
def State.unattributed (s : State) : Bool :=
  decide (s.hold.observed = .held ∧ s.hold.own = 0 ∧ s.hold.holders = [])

/-- Whether a time that has been set has come. -/
def timeCome (due : Option Nat) (now : Nat) : Bool :=
  match due with
  | some t => decide (t ≤ now)
  | none => false

/-- Whether the first of two things whose order the spec leaves open is taken first (entry 26). -/
def State.firstOpen (s : State) : Bool := Config.firstOfTwo s.orders

/-- An open order has been used (entry 26). -/
def State.useOrder (s : State) : State := s.withOrders (s.orders + 1)

/-! ## Attention -/

/-- A block latches a condition (R183). -/
def latch (c : Condition) (s : State) : State :=
  s.withLink { s.link with latched := s.link.latched ||| oneCondition c }

/-! ## Offers to the line bus port -/

/-- A notice as it is queued: attempt count 0 and stamp shift 0 (R157, R159). -/
def freshNotice (payload : Payload) (serial : Nat) : Queued :=
  { payload := payload, serial := serial, shift := 0, attempts := 0 }

/-- The frame being sent, once a newer notice has taken the place of its own (R159). -/
def supersede (slot : Slot) (sending : Option InFlight) : Option InFlight :=
  sending.map fun f => if f.slot = slot then { f with superseded := true } else f

/-- An offer to class 0, replacing what its place holds (R159). -/
def offerClass0 (payload : Payload) (s : State) : State :=
  s.withPort { s.port with class0 := some (freshNotice payload 0), sending := supersede .class0 s.port.sending }

/-- An offer to class 3, replacing what its place holds (R159). -/
def offerClass3 (payload : Payload) (s : State) : State :=
  s.withPort { s.port with class3 := some (freshNotice payload 0), sending := supersede .class3 s.port.sending }

/-- The place of a MARK notice: class 1 for a boundary kind, and in class 2 the FIFO of its source (R46, R159). -/
def markSlot (kind : MarkKind) (source : MarkSource) : Slot :=
  if kind.isBoundary then .class1
  else match source with
    | .here => .own
    | .feed _ => .forwarded

/-- The queue of a MARK notice's place. -/
def fifoOf (p : BusPort) : Slot → List Queued
  | .class1 => p.class1
  | .own => p.own
  | .forwarded => p.forwarded
  | .class0 => p.class0.toList
  | .class3 => p.class3.toList

/-- The port with another queue in the place of a MARK notice. -/
def withFifo (p : BusPort) (slot : Slot) (q : List Queued) : BusPort :=
  match slot with
  | .class1 => { p with class1 := q }
  | .own => { p with own := q }
  | .forwarded => { p with forwarded := q }
  | .class0 => { p with class0 := q.head? }
  | .class3 => { p with class3 := q.head? }

/-- A notice is dropped: NOTICE_DROPPED is latched and the tally counts it (R156, R159). -/
def dropNotice (s : State) : State :=
  latch .noticeDropped (s.withPort { s.port with dropped := tally s.port.dropped })

/-- A MARK notice is offered: it takes the notice serial counter's value, and is queued at the tail of its FIFO
or dropped where that is full (R158, R159). -/
def offerMark (slot : Slot) (m : MarkPayload) (s : State) : State :=
  let port := { s.port with serialCounter := nextSerial8 s.port.serialCounter }
  if (fifoOf s.port slot).length < fifoPlaces then
    s.withPort (withFifo port slot (fifoOf s.port slot ++ [freshNotice (.mark m) s.port.serialCounter]))
  else dropNotice (s.withPort port)

/-! ## The own hold reason set -/

/-- A request to the hold unit: the set becomes `own`; where that is a change, it is reported on the line bus
(R142, R146). -/
def setReasons (own : HoldSet) (s : State) : State :=
  if own = s.hold.own then s
  else offerClass0 (if own = 0 then .release else .hold own) (s.withHold { s.hold with own := own })

/-- A block gives a hold reason (R142). -/
def giveHold (r : HoldReason) (s : State) : State := setReasons (giveReason r s.hold.own) s

/-- A block removes a hold reason (R142). -/
def removeHold (r : HoldReason) (s : State) : State := setReasons (removeReason r s.hold.own) s

end Sys2Proof.Machine
end

