-- ==== Sys2Proof/Machine/Frames.lean ====
section
/-! DEFINITION. The notice frame bit by bit (R153, R187, R188): how a notice is written as a frame, and how a
frame that is received is read and judged (R161, R162). -/

namespace Sys2Proof.Machine

/-! ## Codes -/

/-- The class of a place in the queues (R159). -/
def slotClass : Slot → Nat
  | .class0 => 0
  | .class1 => 1
  | .own | .forwarded => 2
  | .class3 => 3

/-- The kind code of a notice (R187). -/
def kindCodeOf : Payload → Nat
  | .hold _ => 1
  | .release => 2
  | .mark _ => 3
  | .position _ => 4

/-- The code of a builder state (R186). -/
def builderCode : BuilderState → Nat
  | .off => 0
  | .building => 1
  | .cutDue => 2
  | .cutting => 3
  | .cutFailed => 4

/-- The builder state of a code; a receiving WK418 does not keep it (R165). -/
def builderOf : Nat → BuilderState
  | 1 => .building
  | 2 => .cutDue
  | 3 => .cutting
  | 4 => .cutFailed
  | _ => .off

/-- A header: class × 64 + station (R153). -/
def headerOf (cls station : Nat) : Nat := cls * 64 + station

/-! ## Writing a frame -/

/-- The 14 bytes of a MARK payload (R187). -/
def markBytes (m : MarkPayload) : List Byte :=
  be 4 m.position ++ be 3 m.span ++ be 1 (m.kindCode * 16 + m.hops) ++ be 1 m.lotTag ++ be 1 m.originStation ++
    be 2 m.originSerial ++ be 2 m.detail.toNat

/-- Byte 4 of a POSITION payload: bit 7 the observed wire, bits 0 to 3 the builder state (R187). -/
def positionStatus (p : PositionPayload) : Nat :=
  (match p.observed with
    | .held => 128
    | .running => 0) + builderCode p.builder

/-- The payload bytes of a notice (R187). -/
def payloadBytes : Payload → List Byte
  | .hold reasons => be 1 reasons.toNat
  | .release => []
  | .mark m => markBytes m
  | .position p => beInt 2 p.speed ++ be 1 p.activeLot ++ be 1 p.own.toNat ++ be 1 (positionStatus p)

/-- Whether frames of a class carry a notice serial (R153). -/
def carriesSerial (cls : Nat) : Bool := decide (cls = 1) || decide (cls = 2)

/-- The bits of a frame from its header to its last payload bit (R153, R187). -/
def frameContent (cls station kindCode serial stamp : Nat) (payload : List Byte) : List Bool :=
  bitsOf 8 (headerOf cls station) ++ bitsOf 4 kindCode ++ (if carriesSerial cls then bitsOf 8 serial else []) ++
    bitsOf 32 stamp ++ bitsOf 5 payload.length ++ byteBits payload

/-- A frame's content, its check and its 7 recessive end bits: all that follows the start bit (R153, R188). -/
def frameTail (content : List Bool) : List Bool :=
  content ++ bitsOf 16 (frameCheck content).toNat ++ List.replicate 7 true

/-- The whole frame of a queued notice, from its dominant start bit (R153). -/
def frameBits (station : Nat) (slot : Slot) (q : Queued) (stamp : Nat) : List Bool :=
  false :: frameTail (frameContent (slotClass slot) station (kindCodeOf q.payload) q.serial stamp
    (payloadBytes q.payload))

/-! ## Reading a frame -/

/-- The fields read from a frame (R153); the serial is 0 where the class carries none. -/
structure RxFrame where
  cls : Nat
  station : Nat
  kindCode : Nat
  serial : Nat
  stamp : Nat
  payload : List Byte
deriving DecidableEq, Repr

/-- How a received frame is judged (R161). -/
inductive Judgement where
  | framingError
  | checkFailure
  | good (f : RxFrame)
deriving DecidableEq, Repr

/-- The number in the first `w` bits of what is read. -/
def readNat (w : Nat) (bits : List Bool) : Nat := ofBits (takeBits w bits)

/-- The number of bits of a received frame from its header to its last payload bit, by its class and length fields
(R153). -/
def contentLength (bits : List Bool) : Nat :=
  let serialBits := if carriesSerial (readNat 8 bits / 64) then 8 else 0
  12 + serialBits + 37 + 8 * readNat 5 ((bits.drop (12 + serialBits)).drop 32)

/-- The bits of a received frame to its last end bit, those not carried being recessive (R153; entry 23). -/
def wholeFrame (bits : List Bool) : List Bool :=
  bits ++ List.replicate (contentLength bits + 23 - bits.length) true

/-- The number of recessive bit times at the end of a frame (R154). -/
def recessiveEnd (bits : List Bool) : Nat := (bits.reverse.takeWhile id).length

/-- Whether the bus is idle at the end of a frame: a gap has completed, and no dominant bit has followed it, the 7 end
bits counting (R154; entry 21). -/
def idleAfterFrame (gap : Bool) (bits : List Bool) : Bool := gap && decide (gapBits ≤ recessiveEnd bits)

/-- A received frame is judged, its start having come early or not (R161). -/
def judgeFrame (early : Bool) (bits : List Bool) : Judgement :=
  let header := readNat 8 bits
  let serialBits := if carriesSerial (header / 64) then 8 else 0
  let afterKind := bits.drop 12
  let afterSerial := afterKind.drop serialBits
  let length := readNat 5 (afterSerial.drop 32)
  let afterContent := bits.drop (contentLength bits)
  if early ∨ 16 < length ∨ takeBits 7 (afterContent.drop 16) ≠ List.replicate 7 true then .framingError
  else if readNat 16 afterContent ≠ (frameCheck (takeBits (contentLength bits) bits)).toNat then .checkFailure
  else .good
    { cls := header / 64, station := header % 64, kindCode := readNat 4 (bits.drop 8)
      serial := if carriesSerial (header / 64) then readNat 8 afterKind else 0
      stamp := readNat 32 afterSerial
      payload := takeBytes length (afterSerial.drop 37) }

/-- The payload length of a kind (R153). -/
def kindLength : Nat → Nat
  | 1 => 1
  | 2 => 0
  | 3 => 14
  | _ => 5

/-- Whether a kind belongs to a class (R153). -/
def kindOfClass (cls kindCode : Nat) : Bool :=
  match cls with
  | 0 => decide (kindCode = 1) || decide (kindCode = 2)
  | 1 => decide (kindCode = 3)
  | 2 => decide (kindCode = 3)
  | _ => decide (kindCode = 4)

/-- Whether a good frame is fit (R162). -/
def isFit (f : RxFrame) : Bool :=
  inRange 1 62 f.station && kindOfClass f.cls f.kindCode && decide (f.payload.length = kindLength f.kindCode)

/-- The byte at a place of a payload. -/
def byteAt (bytes : List Byte) (i : Nat) : Nat := ((bytes.drop i).headD 0).toNat

/-- The number in `w` bytes at a place of a payload. -/
def fieldAt (bytes : List Byte) (i w : Nat) : Nat := ofBe ((bytes.drop i).take w)

/-- A MARK payload as it is read (R187). -/
def readMark (bytes : List Byte) : MarkPayload :=
  { position := fieldAt bytes 0 4, span := fieldAt bytes 4 3, kindCode := byteAt bytes 7 / 16
    hops := byteAt bytes 7 % 16, lotTag := byteAt bytes 8, originStation := byteAt bytes 9
    originSerial := fieldAt bytes 10 2, detail := BitVec.ofNat 16 (fieldAt bytes 12 2) }

/-- A hold reason set as it is read, its unused high bit ignored (R186). -/
def readHoldSet (n : Nat) : HoldSet := BitVec.ofNat 7 n

/-- A POSITION payload as it is read (R187). -/
def readPosition (bytes : List Byte) : PositionPayload :=
  { speed := ofTwos16 (fieldAt bytes 0 2), activeLot := byteAt bytes 2, own := readHoldSet (byteAt bytes 3)
    observed := if (byteAt bytes 4).testBit 7 then .held else .running
    builder := builderOf (byteAt bytes 4 % 16) }

/-- The payload of a fit frame (R187). -/
def readPayload (kindCode : Nat) (bytes : List Byte) : Payload :=
  match kindCode with
  | 1 => .hold (readHoldSet (byteAt bytes 0))
  | 2 => .release
  | 3 => .mark (readMark bytes)
  | _ => .position (readPosition bytes)

end Sys2Proof.Machine
end

