-- ==== Sys2Proof/Machine/Coils.lean ====
section
/-! DEFINITION. The coil builder (chapter 8): where the next cut falls, the cut sequence, opening and closing a
coil, the marks in it, and its loss test. -/

namespace Sys2Proof.Machine

/-- The part with its current coil changed. -/
def changeCoil (f : CurrentCoil → CurrentCoil) (s : State) : State :=
  s.withBuilder { s.builder with current := s.builder.current.map f }

/-- The part with the current coil's record changed. -/
def changeRecord (f : Coil → Coil) (s : State) : State :=
  changeCoil (fun cur => { cur with record := f cur.record }) s

/-- What a coil reads from the effective set (R120). -/
def readingOf (ps : Params Nat) : Reading :=
  { stretch := ps.stretch, spliceA := ps.spliceLimitA, spliceB := ps.spliceLimitB, densityA := ps.densityLimitA
    densityB := ps.densityLimitB, shortLimit := ps.shortLimit }

/-! ## Where the next cut falls (8.4) -/

/-- Whether a position clears the spacing of a coil that starts at `start` (R125). -/
def clearsSpacing (s : State) (start position : Nat) : Bool :=
  decide (start + s.profile.minimumCutSpacing ≤ position) && decide (start < position)

/-- Whether a waiting mark qualifies as a cut point of a coil that starts at `start` (R125). -/
def qualifies (s : State) (start : Nat) (m : Mark) : Bool :=
  m.kind.isBoundary && clearsSpacing s start m.position &&
    (m.kind != .lotChange || m.lotTag != s.lots.activeTag)

/-- The first waiting boundary mark that qualifies (R125). -/
def firstQualifying (s : State) (start : Nat) : Option Mark := s.marks.marks.find? (qualifies s start)

/-- The lower of two positions, either of which may be absent. -/
def lowerOf : Option Nat → Option Nat → Option Nat
  | some a, some b => some (min a b)
  | some a, none => some a
  | none, b => b

/-- The next cut position of the current coil, if any (R125). -/
def nextCutPosition (s : State) (cur : CurrentCoil) : Option Nat :=
  lowerOf cur.record.planned ((firstQualifying s cur.record.start).map Mark.position)

/-- The lead (R126). -/
def lead (s : State) : Nat := min 65535 ((max s.length.speed 0).toNat * s.profile.stopTime / 1000)

/-- The run count plus the lead, against which the cut test is made (R126). -/
def cutReach (s : State) : Nat := s.length.runCount + lead s

/-- Whether the planned cut position is reached (R126). -/
def targetReached (s : State) (cur : CurrentCoil) : Bool := cur.record.planned.any (fun p => decide (p ≤ cutReach s))

/-- The first qualifying boundary mark, where it is reached (R126). -/
def boundaryReached (s : State) (cur : CurrentCoil) : Option Mark :=
  (firstQualifying s cur.record.start).filter fun m => decide (m.position ≤ cutReach s)

/-- A cause set with TARGET added where the planned cut position is reached (R126). -/
def withTarget (s : State) (cur : CurrentCoil) (causes : CauseSet) : CauseSet :=
  if targetReached s cur then addCause .target causes else causes

/-- The claim that a mark makes (R126). -/
def claimOf (m : Mark) : Claim := { origin := m.origin, kind := m.kind, lotTag := m.lotTag }

/-- The boundary position that a claimed mark gives (R126). -/
def boundaryOf (m : Mark) : Option Nat := if m.kind = .lotChange then some m.position else none

/-! ## The cut sequence (8.5) -/

/-- The builder enters CUTTING: CUT is asserted, the cut timer starts, and CUT stands in the hold reason set in
place of LOG_FULL (R119, R127). -/
def enterCutting (s : State) : State :=
  let t := s.withBuilder { s.builder with state := .cutting, cutTimer := some s.now }
  setReasons (giveReason .cut (removeReason .logFull t.hold.own)) t

/-- A sequence started in BUILDING goes on by the coil log (R127). -/
def goOn (s : State) : State :=
  if s.builder.log.length < logPlaces then enterCutting s
  else giveHold .logFull (s.withBuilder { s.builder with state := .cutDue })

/-- The builder starts a sequence with its cause set and, if any, the mark it claims (R126). -/
def startSequence (causes : CauseSet) (claim : Option Mark) (fired : Bool) (s : State) : State :=
  goOn (s.withBuilder { s.builder with
    sequence := some { causes := causes, claim := claim.map claimOf, claimFired := fired
                       boundary := claim.bind boundaryOf } })

/-- The causes found reached, on top of those given, with the reached boundary mark as the claim (R126). -/
def startReached (given : CauseSet) (s : State) : State :=
  match s.builder.current with
  | none => s
  | some cur =>
    let claim := boundaryReached s cur
    let causes := match claim with
      | some m => addCause m.kind.cause given
      | none => given
    startSequence (withTarget s cur causes) claim false s

/-- The cut test, made in BUILDING (R126). -/
def cutTest (s : State) : State :=
  match s.builder.state, s.builder.current with
  | .building, some cur =>
    match nextCutPosition s cur with
    | some p => if p ≤ cutReach s then startReached 0 s else s
    | none => s
  | _, _ => s

/-- The sequence standing with its cause set changed. -/
def changeCauses (f : CauseSet → CauseSet) (s : State) : State :=
  s.withBuilder { s.builder with sequence := s.builder.sequence.map fun q => { q with causes := f q.causes } }

/-- While a sequence stands, an advance adds TARGET when it is reached (R126). -/
def addTarget (s : State) : State :=
  match s.builder.sequence, s.builder.current with
  | some _, some cur => changeCauses (withTarget s cur) s
  | _, _ => s

/-- The builder's part in an advance: TARGET for the sequence standing, the cut test in BUILDING (R126). -/
def builderAdvance (s : State) : State := cutTest (addTarget s)

/-! ## Incomplete coils (8.8) -/

/-- Whether a loss interval meets the stretch of product from `a` to `b` (R62). -/
def meets (i : LossInterval) (a b : Nat) : Bool := decide (i.low ≤ b) && i.high.all (fun h => decide (a ≤ h))

/-- The current coil gains INCOMPLETE (R137). -/
def markIncomplete (s : State) : State :=
  changeRecord (fun c => { c with flags := { c.flags with incomplete := true } }) s

/-- The loss test of the current coil against intervals (R137). -/
def lossTest (intervals : List LossInterval) (s : State) : State :=
  match s.builder.current with
  | some cur => if intervals.any (fun i => meets i cur.record.start s.length.runCount) then markIncomplete s else s
  | none => s

/-! ## Opening a coil (8.3) -/

/-- The run target of a relaxed target (R123). -/
def runTarget (target stretch : Nat) : Nat := ceilDiv (target * (10000 + stretch)) 10000

/-- The planned cut position of a coil with a target (R123). -/
def plannedCut (start target stretch : Nat) : Nat := min (start + runTarget target stretch) maxCount

/-- Whether a plan entry matches a lot tag: its own is 0 or the same (R123). -/
def entryMatches (e : PlanEntry) (tag : Nat) : Bool := decide (e.lotTag = 0) || decide (e.lotTag = tag)

/-- The planned cut position recomputed from the target and the reading held (R123, R134). -/
def replan (cur : CurrentCoil) : CurrentCoil :=
  { cur with record := { cur.record with
      planned := if cur.record.target = 0 then none
                 else some (plannedCut cur.record.start cur.record.target cur.reading.stretch) } }

/-- The coil takes a plan entry's target, package kind and reference (R123, R124). -/
def takeEntry (e : PlanEntry) (cur : CurrentCoil) : CurrentCoil :=
  replan { cur with record := { cur.record with target := e.target, package := e.package }, entryRef := true }

/-- Whether the outstanding claim is a LOT_CHANGE of a lot tag (R123). -/
def awaitsLot (s : State) (tag : Nat) : Bool :=
  s.builder.outstanding.any fun c => decide (c.kind = .lotChange) && decide (c.lotTag = tag)

/-- The look at the head of the plan at an opening (R123, step 4). -/
def takeHead (s : State) : State :=
  match s.builder.plan with
  | [] => latch .planExhausted s
  | e :: _ =>
    if entryMatches e s.lots.activeTag then changeCoil (takeEntry e) s
    else if awaitsLot s e.lotTag then s
    else latch .planMismatch s

/-- The counts a carried event adds to the coil it is carried into (R133). -/
def addCarried (c : Coil) (e : Event) : Coil :=
  { c with
    faultTotal := min (c.faultTotal + e.span) maxCount
    gauges := if e.kind = .gaugeFault then tally c.gauges else c.gauges }

/-- A coil record as it opens (R123, steps 1 to 3). -/
def newCoil (serial lotTag start : Nat) : Coil :=
  { serial := serial, lotTag := lotTag, package := 0, start := start, target := 0, planned := none, closing := none
    flags := { incomplete := false, short := false, lateCut := false, confirmed := false }
    splices := 0, gauges := 0, faultTotal := 0, events := [], unlisted := 0 }

/-- A coil opens at `start`, with the faults carried into it (R123). -/
def openCoil (start : Nat) (carried : List Event) (s : State) : State :=
  let cur : CurrentCoil :=
    { record := newCoil s.builder.nextSerial s.lots.activeTag start, entryRef := false
      reading := readingOf s.effective }
  let opened := s.withBuilder { s.builder with
    current := some cur, nextSerial := nextCoilSerial s.builder.nextSerial }
  let placed := changeRecord (fun c => carried.foldl addCarried { c with events := carried }) (takeHead opened)
  cutTest (lossTest placed.feeds.losses placed)

/-- A late take: in BUILDING, a coil without an entry reference and without a target looks at the head of the
plan, and the cut test follows (R124). -/
def lateTake (s : State) : State :=
  match s.builder.state, s.builder.current with
  | .building, some cur =>
    if cur.entryRef = false ∧ cur.record.target = 0 then
      match s.builder.plan with
      | [] => s
      | e :: _ =>
        if entryMatches e s.lots.activeTag then cutTest (changeCoil (takeEntry e) s)
        else latch .planMismatch s
    else s
  | _, _ => s

/-! ## Closing and grading (8.7) -/

/-- The end of an event's reach in a coil that starts at `start` (R133). -/
def eventReach (start : Nat) (e : Event) : Nat := start + e.offset + e.span

/-- An event entry settled at the close of its coil (R133). -/
def settleEvent (start endAt : Nat) (e : Event) : Event :=
  if endAt < eventReach start e then
    { e with span := endAt - max start (start + e.offset), flags := { e.flags with truncated := true } }
  else e

/-- What the settling of an entry takes from the fault span total (R133). -/
def settledAway (start endAt : Nat) (e : Event) : Nat :=
  if e.kind.isFault then e.span - (settleEvent start endAt e).span else 0

/-- The copy of a truncated fault that the next coil receives (R133). -/
def carriedCopy (start endAt : Nat) (e : Event) : Option Event :=
  if endAt < eventReach start e ∧ e.kind.isFault then
    some { e with
      offset := 0, span := eventReach start e - endAt
      flags := { noEventFlags with late := e.flags.late, clamped := e.flags.clamped, carried := true } }
  else none

/-- The relaxed length of a run length (R120). -/
def relaxedLength (runLength stretch : Nat) : Nat := runLength * 10000 / (10000 + stretch)

/-- The density of a coil, in per mille (R136). -/
def density (faultTotal runLength : Nat) : Nat :=
  if runLength = 0 then 0 else min 1000 (faultTotal * 1000 / runLength)

/-- The grade of a coil (R136). -/
def gradeOf (flags : CoilFlags) (splices gauges density : Nat) (r : Reading) : Grade :=
  if flags.incomplete then .hold
  else if flags.short then .c
  else if splices ≤ r.spliceA ∧ density ≤ r.densityA ∧ gauges = 0 then .a
  else if splices ≤ r.spliceB ∧ density ≤ r.densityB then .b
  else .c

/-- Whether a coil closed without TARGET is SHORT (R135). -/
def isShort (target relaxed shortLimit : Nat) (causes : CauseSet) : Bool :=
  decide (target ≠ 0) && !hasCause .target causes && decide (relaxed * 100 < target * shortLimit)

/-- The record of a coil closed at `endAt` with a cause set (R135, steps 1 to 6). -/
def closedRecord (cur : CurrentCoil) (endAt : Nat) (causes : CauseSet) (boundary : Option Nat)
    (lateCut confirmed : Bool) : Coil :=
  let c := cur.record
  let runLength := endAt - c.start
  let relaxed := relaxedLength runLength cur.reading.stretch
  let total := c.events.foldl (fun t e => t - settledAway c.start endAt e) c.faultTotal
  let flags := { c.flags with
    short := isShort c.target relaxed cur.reading.shortLimit causes
    lateCut := lateCut, confirmed := confirmed }
  { c with
    events := c.events.map (settleEvent c.start endAt)
    faultTotal := total
    flags := flags
    closing := some
      { endAt := endAt, runLength := runLength, relaxed := relaxed, causes := causes
        boundaryOffset := if hasCause .lotChange causes then boundary.map (fun b => (endAt : Int) - (b : Int)) else none
        grade := gradeOf flags c.splices c.gauges (density total runLength) cur.reading } }

/-- The plan after the close of a coil that held the entry reference: the head is charged, and removed where its
count is used up, or where a lot change ends a lot's entry (R135). -/
def chargePlan (causes : CauseSet) : List PlanEntry → List PlanEntry
  | [] => []
  | e :: rest =>
    if e.count ≤ 1 ∨ (e.lotTag ≠ 0 ∧ hasCause .lotChange causes) then rest
    else { e with count := e.count - 1 } :: rest

/-- The outstanding claim after a close: the claim of the sequence where it has not fired, one from before the close
being dropped; a close without a sequence, a MANUAL one, keeps the claim that stood (R131, R135; DEDUCED, entry 16). -/
def claimAfter (sequence : Option CutSequence) (before : Option Claim) : Option Claim :=
  match sequence with
  | some q => if q.claimFired then none else q.claim
  | none => before

/-- The close of the current coil at the run count: its record enters the log, COIL_READY is latched, the plan is
charged and the sequence ends (R135). -/
def closeCoil (causes : CauseSet) (lateCut confirmed : Bool) (s : State) : State :=
  match s.builder.current with
  | none => s
  | some cur =>
    let boundary := s.builder.sequence.bind CutSequence.boundary
    latch .coilReady (s.withBuilder { s.builder with
      current := none
      log := s.builder.log ++ [closedRecord cur s.length.runCount causes boundary lateCut confirmed]
      plan := if cur.entryRef then chargePlan causes s.builder.plan else s.builder.plan
      sequence := none
      outstanding := claimAfter s.builder.sequence s.builder.outstanding })

/-- The faults that the close of the current coil at the run count carries on (R133). -/
def carriedFaults (s : State) : List Event :=
  match s.builder.current with
  | some cur => cur.record.events.filterMap (carriedCopy cur.record.start s.length.runCount)
  | none => []

/-- A close at the run count and the opening of the coil after it there (R123, R135). -/
def closeAndOpen (causes : CauseSet) (lateCut confirmed : Bool) (s : State) : State :=
  openCoil s.length.runCount (carriedFaults s) (closeCoil causes lateCut confirmed s)

/-- The causes of the sequence standing. -/
def sequenceCauses (s : State) : CauseSet :=
  match s.builder.sequence with
  | some q => q.causes
  | none => 0

/-- A cut is settled: the timer stops, CUT is deasserted and leaves the hold reason set, the coil closes with
the sequence's causes, and the builder is BUILDING with the next coil (R128, R129). -/
def settleCut (lateCut confirmed : Bool) (s : State) : State :=
  let causes := sequenceCauses s
  closeAndOpen causes lateCut confirmed
    (removeHold .cut (s.withBuilder { s.builder with state := .building, cutTimer := none }))

/-- A cut that cannot be logged (R131, third case). -/
def unrecordedCut (s : State) : State :=
  let t := latch .cutFailed (markIncomplete s)
  t.withBuilder { t.builder with unrecordedCuts := tally t.builder.unrecordedCuts }

/-- A CUT_DONE edge (R128, R131). -/
def cutDone (s : State) : State :=
  match s.builder.state with
  | .off => s
  | .cutting => settleCut false false s
  | .cutFailed => settleCut true false s
  | .cutDue => unrecordedCut s
  | .building =>
    if s.length.runCount = s.floor then
      s.withBuilder { s.builder with repeatedCuts := tally s.builder.repeatedCuts }
    else if s.builder.log.length < logPlaces then closeAndOpen (oneCause .manual) false false s
    else unrecordedCut s

/-! ## Marks in the coil (8.6) -/

/-- A mark's span in a coil that starts at `start`, as it is recorded (R132). -/
def spanInCoil (start : Nat) (m : Mark) : Nat := m.position + m.span - max m.position start

/-- The event entry of a mark (R132). -/
def eventOf (start : Nat) (m : Mark) (absorbed void : Bool) : Event :=
  { kind := m.kind, offset := m.position - start, span := spanInCoil start m, origin := m.origin, detail := m.detail
    flags := { noEventFlags with
      late := m.flags.late, clamped := m.flags.clamped || m.flags.spanClamped, absorbed := absorbed, void := void } }

/-- A mark is recorded in a coil (R132). -/
def recordMark (m : Mark) (absorbed void : Bool) (c : Coil) : Coil :=
  let listed := if c.events.length < eventPlaces then
      { c with events := c.events ++ [eventOf c.start m absorbed void] }
    else { c with unlisted := tally c.unlisted }
  { listed with
    splices := if m.kind = .splice then tally c.splices else c.splices
    gauges := if m.kind = .gaugeFault then tally c.gauges else c.gauges
    faultTotal := if m.kind.isFault then min (c.faultTotal + spanInCoil c.start m) maxCount else c.faultTotal }

/-- The coil loses an entry reference whose entry is of another lot, and with it its target, planned cut
position and package kind (R134). -/
def dropEntry (plan : List PlanEntry) (cur : CurrentCoil) : CurrentCoil :=
  if cur.entryRef ∧ (plan.head?.any fun e => !entryMatches e cur.record.lotTag) then
    { cur with record := { cur.record with target := 0, planned := none, package := 0 }, entryRef := false }
  else cur

/-- The coil with a lot tag, and a fresh reading where the lot was activated (R134). -/
def retag (s : State) (tag : Nat) (answer : Option LotAnswer) (cur : CurrentCoil) : CurrentCoil :=
  { cur with
    record := { cur.record with lotTag := tag }
    reading := if answer = some .activated then readingOf s.effective else cur.reading }

/-- The coil is given a lot tag and re-seated (R134). -/
def reseat (tag : Nat) (answer : Option LotAnswer) (s : State) : State :=
  cutTest (lateTake (changeCoil (fun cur => replan (dropEntry s.builder.plan (retag s tag answer cur))) s))

/-- Whether a mark is the claim of the sequence standing (R134). -/
def isClaim (m : Mark) (s : State) : Bool :=
  s.builder.sequence.any fun q => q.claim.any fun c => decide (c.origin = m.origin)

/-- Whether a mark is the outstanding claim (R134). -/
def isOutstanding (m : Mark) (s : State) : Bool := s.builder.outstanding.any fun c => decide (c.origin = m.origin)

/-- A boundary mark's kind joins the causes of the sequence standing, a LOT_CHANGE giving the boundary position
where none is held (R134). -/
def joinCauses (m : Mark) (s : State) : State :=
  s.withBuilder { s.builder with sequence := s.builder.sequence.map fun q =>
    { q with causes := addCause m.kind.cause q.causes, boundary := q.boundary <|> boundaryOf m } }

/-- What a fired boundary mark does before it is recorded (R134), with the flags ABSORBED and VOID it is
recorded with. -/
def boundaryEffect (m : Mark) (answer : Option LotAnswer) (s : State) : State × Bool × Bool :=
  if isClaim m s then
    (s.withBuilder { s.builder with sequence := s.builder.sequence.map fun q => { q with claimFired := true } },
      false, false)
  else if isOutstanding m s then
    let t := s.withBuilder { s.builder with outstanding := none }
    (if m.kind = .lotChange then reseat m.lotTag answer t else t, false, false)
  else if answer = some .void then (s, false, true)
  else match s.builder.state, s.builder.current with
    | .building, some cur =>
      if clearsSpacing s cur.record.start m.position then
        (startSequence (withTarget s cur (oneCause m.kind.cause)) (some m) true s, false, false)
      else (if m.kind = .lotChange then reseat m.lotTag answer s else s, true, false)
    | _, _ => (joinCauses m s, false, false)

/-- A fired mark is handed to the builder and recorded in the current coil (R44, R132, R134). -/
def builderTakes (m : Mark) (answer : Option LotAnswer) (s : State) : State :=
  if s.builder.state = .off then s
  else if m.kind.isBoundary then
    let r := boundaryEffect m answer s
    changeRecord (recordMark m r.2.1 r.2.2) r.1
  else changeRecord (recordMark m false false) s

/-- A claim follows the LOT_CHANGE that remains after a lot merge (R134). -/
def followMerge (gone kept : Mark) (c : Claim) : Claim :=
  if c.origin = gone.origin then { c with origin := kept.origin } else c

/-- The sequence standing follows a lot merge of its claimed mark (R134). -/
def sequenceFollows (gone kept : Mark) (q : CutSequence) : CutSequence :=
  if q.claimFired = false ∧ (q.claim.any fun c => decide (c.origin = gone.origin)) then
    { q with claim := q.claim.map (followMerge gone kept), boundary := some kept.position }
  else q

/-- A waiting LOT_CHANGE is dropped by a lot merge: claims follow the one that remains (R134). -/
def builderMerges (gone kept : Mark) (s : State) : State :=
  s.withBuilder { s.builder with
    sequence := s.builder.sequence.map (sequenceFollows gone kept)
    outstanding := s.builder.outstanding.map (followMerge gone kept) }

end Sys2Proof.Machine
end

