-- ==== Sys2Proof/Machine/Loss.lean ====
section
/-! DEFINITION. The loss list (4.5), and the firing of ordinary marks that needs it: adding an interval offers it
to the coil builder and may raise a LOSS mark, and a received LOSS mark that fires adds an interval. -/

namespace Sys2Proof.Machine

/-! ## The list of intervals -/

/-- Whether an interval is closed (R62). -/
def isClosed (i : LossInterval) : Bool := i.high.isSome

/-- The high of a closed interval; of an OPEN one, its low (never asked of it). -/
def highOf (i : LossInterval) : Nat := i.high.getD i.low

/-- Whether two closed intervals overlap or touch (R62). -/
def nearEachOther (a b : LossInterval) : Bool :=
  isClosed a && isClosed b && decide (a.low ≤ highOf b + 1) && decide (b.low ≤ highOf a + 1)

/-- The number of positions between two closed intervals that neither overlap nor touch (R63). -/
def distance (a b : LossInterval) : Nat := max a.low b.low - min (highOf a) (highOf b) - 1

/-- The hull of a held and an offered closed interval: from the lower low to the higher high, with the cause of
the one with the lower low, the held one's where they are equal (R63). -/
def hull (held offered : LossInterval) : LossInterval :=
  let first := if offered.low < held.low then offered else held
  { low := min held.low offered.low, high := some (max (highOf held) (highOf offered)), cause := first.cause
    feed := if first.cause = .feedLost then first.feed else none }

/-- An interval inserted by its low, after those held with an equal low (R62). -/
def insertInterval (i : LossInterval) : List LossInterval → List LossInterval
  | [] => [i]
  | j :: rest => if j.low ≤ i.low then j :: insertInterval i rest else i :: j :: rest

/-- A closed interval merged with those of a list it overlaps or touches, the hull standing after the intervals of
equal low (R63, first case; entry 36). -/
def absorb (i : LossInterval) (held : List LossInterval) : List LossInterval :=
  insertInterval ((held.filter (nearEachOther i)).foldl (fun acc j => hull j acc) i)
    (held.filter fun j => !nearEachOther i j)

/-- The closed interval nearest to an offered one, of equal distances the one with the lower low (R63). -/
def nearest (i : LossInterval) (held : List LossInterval) : Option LossInterval :=
  (held.filter isClosed).foldl (fun best j =>
    match best with
    | none => some j
    | some b => if distance i j < distance i b then some j else some b) none

/-- A closed interval offered to the list (R63). That the hull in a full list, which "takes its place", stands after the
intervals of equal low, as R62 has it of an interval newly held, is the model's choice (entry 36). -/
def addClosed (i : LossInterval) (held : List LossInterval) : List LossInterval :=
  if held.any (nearEachOther i) then absorb i held
  else if held.length < lossPlaces then insertInterval i held
  else match nearest i held with
    | some j => insertInterval (hull j i) (held.erase j)
    | none => held

/-- The two neighbouring closed intervals nearest each other, of equal distances the pair with the lower lows
(R64): `pairs` are the neighbours, in list order. -/
def nearestPair (pairs : List (LossInterval × LossInterval)) : Option (LossInterval × LossInterval) :=
  pairs.foldl (fun best p =>
    match best with
    | none => some p
    | some b => if distance p.1 p.2 < distance b.1 b.2 then some p else some b) none

/-- Room is made in a full list: the two closed intervals nearest each other become their hull (R64). -/
def makeRoom (held : List LossInterval) : List LossInterval :=
  let closed := held.filter isClosed
  match nearestPair (closed.zip closed.tail) with
  | some (a, b) => insertInterval (hull a b) ((held.erase a).erase b)
  | none => held

/-- An OPEN interval offered to the list (R64). -/
def addOpen (i : LossInterval) (held : List LossInterval) : List LossInterval :=
  insertInterval i (if held.length < lossPlaces then held else makeRoom held)

/-- Whether an interval is the OPEN one tied to a feed (R55, R64). -/
def isOpenOf (feed : Nat) (i : LossInterval) : Bool := !isClosed i && decide (i.feed = some feed)

/-- The OPEN interval of a feed closed at a high, in its place, and merged with those it overlaps or touches
(R56, R64). That the closing interval is taken as the offered one of R63, so that one of equal low held closed before
it gives the hull its cause and feed index, is the model's choice (entry 38). -/
def closeOpen (feed high : Nat) (held : List LossInterval) : List LossInterval :=
  match held.find? (isOpenOf feed) with
  | none => held
  | some i =>
    let closed := { i with high := some (max i.low high) }
    let others := held.erase i
    if others.any (nearEachOther closed) then absorb closed others
    else held.map fun j => if j = i then closed else j

/-- Whether an interval of the list is what an offered one has become: itself, or a closed one that covers it. -/
def standsFor (i j : LossInterval) : Bool :=
  decide (j = i) || (isClosed i && isClosed j && decide (j.low ≤ i.low) && decide (highOf i ≤ highOf j))

/-- The list after an advance: closed intervals whose high lies below the run count are removed, but for what the
intervals added by that advance have become, which the next advance removes (R65; entry 37). -/
def passed (runCount : Nat) (added held : List LossInterval) : List LossInterval :=
  held.filter fun i => i.high.all (fun h => decide (runCount ≤ h)) || added.any fun a => standsFor a i

/-! ## Offering intervals -/

/-- The part with another loss list. -/
def withLosses (losses : List LossInterval) (s : State) : State := s.withFeeds { s.feeds with losses := losses }

/-- RETRO_LOSS for an interval added with its low below the current coil's start (R66). -/
def retroTest (low : Nat) (s : State) : State :=
  match s.builder.current with
  | some cur => if low < cur.record.start then latch .retroLoss s else s
  | none => s

/-- The list as it stands after an interval is offered: closed by R63, OPEN by R64. -/
def offered (i : LossInterval) (held : List LossInterval) : List LossInterval :=
  if isClosed i then addClosed i held else addOpen i held

/-- An interval is offered to the coil builder as it stands once merged (R66). -/
def offerBuilder (i : LossInterval) (s : State) : State := lossTest (s.feeds.losses.filter (standsFor i)) s

/-- An interval is added, offered to the coil builder as it stands once merged, and tested for RETRO_LOSS
(R63, R64, R66). -/
def offerInterval (i : LossInterval) (s : State) : State :=
  retroTest i.low (offerBuilder i (withLosses (offered i s.feeds.losses) s))

/-! ## Firing an ordinary mark (3.6) -/

/-- The MARK payload of a forwarded mark: hops one greater, flags not carried (R46). -/
def payloadOf (m : Mark) : MarkPayload :=
  { position := m.position, span := m.span, kindCode := m.kind.code, hops := m.hops + 1, lotTag := m.lotTag
    originStation := m.origin.station, originSerial := m.origin.serial, detail := m.detail }

/-- A fired mark is forwarded where forwarding is on and its hops is less than 7 (R46). -/
def forward (m : Mark) (s : State) : State :=
  if s.profile.forwarding ∧ m.hops < maxHops then offerMark (markSlot m.kind m.source) (payloadOf m) s else s

/-- The RELAYED interval of a received LOSS mark (R45). -/
def relayedInterval (m : Mark) : LossInterval :=
  { low := m.position, high := some (min (m.position + m.span) maxCount), cause := .relayed, feed := none }

/-- The RELAYED interval that a mark adds where it fires: a LOSS mark whose source is FEED adds one, any other mark
none (R45). -/
def relayedBy (m : Mark) : Option LossInterval :=
  match m.kind, m.source with
  | .loss, .feed _ => some (relayedInterval m)
  | _, _ => none

/-- A fired mark is handed to the feed and loss unit, which adds the interval it relays, if any (R45). -/
def relay (m : Mark) (s : State) : State :=
  match relayedBy m with
  | some i => offerInterval i s
  | none => s

/-- A fired ordinary mark is handed on: to the coil builder, a received LOSS mark to the feed and loss unit, and
to the line bus port (R44 to R46). -/
def fireOrdinary (m : Mark) (s : State) : State := forward m (relay m (builderTakes m none s))

/-! ## Raising marks (3.2) -/

/-- A raised position, span and CLAMPED flag after the lookback bound (R31). -/
def lookBack (runCount position span : Nat) (clamped : Bool) : Nat × Nat × Bool :=
  if position + lookback < runCount then
    (runCount - lookback, span - (runCount - lookback - position), true)
  else (position, span, clamped)

/-- The mark list completes a raised record (R31, R32). -/
def completeMark (r : Raising) (s : State) : Mark :=
  let b := lookBack s.length.runCount r.position r.span r.clamped
  { position := b.1, kind := r.kind, span := b.2.1, lotTag := r.lotTag.getD s.lots.activeTag
    origin := { station := s.stationNumber, serial := s.marks.nextSerial }, detail := r.detail, hops := 0
    source := .here, flags := { late := false, clamped := b.2.2, spanClamped := r.spanClamped } }

/-- A raising takes the origin serial (R32). -/
def takeSerial (s : State) : State := s.withMarks { s.marks with nextSerial := nextSerial16 s.marks.nextSerial }

/-- What the feed and loss unit raises for an interval (R67). -/
def lossRaising (i : LossInterval) : Raising :=
  let span := highOf i - i.low
  { kind := .loss, position := i.low, span := min span lossSpanCap, detail := 0
    spanClamped := decide (lossSpanCap < span), clamped := false, lotTag := none }

/-- While forwarding is on, a LOSS mark is raised for an interval, and fired at once without placement (R34, R67). -/
def raiseLoss (i : LossInterval) (s : State) : State :=
  if s.profile.forwarding then fireOrdinary (completeMark (lossRaising i) s) (takeSerial s) else s

/-- A closed interval of cause GAP, REFUSED or EVICTED is added, and its LOSS mark raised (R66, R67). -/
def addInterval (i : LossInterval) (s : State) : State := raiseLoss i (offerInterval i s)

end Sys2Proof.Machine
end

