-- ==== Sys2Proof/Machine/Marks.lean ====
section
/-! DEFINITION. The mark list's placement of marks (3.4, 3.5), and local-origin marks of an ordinary kind. -/

namespace Sys2Proof.Machine

/-- The part with other marks waiting. -/
def withWaiting (marks : List Mark) (s : State) : State := s.withMarks { s.marks with marks := marks }

/-- Whether a waiting mark has a mark's origin identity (R36). -/
def isDuplicate (m : Mark) (s : State) : Bool := s.marks.marks.any fun w => decide (w.origin = m.origin)

/-- The waiting LOT_CHANGE that carries a new LOT_CHANGE's lot tag (R37). -/
def sameLotWaiting (m : Mark) (s : State) : Option Mark :=
  if m.kind = .lotChange then s.marks.marks.find? fun w => decide (w.kind = .lotChange) && decide (w.lotTag = m.lotTag)
  else none

/-- The waiting LOT_CHANGE that a new one removes, which lies lower (R37). -/
def mergedOut (m : Mark) (s : State) : Option Mark := (sameLotWaiting m s).filter fun w => decide (m.position < w.position)

/-- The number of waiting ordinary marks (R40). -/
def ordinaryWaiting (marks : List Mark) : Nat := marks.countP fun w => !w.kind.isBoundary

/-- What the capacity rules do with a mark that lies ahead, given the marks waiting (R40 to R42). -/
def capacity (m : Mark) (waiting : List Mark) : Placement :=
  if m.kind.isBoundary then
    if waiting.length < markPlaces then .stored
    else if 0 < ordinaryWaiting waiting then .evicts
    else .refused
  else if ordinaryWaiting waiting < ordinaryPlaces ∧ waiting.length < markPlaces then .stored
  else .refused

/-- The marks waiting once a lot merge has removed the one it removes (R37). -/
def waitingAfterMerge (m : Mark) (s : State) : List Mark :=
  match mergedOut m s with
  | some w => s.marks.marks.erase w
  | none => s.marks.marks

/-- The fate of a mark placed now (R36 to R42). -/
def placementOf (m : Mark) (s : State) : Placement :=
  if isDuplicate m s then .duplicate
  else if (sameLotWaiting m s).isSome ∧ (mergedOut m s).isNone then .mergedAway
  else if m.position ≤ s.length.runCount then .fires
  else capacity m (waitingAfterMerge m s)

/-- A mark inserted after every waiting mark at or before its position (R35, R39). -/
def insertMark (m : Mark) : List Mark → List Mark
  | [] => [m]
  | w :: rest => if w.position ≤ m.position then w :: insertMark m rest else m :: w :: rest

/-- A mark is stored, and the change of the list offered to the coil builder (R35, R39). -/
def storeMark (m : Mark) (s : State) : State := cutTest (withWaiting (insertMark m s.marks.marks) s)

/-- The duplicate tally counts a mark dropped by the identity check (R36, R49). -/
def countDuplicate (s : State) : State := s.withMarks { s.marks with duplicates := tally s.marks.duplicates }

/-- MARK_LOST and the lost tally for an ordinary mark refused or evicted (R40, R41). -/
def loseOrdinary (s : State) : State :=
  latch .markLost (s.withMarks { s.marks with lost := tally s.marks.lost })

/-- The loss interval of a mark refused or evicted (R40, R41). -/
def lostInterval (m : Mark) (cause : LossCause) : LossInterval :=
  { low := m.position, high := some (min (m.position + m.span) maxCount), cause := cause, feed := none }

/-- An ordinary mark is refused (R40). -/
def refuseOrdinary (m : Mark) (s : State) : State := loseOrdinary (addInterval (lostInterval m .refused) s)

/-- An ordinary mark is placed (R36, R38 to R40). -/
def placeOrdinary (m : Mark) (s : State) : State :=
  match placementOf m s with
  | .duplicate => countDuplicate s
  | .fires => fireOrdinary m s
  | .stored => storeMark m s
  | .refused => refuseOrdinary m s
  | .mergedAway | .evicts => s

/-- A block raises a local-origin mark of an ordinary kind other than LOSS (R31). -/
def raiseMark (r : Raising) (s : State) : State := placeOrdinary (completeMark r s) (takeSerial s)

end Sys2Proof.Machine
end

