-- ==== Sys2Proof/Machine/Lay.lean ====
section
/-! DEFINITION. The lay monitor (chapter 5): its working set, settling, windows, bands, fault runs and the trim
correction. -/

namespace Sys2Proof.Machine

/-- The part with the lay monitor changed. -/
def changeLay (f : LayMonitor → LayMonitor) (s : State) : State := s.withLay (f s.lay)

/-- The working set of an effective set (R72). -/
def layWorkingSet (ps : Params Nat) : LayWorkingSet :=
  { nominal := ps.nominalLay
    bandLow := ps.nominalLay * (1000 - ps.tolerance) / 1000
    bandHigh := ceilDiv (ps.nominalLay * (1000 + ps.tolerance)) 1000
    stopTolerance := ps.stopTolerance, windowTwists := ps.windowTwists, faultWindows := ps.faultWindows
    settleTurns := ps.settleTurns, gain := ps.trimGain }

/-! ## Settling (5.2) -/

/-- MEASURING with a window open at the position standing, and no twists (R74). -/
def openWindow (s : State) : State :=
  changeLay (fun l => { l with
    state := .measuring, settleCount := 0, window := some { start := s.fullPosition, twists := 0 } }) s

/-- The monitor enters SETTLING; with settle turns 0 it passes through to MEASURING (R74). -/
def enterSettling (s : State) : State :=
  match s.lay.working with
  | some w =>
    if w.settleTurns = 0 then openWindow s
    else changeLay (fun l => { l with state := .settling, settleCount := 0, window := none }) s
  | none => s

/-- The monitor enters SUSPENDED with no window (R73, R83, R88). -/
def suspend (s : State) : State :=
  changeLay (fun l => { l with state := .suspended, settleCount := 0, window := none }) s

/-- The monitor settles or is suspended, as the observed wire stands (R73, R88). -/
def settleByWire (s : State) : State :=
  match s.hold.observed with
  | .running => enterSettling s
  | .held => suspend s

/-! ## Windows (5.3) -/

/-- The lay of a window, in 0.1 mm, from its length in 1/65,536 mm and its twists (R77). -/
def layOf (delta : Int) (twists : Nat) : Nat :=
  if delta ≤ 0 then 0
  else if twists = 0 then 65535
  else min 65535 ((delta.toNat * 10 + twists * 32768) / (twists * 65536))

/-- The deviation of a lay from the nominal lay, in per mille (R78). -/
def deviationOf (lay nominal : Nat) : Int :=
  clampInt (-999) 999 (roundHalfAway (((lay : Int) - (nominal : Int)) * 1000) nominal)

/-! ## Fault runs (5.5) -/

/-- The LAY_FAULT of a fault run (R81, R82). -/
def layFault (run : LayFaultRun) (runCount : Nat) : Raising :=
  let position := min run.start runCount
  { kind := .layFault, position := position, span := min (run.finish - position) faultSpanCap
    detail := BitVec.ofInt 16 run.worst, spanClamped := decide (faultSpanCap < run.finish - position)
    clamped := false, lotTag := none }

/-- The fault run becomes absent. -/
def endLayRun (s : State) : State := changeLay (fun l => { l with faultRun := none }) s

/-- An open fault run closes and is measured: with at least `k` windows it raises its LAY_FAULT (R81). -/
def measureLayRun (k : Nat) (s : State) : State :=
  match s.lay.faultRun with
  | some run =>
    if k ≤ run.windows then raiseMark (layFault run s.length.runCount) (endLayRun s) else endLayRun s
  | none => s

/-- The fault windows k of the working set. -/
def faultWindowsOf (w : Option LayWorkingSet) : Nat := (w.map LayWorkingSet.faultWindows).getD 1

/-- The LAY_FAULT of a run that reached the span cap (R82). -/
def cappedLayFault (run : LayFaultRun) : Raising :=
  { kind := .layFault, position := run.start, span := faultSpanCap, detail := BitVec.ofInt 16 run.worst
    spanClamped := true, clamped := false, lotTag := none }

/-- The fault run after an out-of-band window from `start` to `finish` with deviation `dev` (R80). -/
def extendLayRun (run : Option LayFaultRun) (start finish : Nat) (dev : Int) : LayFaultRun :=
  match run with
  | none => { start := start, finish := finish, windows := 1, worst := dev }
  | some r =>
    { r with
      finish := finish, windows := tally255 r.windows
      worst := if r.worst.natAbs < dev.natAbs then dev else r.worst }

/-- An out-of-band window close feeds the fault run, which closes at once at the span cap (R80, R82). -/
def feedLayRun (start finish : Nat) (dev : Int) (s : State) : State :=
  let run := extendLayRun s.lay.faultRun start finish dev
  if run.start + faultSpanCap ≤ run.finish then raiseMark (cappedLayFault run) (endLayRun s)
  else changeLay (fun l => { l with faultRun := some run }) s

/-! ## Evaluating a window (5.4, 5.8) -/

/-- The stop test (R79, step 1). -/
def layStopTest (w : LayWorkingSet) (dev : Int) (s : State) : State :=
  if w.stopTolerance < dev.natAbs then latch .layStop (giveHold .layStop s) else s

/-- The tolerance test, and the fault run's part (R79, step 2). -/
def layBandTest (w : LayWorkingSet) (lay start finish : Nat) (dev : Int) (s : State) : State :=
  if w.bandLow ≤ lay ∧ lay ≤ w.bandHigh then measureLayRun w.faultWindows s
  else feedLayRun (start / 65536) (finish / 65536) dev s

/-- The trim correction after a window of a deviation (R86). -/
def trimAfter (c dev : Int) (gain : Nat) : Int :=
  clampInt (-trimClamp) trimClamp (c + roundHalfAway (clampInt (-500) 500 dev * (gain : Int)) 64)

/-- A window closes at the position standing and is evaluated; the next opens there (R77 to R79, R86). -/
def closeWindow (w : LayWorkingSet) (win : LayWindow) (s : State) : State :=
  let finish := s.fullPosition
  let lay := layOf ((finish : Int) - (win.start : Int)) win.twists
  let dev := deviationOf lay w.nominal
  let t := layBandTest w lay win.start finish dev (layStopTest w dev s)
  changeLay (fun l => { l with
    trimCorrection := trimAfter l.trimCorrection dev w.gain
    window := some { start := finish, twists := 0 } }) t

/-! ## The monitor's events -/

/-- A spindle edge (R74, R75). -/
def spindleEdge (s : State) : State :=
  match s.lay.state, s.lay.working, s.lay.window with
  | .settling, some w, _ =>
    let count := s.lay.settleCount + s.profile.twistsPerPulse
    if w.settleTurns ≤ count then openWindow s else changeLay (fun l => { l with settleCount := count }) s
  | .measuring, some w, some win =>
    let win := { win with twists := win.twists + s.profile.twistsPerPulse }
    if w.windowTwists ≤ win.twists then closeWindow w win s
    else changeLay (fun l => { l with window := some win }) s
  | _, _, _ => s

/-- Whether the open window reaches the length cap at a full-precision position (R76). -/
def capReached (s : State) (position : Nat) : Bool :=
  match s.lay.state, s.lay.window with
  | .measuring, some win => decide (win.start + windowCap ≤ position)
  | _, _ => false

/-- A forward wheel count is tested against the window length cap (R76). -/
def layCapTest (s : State) : State :=
  match s.lay.working, s.lay.window with
  | some w, some win => if capReached s s.fullPosition then closeWindow w win s else s
  | _, _ => s

/-- The wire is seen HELD (R83). -/
def laySeesHeld (s : State) : State :=
  match s.lay.state with
  | .settling | .measuring => measureLayRun (faultWindowsOf s.lay.working) (suspend s)
  | _ => s

/-- The wire is seen RUNNING (R84). -/
def laySeesRunning (s : State) : State :=
  match s.lay.state with
  | .suspended => enterSettling s
  | _ => s

/-- Whether the fault run open at an activation has windows enough for the one of the two working sets and not
for the other, so that the spec leaves open whether it is a fault (R81, R85; entry 13). -/
def measureIsOpen (old new : Nat) (run : Option LayFaultRun) : Bool :=
  run.any fun r => decide (old ≤ r.windows) != decide (new ≤ r.windows)

/-- The fault run open at an activation is measured: by the k of the working set left or of the one taken, which
is open where they differ in outcome (R81, R85; entry 13). -/
def measureAtActivation (old new : Nat) (s : State) : State :=
  if measureIsOpen old new s.lay.faultRun then
    measureLayRun (if s.firstOpen then old else new) s.useOrder
  else measureLayRun new s

/-- An activation (R85). -/
def layActivation (s : State) : State :=
  if s.lay.state = .off then s
  else
    let old := faultWindowsOf s.lay.working
    let taken := layWorkingSet s.effective
    let t := measureAtActivation old taken.faultWindows (changeLay (fun l => { l with
      working := some taken, trimCorrection := 0, window := none }) s)
    if s.lay.state = .suspended then t else enterSettling t

/-- Entry to RUNNING (R73). -/
def layEntry (s : State) : State :=
  if s.profile.laySupervision then
    settleByWire (changeLay (fun l => { l with
      working := some (layWorkingSet s.effective), trimCorrection := 0, window := none, faultRun := none
      settleCount := 0 }) s)
  else s

/-- RESTART RUN (R88). -/
def layRestart (s : State) : State :=
  if s.lay.state = .off then s
  else settleByWire (changeLay (fun l => { l with
    trimCorrection := 0, window := none, faultRun := none, settleCount := 0 }) s)

/-! ## TRIM (R87) -/

/-- The high time of a period that starts now (R87). -/
def trimHigh (s : State) : Nat :=
  if s.profile.laySupervision then (500 + s.lay.trimCorrection).toNat else 500

/-- A TRIM period starts at a time: the output goes high and the high time is fixed (R87). -/
def startTrimPeriod (t : Nat) (s : State) : State :=
  s.withTrim { periodStart := some t, highTime := trimHigh s, level := true }

end Sys2Proof.Machine
end

