-- ==== Sys2Proof/Machine/Knot.lean ====
section
/-! DEFINITION. The knot monitor (chapter 6): counting, evaluating a row up to its advance request, the stop
tests, fault runs, and what the wire, an activation and a restart do to it. -/

namespace Sys2Proof.Machine

/-- The part with the knot monitor changed. -/
def changeKnot (f : KnotMonitor → KnotMonitor) (s : State) : State := s.withKnot (f s.knot)

/-- The working set of an effective set (R90). -/
def knotWorkingSet (ps : Params Nat) : KnotWorkingSet :=
  { stopCount := ps.knotStopCount, brokenRows := ps.brokenTwineRows }

/-- The section table of the sense assignments: an entry for each KNOT_SECTION input, in input order (R91). -/
def sectionTable (inputs : List Assignment) : List Section :=
  (inputs.zipIdx.filter fun p => decide (p.1.service = .knotSection)).map fun p =>
    { input := p.2, expected := p.1.expectedKnots, count := 0, misses := 0, noise := 0 }

/-- A KNOT_SECTION edge (R92). -/
def countKnot (input : Nat) (s : State) : State :=
  if s.knot.state = .off then s
  else changeKnot (fun k => { k with
    sections := k.sections.map fun c => if c.input = input then { c with count := tally255 c.count } else c }) s

/-! ## Evaluating a row (6.3) -/

/-- A section's missing knots (R94). -/
def missingOf (c : Section) : Nat := c.expected - c.count

/-- A section's extra knots (R94). -/
def extraOf (c : Section) : Nat := c.count - c.expected

/-- Whether a row is idle (R94). -/
def isIdleRow (sections : List Section) : Bool := sections.all fun c => decide (c.count = 0)

/-- The set of noisy sections (R97). -/
def noisySet (sections : List Section) : InputSet :=
  sections.foldl (fun n c => if 0 < extraOf c then addInput c.input n else n) 0

/-- The summary of the row just ended (R95, R96). -/
def rowSummary (serial runCount : Nat) (sections : List Section) : RowSummary :=
  let idle := isIdleRow sections
  let missing := sections.map fun c => if idle then 0 else missingOf c
  { serial := serial, start := runCount, idle := idle, missing := missing, total := missing.sum
    noisy := if idle then 0 else noisySet sections }

/-- The row history with a summary entered, newest first (R95). -/
def enterHistory (r : RowSummary) (history : List RowSummary) : List RowSummary := (r :: history).take historyPlaces

/-- A section after a non-idle row: noise tally and consecutive misses (R97). -/
def sectionAfterRow (c : Section) : Section :=
  { c with
    noise := if 0 < extraOf c then tally255 c.noise else c.noise
    misses := if 0 < missingOf c then tally255 c.misses else 0 }

/-- A section with its count of the row at 0. -/
def clearCount (c : Section) : Section := { c with count := 0 }

/-- The lowest-numbered section that fails the broken-twine test (R98). -/
def brokenSection (w : KnotWorkingSet) (sections : List Section) : Option Nat :=
  (sections.find? fun c => decide (w.brokenRows ≤ c.misses)).map Section.input

/-- The stop tests of a non-idle row, after R97 (R98). -/
def knotStopTest (r : RowSummary) (s : State) : State :=
  match s.knot.working with
  | none => s
  | some w =>
    let totalFailed := decide (w.stopCount ≤ r.total)
    let broken := brokenSection w s.knot.sections
    if totalFailed || broken.isSome then
      changeKnot (fun k => { k with
        stopRecord := some { serial := r.serial, total := r.total, totalFailed := totalFailed, broken := broken } })
        (latch .knotStop (giveHold .knotStop s))
    else s

/-! ## Fault runs (6.5) -/

/-- The KNOT_FAULT of a fault run (R100). -/
def knotFault (run : KnotFaultRun) : Raising :=
  { kind := .knotFault, position := run.start, span := run.finish - run.start, detail := BitVec.ofNat 16 run.total
    spanClamped := false, clamped := false, lotTag := none }

/-- The fault run becomes absent. -/
def endKnotRun (s : State) : State := changeKnot (fun k => { k with faultRun := none }) s

/-- An open fault run closes and raises its KNOT_FAULT (R100). -/
def closeKnotRun (s : State) : State :=
  match s.knot.faultRun with
  | some run => raiseMark (knotFault run) (endKnotRun s)
  | none => s

/-- The fault run after a faulty row (R99). -/
def extendKnotRun (run : Option KnotFaultRun) (r : RowSummary) (pitch : Nat) : KnotFaultRun :=
  let finish := min (r.start + pitch) maxCount
  match run with
  | none => { start := r.start, finish := finish, rows := 1, total := r.total, firstSerial := r.serial }
  | some f => { f with finish := finish, rows := f.rows + 1, total := min (f.total + r.total) 65535 }

/-- A non-idle row feeds the fault run (R99, R100). -/
def feedKnotRun (r : RowSummary) (s : State) : State :=
  if r.total = 0 then closeKnotRun s
  else
    let run := extendKnotRun s.knot.faultRun r s.effective.rowPitch
    let t := changeKnot (fun k => { k with faultRun := some run }) s
    if runRows ≤ run.rows then closeKnotRun t else t

/-- A row takes its serial and its summary enters the history (R95). -/
def enterRow (r : RowSummary) (s : State) : State :=
  changeKnot (fun k => { k with rowSerial := nextSerial16 k.rowSerial, history := enterHistory r k.history }) s

/-- A ROW edge in COUNTING evaluates the row just ended, up to its advance request (R94 to R96). -/
def evaluateRow (s : State) : State :=
  let r := rowSummary s.knot.rowSerial s.length.runCount s.knot.sections
  let entered := enterRow r s
  let done := if r.idle then entered
    else feedKnotRun r (knotStopTest r
      (changeKnot (fun k => { k with sections := k.sections.map sectionAfterRow }) entered))
  changeKnot (fun k => { k with sections := k.sections.map clearCount }) done

/-- A ROW edge in FIRST_ROW ends the settling row (R93). -/
def endSettlingRow (s : State) : State :=
  changeKnot (fun k => { k with state := .counting, sections := k.sections.map clearCount }) s

/-- Whether a ROW edge hands the length unit an advance request: for a non-idle row evaluated, and for a
settling row after an activation that counted a knot (R93, R96). -/
def rowAsksAdvance (s : State) : Bool :=
  !isIdleRow s.knot.sections &&
    match s.knot.state with
    | .off => false
    | .firstRow => decide (s.knot.cause = .lot)
    | .counting => true

/-- The monitor's own part in a ROW edge (R93, R94). -/
def knotRowEdge (s : State) : State :=
  match s.knot.state with
  | .off => s
  | .firstRow => endSettlingRow s
  | .counting => evaluateRow s

/-! ## The wire, an activation, the entry and a restart -/

/-- The wire is seen HELD (R101). -/
def knotSeesHeld (s : State) : State := if s.knot.state = .counting then closeKnotRun s else s

/-- An activation (R102). -/
def knotActivation (s : State) : State :=
  if s.knot.state = .off then s
  else changeKnot (fun k => { k with
      state := .firstRow, cause := .lot, sections := k.sections.map fun c => { c with misses := 0 } })
    (closeKnotRun (changeKnot (fun k => { k with working := some (knotWorkingSet s.effective) }) s))

/-- Entry to RUNNING (R91). -/
def knotEntry (s : State) : State :=
  if s.profile.knotSupervision then
    changeKnot (fun k => { k with
      state := .firstRow, cause := .start, sections := sectionTable s.profile.inputs
      working := some (knotWorkingSet s.effective) }) s
  else s

/-- RESTART RUN (R105). -/
def knotRestart (s : State) : State :=
  if s.knot.state = .off then s
  else changeKnot (fun k => { k with
    state := .firstRow, cause := .start, faultRun := none
    sections := k.sections.map fun c => { c with count := 0, misses := 0 } }) s

end Sys2Proof.Machine
end

