-- ==== Sys2Proof/Machine/Lots.lean ====
section
/-! DEFINITION. The lot unit (chapter 7): activations, its answer to a fired LOT_CHANGE, and the lot table. -/

namespace Sys2Proof.Machine

/-- The held record of a tag (R107). -/
def heldRecord (table : List LotRecord) (tag : Nat) : Option LotRecord := table.find? fun r => decide (r.tag = tag)

/-- An activation is offered to the lay monitor and to the knot monitor (R114). -/
def offerActivation (s : State) : State := knotActivation (layActivation s)

/-- The effective set is rebuilt from a record, LOT_UNKNOWN is cleared, and an activation offered (R111, R114). -/
def rebuild (r : LotRecord) (s : State) : State :=
  offerActivation (s.withLots { s.lots with
    effective := some (completeRecord r s.profile.base), unknown := false })

/-- The lot unit's answer to a fired LOT_CHANGE of a tag (R113). -/
def lotAnswer (s : State) (tag : Nat) : LotAnswer :=
  if tag = s.lots.activeTag then .void
  else if (heldRecord s.lots.table tag).isSome then .activated
  else .unknown

/-- What the lot unit does for a fired LOT_CHANGE of a tag (R113 to R115). -/
def lotChange (tag : Nat) (s : State) : State :=
  if tag = s.lots.activeTag then s
  else match heldRecord s.lots.table tag with
    | some r => rebuild r (s.withLots { s.lots with activeTag := tag })
    | none => latch .lotUnknown (s.withLots { s.lots with activeTag := tag, unknown := true })

/-- A record in the table in order of tag, in place of one of the same tag (R110). -/
def insertRecord (r : LotRecord) : List LotRecord → List LotRecord
  | [] => [r]
  | q :: rest =>
    if q.tag < r.tag then q :: insertRecord r rest
    else if q.tag = r.tag then r :: rest
    else r :: q :: rest

end Sys2Proof.Machine
end

