-- ==== Sys2Proof/Machine/Firing.lean ====
section
/-! DEFINITION. Firing (3.6) and placement (3.4, 3.5) of marks of any kind. -/

namespace Sys2Proof.Machine

/-- A fired mark is handed on: a LOT_CHANGE first to the lot unit, then every mark to the coil builder, a
received LOSS mark to the feed and loss unit, and to the line bus port (R44 to R46). -/
def fireMark (m : Mark) (s : State) : State :=
  match m.kind with
  | .lotChange => forward m (builderTakes m (some (lotAnswer s m.lotTag)) (lotChange m.lotTag s))
  | _ => fireOrdinary m s

/-- The first waiting mark, reached by the run count, leaves the list, is handed on, and the change of the list
is offered to the coil builder (R35, R43). -/
def fireHead (m : Mark) (rest : List Mark) (s : State) : State := cutTest (fireMark m (withWaiting rest s))

/-- At most `n` waiting marks that the run count has reached fire, in list order (R43). -/
def fireReached : Nat → State → State
  | 0, s => s
  | n + 1, s =>
    match s.marks.marks with
    | m :: rest => if m.position ≤ s.length.runCount then fireReached n (fireHead m rest s) else s
    | [] => s

/-- The last of the ordinary marks with the highest position (R41). -/
def farthestOrdinary (marks : List Mark) : Option Mark :=
  marks.foldl (fun best w =>
    if w.kind.isBoundary then best
    else match best with
      | none => some w
      | some b => if b.position ≤ w.position then some w else best) none

/-- The farthest ordinary mark is evicted (R41). That the change of the list is offered to the coil builder right after
the removal, before the interval is handed over and before the new mark is stored, is the model's choice (entry 35). -/
def evict (s : State) : State :=
  match farthestOrdinary s.marks.marks with
  | some w =>
    loseOrdinary (addInterval (lostInterval w .evicted) (cutTest (withWaiting (s.marks.marks.erase w) s)))
  | none => s

/-- A boundary mark is refused (R42). -/
def refuseBoundary (s : State) : State :=
  let t := latch .boundaryLost (giveHold .boundaryLost s)
  t.withMarks { t.marks with lost := tally t.marks.lost }

/-- The merge tally counts a lot merge (R37, R49). -/
def countMerge (s : State) : State := s.withMarks { s.marks with merges := tally s.marks.merges }

/-- The waiting LOT_CHANGE that a new one removes leaves the list, and claims follow the new one (R37, R134). The
change of the list is offered to the coil builder with the new mark in place: see `offerMerge`. -/
def mergeOut (m : Mark) (s : State) : State :=
  match mergedOut m s with
  | some w => builderMerges w m (countMerge (withWaiting (s.marks.marks.erase w) s))
  | none => s

/-- The removal by a lot merge is offered to the coil builder once the new mark has been stored, fired or refused, so
that its look-ahead finds the mark that remains (R35, R37; DEDUCED, entry 17): `s` is the part before the placement, `t`
after it. -/
def offerMerge (m : Mark) (s t : State) : State := if (mergedOut m s).isSome then cutTest t else t

/-- A complete mark, received or raised here, is placed (R36 to R42). That a new LOT_CHANGE which a merge drops asks for no
cut test, since it never stood in the list and leaves the list as it was, is DEDUCED (R35, R37; entry 17). -/
def placeMark (m : Mark) (s : State) : State :=
  match placementOf m s with
  | .duplicate => countDuplicate s
  | .mergedAway => countMerge s
  | .fires => offerMerge m s (fireMark m (mergeOut m s))
  | .stored => storeMark m (mergeOut m s)
  | .evicts => storeMark m (evict (mergeOut m s))
  | .refused => if m.kind.isBoundary then offerMerge m s (refuseBoundary (mergeOut m s)) else refuseOrdinary m s

/-- A local-origin mark of any kind but LOSS is raised (R31). -/
def raiseAny (r : Raising) (s : State) : State := placeMark (completeMark r s) (takeSerial s)

end Sys2Proof.Machine
end

