-- ==== Sys2Proof/Machine/Length.lean ====
section
/-! DEFINITION. The length unit (chapter 1): wheel decoding, forward and reverse counts, row advances, the ceiling,
and what an advance is offered to (R12). -/

namespace Sys2Proof.Machine

/-- The part with the length unit changed. -/
def changeLength (f : LengthUnit → LengthUnit) (s : State) : State := s.withLength (f s.length)

/-! ## Gauge runs reaching their cap (R25) -/

/-- The working state of an input. -/
def senseInput (s : State) (i : Nat) : SenseInput := s.sense.inputs.getD i resetInput

/-- The part with an input's working state changed. -/
def changeInput (i : Nat) (f : SenseInput → SenseInput) (s : State) : State :=
  s.withSense { s.sense with inputs := s.sense.inputs.set i (f (senseInput s i)) }

/-- A GAUGE_FAULT (R24, R25). -/
def gaugeFault (position span : Nat) (capped : Bool) : Raising :=
  { kind := .gaugeFault, position := position, span := span, detail := 0, spanClamped := capped, clamped := false
    lotTag := none }

/-- An input's gauge run that has reached the span cap raises its capped mark and opens again at the run count
(R25). -/
def capGauge (i : Nat) (s : State) : State :=
  match (senseInput s i).gauge with
  | some run =>
    if run.start + faultSpanCap ≤ s.length.runCount then
      changeInput i (fun inp => { inp with gauge := some { start := s.length.runCount, byCap := true } })
        (raiseMark (gaugeFault run.start faultSpanCap true) s)
    else s
  | none => s

/-- Every open gauge run is tested against its span cap, in order of input number (R25; entry 14). -/
def capGauges (s : State) : State := (List.range 32).foldl (fun t i => capGauge i t) s

/-! ## Advances (1.7) -/

/-- The waiting marks that the run count has reached, in list order (R43). -/
def reachedMarks (s : State) : List Mark := s.marks.marks.takeWhile fun m => decide (m.position ≤ s.length.runCount)

/-- An advance: the marks it reaches fire, the current coil is tested against the loss list, closed intervals the
count has passed are removed, but for those that the marks just fired have added, the cut test is made, and gauge runs
are tested against their cap (R12, R25, R43, R65, R126, R137; entry 37). -/
def advance (s : State) : State :=
  let added := (reachedMarks s).filterMap relayedBy
  let fired := fireReached s.marks.marks.length s
  let tested := lossTest fired.feeds.losses fired
  let kept := withLosses (passed tested.length.runCount added tested.feeds.losses) tested
  capGauges (builderAdvance kept)

/-- The length unit saturates: count and fraction at the ceiling, COUNT_LIMIT given and latched; the advance is
still to be handed on (R10). -/
def reachCeiling (s : State) : State :=
  latch .countLimit (giveHold .countLimit
    (changeLength (fun l => { l with runCount := maxCount, fraction := 65535, saturated := true }) s))

/-- The run count and fraction of a full-precision position. -/
def atPosition (p : Nat) (l : LengthUnit) : LengthUnit := { l with runCount := p / 65536, fraction := p % 65536 }

/-- The count moved forward to a full-precision position, or to the ceiling (R5, R10). -/
def moveForward (p : Nat) (s : State) : State :=
  if maxCount ≤ p / 65536 then reachCeiling s else changeLength (atPosition p) s

/-- A forward wheel count that raised the run count from `old` is an advance (R5, R12). -/
def handOnRise (old : Nat) (s : State) : State := if old < s.length.runCount then advance s else s

/-- A forward wheel count (R5, R10, R11, R76). Where the lay window reaches its length cap at this count, the cap
test and the advance fall in an open order (R85; entry 11). -/
def forwardCount (s : State) : State :=
  if s.length.saturated then s
  else
    let old := s.length.runCount
    let moved := moveForward (s.fullPosition + s.profile.wheelStep) s
    if capReached moved moved.fullPosition then
      if moved.firstOpen then handOnRise old (layCapTest moved.useOrder)
      else layCapTest (handOnRise old moved.useOrder)
    else handOnRise old moved

/-- A reverse wheel count: borrowed, or clamped at the floor (R6, R8, R11). -/
def reverseCount (s : State) : State :=
  if s.length.saturated then s
  else if s.fullPosition < s.floor * 65536 + s.profile.wheelStep then
    changeLength (fun l => { l with
      runCount := s.floor, fraction := 0, reverseClamps := tally l.reverseClamps }) s
  else changeLength (atPosition (s.fullPosition - s.profile.wheelStep)) s

/-! ## Decoding the wheel (1.2) -/

/-- The forward neighbour of a pair of levels of WHA and WHB (R3). -/
def forwardOf : Bool × Bool → Bool × Bool
  | (false, false) => (true, false)
  | (true, false) => (true, true)
  | (true, true) => (false, true)
  | (false, true) => (false, false)

/-- What a change from the reference to a new pair of levels is (R3). -/
inductive WheelChange where
  | none | forward | reverse | skip
deriving DecidableEq, Repr

/-- A change is classed against the reference (R3). -/
def classify (reference new : Bool × Bool) : WheelChange :=
  if new = reference then .none
  else if new = forwardOf reference then .forward
  else if reference = forwardOf new then .reverse
  else .skip

/-- A wheel count, the direction option exchanging the two directions (R4). -/
def wheelCount (forward : Bool) (s : State) : State :=
  if forward != s.profile.direction then forwardCount s else reverseCount s

/-- The decoder takes a new pair of levels with source WHEEL in RUNNING (R2, R3). -/
def decodeWheel (new : Bool × Bool) (s : State) : State :=
  match s.length.reference with
  | none => s
  | some old =>
    let t := changeLength (fun l => { l with reference := some new }) s
    match classify old new with
    | .none => s
    | .forward => wheelCount true t
    | .reverse => wheelCount false t
    | .skip => changeLength (fun l => { l with wheelSkips := tally l.wheelSkips }) t

/-! ## The rows source (1.5) -/

/-- A row advance request (R9, R10, R11). -/
def rowAdvance (s : State) : State :=
  if s.length.saturated then s
  else
    let count := s.length.runCount + s.effective.rowPitch
    if maxCount ≤ count then advance (reachCeiling s)
    else advance (changeLength (fun l => { l with runCount := count }) s)

/-- A ROW edge: the knot monitor's part, and then its advance request, if any (R9, R93, R96). -/
def rowEdge (s : State) : State :=
  if rowAsksAdvance s then rowAdvance (knotRowEdge s) else knotRowEdge s

/-! ## Speed, the entry and a restart -/

/-- The speed from a run count and the sample base (R13). -/
def speedOf (runCount base : Nat) : Int := clampInt (-32767) 32767 (((runCount : Int) - (base : Int)) * 10)

/-- A speed sample taken for the time `due` (R13). -/
def takeSample (due : Nat) (l : LengthUnit) : LengthUnit :=
  { l with speed := speedOf l.runCount l.sampleBase, sampleBase := l.runCount, sampleDue := some (due + samplePeriod) }

/-- Entry to RUNNING (R3, R16). -/
def lengthEntry (s : State) : State :=
  changeLength (fun l => { l with
    reference := if s.profile.source = .wheel then some (s.pins.wha, s.pins.whb) else none
    sampleBase := l.runCount, sampleDue := some (s.now + samplePeriod) }) s

/-- RESTART RUN (R17). -/
def lengthRestart (s : State) : State :=
  removeHold .countLimit (changeLength (fun l => { l with
    runCount := 0, fraction := 0, saturated := false, speed := 0, sampleBase := 0 }) s)

end Sys2Proof.Machine
end

