-- ==== Sys2Proof/Machine/Sense.lean ====
section
/-! DEFINITION. The sense unit (chapter 2): filtering the inputs and SPIN, handing edges and levels to the
services, and gauge runs opening and closing. -/

namespace Sys2Proof.Machine

/-! ## Gauge runs (2.5) -/

/-- A gauge run opened by the input at the run count (R24). -/
def openGauge (i : Nat) (s : State) : State :=
  changeInput i (fun inp => { inp with gauge := some { start := s.length.runCount, byCap := false } }) s

/-- A GAUGE input becomes active (R24). -/
def gaugeActive (i : Nat) (s : State) : State :=
  match (senseInput s i).gauge with
  | some _ => s
  | none => openGauge i s

/-- A GAUGE input becomes inactive: its run closes and raises its mark, except that a run opened by the cap and
closed at the count at which it opened raises none (R24, R25). -/
def gaugeInactive (i : Nat) (s : State) : State :=
  match (senseInput s i).gauge with
  | some run =>
    let closed := changeInput i (fun inp => { inp with gauge := none }) s
    if run.byCap ∧ run.start = s.length.runCount then closed
    else raiseMark (gaugeFault (min run.start s.length.runCount) (s.length.runCount - run.start) false) closed
  | none => s

/-! ## Handing on (R21 to R23) -/

/-- The request for a SPLICE or OPERATOR mark at the run count (R23). -/
def edgeMark (kind : MarkKind) (detail runCount : Nat) : Raising :=
  { kind := kind, position := runCount, span := 0, detail := BitVec.ofNat 16 detail, spanClamped := false
    clamped := false, lotTag := none }

/-- An edge of an input in its service's direction (R22, R23). -/
def handEdge (i : Nat) (s : State) : State :=
  match (assignment s.profile i).service with
  | .knotSection => countKnot i s
  | .row => rowEdge s
  | .splice => raiseMark (edgeMark .splice 0 s.length.runCount) s
  | .operator => raiseMark (edgeMark .operator i s.length.runCount) s
  | .cutDone => cutDone s
  | .gauge | .unused => s

/-- A change of a level service's input between active and inactive (R21, R24). -/
def handLevel (i : Nat) (active : Bool) (s : State) : State :=
  if (assignment s.profile i).service = .gauge then
    if active then gaugeActive i s else gaugeInactive i s
  else s

/-- What a change of the filtered level means to the service, by the detection (R21). -/
def handChange (i : Nat) (level : Bool) (s : State) : State :=
  match (assignment s.profile i).detection with
  | .rising => if level then handEdge i s else s
  | .falling => if level then s else handEdge i s
  | .high => handLevel i level s
  | .low => handLevel i (!level) s

/-- The filtered level of an input takes a level, and the change is handed on (R20). -/
def takeLevel (i : Nat) (level : Bool) (s : State) : State :=
  handChange i level (changeInput i (fun inp => { inp with filtered := some level, pending := none }) s)

/-! ## Filtering (2.2) -/

/-- Whether an input is watched: in RUNNING, with a service other than UNUSED (R19). -/
def watched (s : State) (i : Nat) : Bool := s.isRunning && decide ((assignment s.profile i).service ≠ .unused)

/-- A change of the raw level of a watched input (R20). -/
def filterRaw (i : Nat) (level : Bool) (s : State) : State :=
  if (senseInput s i).filtered = some level then changeInput i (fun inp => { inp with pending := none }) s
  else if (assignment s.profile i).filter = 0 then takeLevel i level s
  else changeInput i (fun inp => { inp with pending := some { level := level, since := s.now } }) s

/-- The level standing on an input's pin. -/
def pinLevel (s : State) (i : Nat) : Bool := s.pins.sns.getD i false

/-- A change of level on an input's pin: nothing where the level is the one standing (entry 5), and otherwise
an event at a watched input's filter (R19, R20). -/
def rawChange (i : Nat) (level : Bool) (s : State) : State :=
  if pinLevel s i = level then s
  else
    let t := s.withPins { s.pins with sns := s.pins.sns.set i level }
    if watched s i then filterRaw i level t else t

/-- When an input's pending change has stood for its filter time (R20). -/
def filterDue (s : State) (i : Nat) : Option Nat :=
  (senseInput s i).pending.map fun p => p.since + (assignment s.profile i).filter * filterUnit

/-- The expiry of an input's filter (R20). -/
def filterExpiry (i : Nat) (s : State) : State :=
  match (senseInput s i).pending with
  | some p => if timeCome (filterDue s i) s.now then takeLevel i p.level s else s
  | none => s

/-! ## The spindle pin (2.6) -/

/-- A change of level on SPIN (R26). -/
def spinChange (level : Bool) (s : State) : State :=
  if s.pins.spin = level then s
  else
    let t := s.withPins { s.pins with spin := level }
    if s.isRunning then
      t.withSense { t.sense with
        spinPending := if t.sense.spinFiltered = some level then none else some { level := level, since := t.now } }
    else t

/-- When the spindle's pending change has stood for 0.5 ms (R26). -/
def spinDue (s : State) : Option Nat := s.sense.spinPending.map fun p => p.since + spinFilter

/-- The expiry of the SPIN filter: a rise is a spindle edge, handed to the lay monitor (R26). -/
def spinExpiry (s : State) : State :=
  match s.sense.spinPending with
  | some p =>
    if timeCome (spinDue s) s.now then
      let t := s.withSense { s.sense with spinFiltered := some p.level, spinPending := none }
      if p.level then spindleEdge t else t
    else s
  | none => s

/-! ## The entry and a restart -/

/-- Whether an input's filtered level is a GAUGE input's active level (R21). -/
def gaugeIsActive (s : State) (i : Nat) : Bool :=
  decide ((assignment s.profile i).service = .gauge) &&
    match (assignment s.profile i).detection with
    | .high => decide ((senseInput s i).filtered = some true)
    | .low => decide ((senseInput s i).filtered = some false)
    | _ => false

/-- An input at entry to RUNNING: a used one takes its pin's level as its filtered level, and a GAUGE input
already active opens its run (R19, R24). -/
def inputEntry (i : Nat) (s : State) : State :=
  if (assignment s.profile i).service = .unused then s
  else
    let t := changeInput i (fun inp => { inp with filtered := some (pinLevel s i), pending := none }) s
    if gaugeIsActive t i then openGauge i t else t

/-- Entry to RUNNING (R19, R26). -/
def senseEntry (s : State) : State :=
  let t := (List.range 32).foldl (fun u i => inputEntry i u) s
  t.withSense { t.sense with spinFiltered := some t.pins.spin, spinPending := none }

/-- An input at RESTART RUN: its gauge run is discarded, and opens again at 0 where the input is still active
(R27). -/
def inputRestart (i : Nat) (s : State) : State :=
  changeInput i (fun inp => { inp with
    gauge := if gaugeIsActive s i then some { start := 0, byCap := false } else none }) s

/-- RESTART RUN (R27). -/
def senseRestart (s : State) : State := (List.range 32).foldl (fun u i => inputRestart i u) s

end Sys2Proof.Machine
end

