-- ==== Sys2Proof/Machine/Feeds.lean ====
section
/-! DEFINITION. The feed table (4.1, 4.2), translation (4.3) and serial checking (4.4). -/

namespace Sys2Proof.Machine

/-! ## The table -/

/-- The path in local millimetres, r (R52). -/
def reachOf (c : FeedConfig) : Nat := (c.path * c.ratio + 32768) / 65536

/-- A feed table entry as it stands at entry to RUNNING, but for its timer; in OPEN, what FEED READ answers
(R52, R68). -/
def freshEntry (c : FeedConfig) : FeedEntry :=
  { sender := c.sender.getD 0, path := c.path, ratio := c.ratio, timeout := c.timeout, reach := reachOf c
    state := .unheard, lastLocal := 0, prevStamp := none, expectedSerial := none, senderLot := 0, senderSpeed := 0
    senderHold := 0, silenceSince := none }

/-- The feeds in use: the slots below the feed count (R170). -/
def feedsInUse (p : Profile) : List FeedConfig := p.feeds.take p.feedCount

/-- The entries FEED READ answers for: the feed table, and in OPEN what it would be (R68). -/
def feedView (s : State) : List FeedEntry :=
  match s.station with
  | .running => s.feeds.table
  | .openState => (feedsInUse s.profile).map freshEntry

/-- Entry to RUNNING (R52). -/
def feedsEntry (s : State) : State :=
  s.withFeeds { s.feeds with
    table := (feedsInUse s.profile).map fun c => { freshEntry c with silenceSince := some s.now } }

/-- The part with a feed table entry changed. -/
def changeFeed (i : Nat) (f : FeedEntry → FeedEntry) (s : State) : State :=
  s.withFeeds { s.feeds with table := s.feeds.table.modify i f }

/-- The index of the feed whose sender is a station (R52). -/
def feedOf (s : State) (station : Nat) : Option Nat := s.feeds.table.findIdx? fun e => decide (e.sender = station)

/-! ## Silence and finding (4.2) -/

/-- When a feed's silence timer reaches its timeout (R55). -/
def silenceDue (e : FeedEntry) : Option Nat := e.silenceSince.map (· + e.timeout * perMs)

/-- The OPEN interval of a feed that went LOST (R55). -/
def openInterval (i low : Nat) : LossInterval :=
  { low := min low maxCount, high := none, cause := .feedLost, feed := some i }

/-- A feed's silence timer expires (R55). -/
def feedSilent (i : Nat) (s : State) : State :=
  match s.feeds.table[i]? with
  | some e =>
    if e.state ≠ .lost ∧ timeCome (silenceDue e) s.now then
      offerInterval (openInterval i (e.lastLocal + e.reach))
        (latch .feedLost (changeFeed i (fun e => { e with state := .lost, silenceSince := none }) s))
    else s
  | none => s

/-- The OPEN interval of a feed, as it closes at a high (R56). -/
def closingInterval (i high : Nat) (s : State) : Option LossInterval :=
  (s.feeds.losses.find? (isOpenOf i)).map fun j => { j with high := some (max j.low high) }

/-- A feed's OPEN interval is closed, offered to the coil builder, and its LOSS mark raised (R56, R64, R66,
R67). -/
def closeInterval (i high : Nat) (s : State) : State :=
  match closingInterval i high s with
  | some j => raiseLoss j (offerBuilder j (withLosses (closeOpen i high s.feeds.losses) s))
  | none => s

/-- A LOST feed is found (R56). -/
def feedFound (i : Nat) (e : FeedEntry) (s : State) : State :=
  closeInterval i (min (s.length.runCount + e.reach) maxCount)
    (latch .feedFound (changeFeed i (fun e => { e with state := .heard, expectedSerial := none }) s))

/-- A notice marks its feed heard, and restarts its silence timer (R53, steps 1 and 2). -/
def feedHears (i : Nat) (e : FeedEntry) (s : State) : State :=
  let found := if e.state = .lost then feedFound i e s else s
  changeFeed i (fun e => { e with
    state := .heard, lastLocal := s.length.runCount, silenceSince := some s.now }) found

/-- A POSITION notice is stored (R54). -/
def storePosition (i : Nat) (p : PositionPayload) (s : State) : State :=
  changeFeed i (fun e => { e with senderLot := p.activeLot, senderSpeed := p.speed, senderHold := p.own }) s

/-! ## Serials and gaps (4.4) -/

/-- The GAP interval of a MARK notice with a stamp, taken at local count L (R61). -/
def gapInterval (e : FeedEntry) (stamp localCount : Nat) : LossInterval :=
  let high := min (localCount + e.reach) maxCount
  let low := match e.prevStamp with
    | some prev =>
      let computed := min ((localCount : Int) + scale e.ratio ((prev : Int) - lookback - stamp + e.path)).toNat maxCount
      if high < computed then localCount else computed
    | none => localCount
  { low := low, high := some high, cause := .gap, feed := none }

/-- Whether a MARK notice's serial shows a gap (R60). -/
def showsGap (e : FeedEntry) (serial : Nat) : Bool := e.expectedSerial.any fun n => decide (n ≠ serial)

/-- The serial check of a MARK notice (R60). -/
def serialCheck (i : Nat) (e : FeedEntry) (serial stamp : Nat) (s : State) : State :=
  let gapped := if showsGap e serial then addInterval (gapInterval e stamp s.length.runCount) (latch .gap s) else s
  changeFeed i (fun e => { e with expectedSerial := some (nextSerial8 serial), prevStamp := some stamp }) gapped

/-! ## Translation (4.3) -/

/-- Whether the mark of a MARK notice can be read (R59). -/
def readable (m : MarkPayload) : Option MarkKind :=
  match markKindOf m.kindCode with
  | some k =>
    if m.hops ≤ maxHops ∧ 1 ≤ m.originStation ∧ m.originStation ≤ 62 ∧ ¬(k = .lotChange ∧ m.lotTag = 0) then some k
    else none
  | none => none

/-- A span translated, and whether it was cut to its kind's cap (R59). -/
def translateSpan (k : MarkKind) (ratio span : Nat) : Nat × Bool :=
  let scaled := (scale ratio span).toNat
  if k.isFault then (min scaled faultSpanCap, decide (faultSpanCap < scaled))
  else if k = .loss then (min scaled lossSpanCap, decide (lossSpanCap < scaled))
  else (0, false)

/-- A position translated, with its flags LATE and CLAMPED; none where the mark is refused FAR (R57, R58). -/
def translatePosition (e : FeedEntry) (stamp position localCount : Nat) : Option (Nat × Bool × Bool) :=
  let delta := (position : Int) - stamp + e.path
  if delta < 0 then some (localCount, true, false)
  else
    let offset := (scale e.ratio delta).toNat
    if horizon < offset then none
    else if maxCount < localCount + offset then some (maxCount, false, true)
    else some (localCount + offset, false, false)

/-- A received mark as it comes to the mark list, none where it is refused FAR (R33, R57 to R59). -/
def translate (i : Nat) (e : FeedEntry) (k : MarkKind) (m : MarkPayload) (stamp localCount : Nat) : Option Mark :=
  let span := translateSpan k e.ratio m.span
  (translatePosition e stamp m.position localCount).map fun p =>
    { position := p.1, kind := k, span := span.1, lotTag := m.lotTag
      origin := { station := m.originStation, serial := m.originSerial }, detail := m.detail, hops := m.hops
      source := .feed i, flags := { late := p.2.1, clamped := p.2.2, spanClamped := span.2 } }

/-- The mark of a MARK notice is translated and placed, or counted as FAR or as unreadable (R57 to R59, R69). -/
def takeMark (i : Nat) (e : FeedEntry) (m : MarkPayload) (stamp : Nat) (s : State) : State :=
  match readable m with
  | none => s.withFeeds { s.feeds with badMarks := tally s.feeds.badMarks }
  | some k =>
    match translate i e k m stamp s.length.runCount with
    | some mark => placeMark mark s
    | none => s.withFeeds { s.feeds with far := tally s.feeds.far }

/-- A notice handed to the feed and loss unit, at the entry of its sender (R53). -/
def feedTakes (i serial stamp : Nat) (payload : Payload) (s : State) : State :=
  match s.feeds.table[i]? with
  | none => s
  | some e =>
    let heard := feedHears i e s
    match payload with
    | .position p => storePosition i p heard
    | .hold _ | .release => heard
    | .mark m =>
      match heard.feeds.table[i]? with
      | none => heard
      | some e' => takeMark i e' m stamp (serialCheck i e' serial stamp heard)

/-- RESTART RUN: L_last becomes 0, the loss list is emptied, and an OPEN interval stands at r for each LOST feed (R69).
That they are added in order of feed index, so that of feeds with an equal r the lower index stands first, is the model's
choice (entry 40). -/
def feedsRestart (s : State) : State :=
  s.withFeeds { s.feeds with
    table := s.feeds.table.map fun e => { e with lastLocal := 0 }
    losses := (s.feeds.table.zipIdx.filter fun p => decide (p.1.state = .lost)).foldl
      (fun held p => addOpen (openInterval p.2 p.1.reach) held) [] }

end Sys2Proof.Machine
end

