-- ==== Sys2Proof/Machine/Wire.lean ====
section
/-! DEFINITION. The hold unit's watch on the wire (9.2) and its holder list (9.3). -/

namespace Sys2Proof.Machine

/-- The observed state that a level of HOLDW matches (R144). -/
def wireStateOf (level : Bool) : WireState := if level then .running else .held

/-- A change of level on HOLDW: nothing where the level is the one standing (entry 5); otherwise it cancels or
records a pending change of the observed state (R144). -/
def wireChange (level : Bool) (s : State) : State :=
  if s.pins.holdw = level then s
  else
    let t := s.withPins { s.pins with holdw := level }
    t.withHold { t.hold with
      pending := if wireStateOf level = t.hold.observed then none
                 else some { state := wireStateOf level, since := t.now } }

/-- When the pending change of the observed state has stood for 2 ms (R144). -/
def wireDue (s : State) : Option Nat := s.hold.pending.map fun p => p.since + debounce

/-- The wire is seen HELD (R145). -/
def seeHeld (s : State) : State :=
  knotSeesHeld (laySeesHeld (latch .lineHeld (s.withHold { s.hold with observed := .held, pending := none })))

/-- The wire is seen RUNNING (R145); the knot monitor's rules give that no effect. -/
def seeRunning (s : State) : State :=
  laySeesRunning (latch .lineReleased (s.withHold { s.hold with
    observed := .running, pending := none, holders := [], uncounted := false }))

/-- The expiry of the hold wire's debounce (R144, R145). -/
def wireExpiry (s : State) : State :=
  match s.hold.pending with
  | some p =>
    if timeCome (wireDue s) s.now then
      match p.state with
      | .held => seeHeld s
      | .running => seeRunning s
    else s
  | none => s

/-- The hold unit's pending change right after a station reset, by the level of HOLDW (R144, R152). -/
def resetPending (s : State) : Option PendingWire :=
  if s.pins.holdw then none else some { state := .held, since := s.now }

/-- A RELEASE from a station (R148). -/
def holderReleases (station : Nat) (s : State) : State :=
  s.withHold { s.hold with holders := s.hold.holders.filter fun h => decide (h.station ≠ station) }

/-- A HOLD from a station with its reason set; an empty set is a RELEASE (R147). -/
def holderHolds (station : Nat) (reasons : HoldSet) (s : State) : State :=
  if reasons = 0 then holderReleases station s
  else if s.hold.holders.any fun h => decide (h.station = station) then
    s.withHold { s.hold with
      holders := s.hold.holders.map fun h => if h.station = station then { h with reasons := reasons } else h }
  else if s.hold.holders.length < holderPlaces then
    s.withHold { s.hold with holders := s.hold.holders ++ [{ station := station, reasons := reasons }] }
  else s.withHold { s.hold with uncounted := true }

end Sys2Proof.Machine
end

