-- ==== Sys2Proof/Machine/Bus.lean ====
section
/-! DEFINITION. The line bus port (chapter 10): idle gaps, starting and ending a frame, the error score, receiving,
and POSITION notices. -/

namespace Sys2Proof.Machine

/-- The part with the port changed. -/
def changePort (f : BusPort → BusPort) (s : State) : State := s.withPort (f s.port)

/-! ## The score and the states (10.5) -/

/-- The port mutes when the error score has reached 192 in ACTIVE (R164). -/
def muteTest (s : State) : State :=
  if s.port.state = .active ∧ muteScore ≤ s.port.score then
    latch .busMuted (changePort (fun p => { p with state := .muted, idleGaps := 0 }) s)
  else s

/-- In ACTIVE the error score rises, saturating at 255 (R156, R161, R162). -/
def raiseScore (n : Nat) (s : State) : State :=
  if s.port.state = .active then muteTest (changePort (fun p => { p with score := min (p.score + n) 255 }) s) else s

/-- In ACTIVE the error score falls by 1, not below 0 (R156, R161). -/
def lowerScore (s : State) : State :=
  if s.port.state = .active then changePort (fun p => { p with score := p.score - 1 }) s else s

/-- An idle gap completes, between frames or within a frame (R154, R164). -/
def idleGap (s : State) : State :=
  match s.port.state with
  | .silent => s
  | .listen => changePort (fun p => { p with state := .active, busIdle := true }) s
  | .active => changePort (fun p => { p with busIdle := true }) s
  | .muted =>
    if s.port.idleGaps + 1 < rejoinGaps then
      changePort (fun p => { p with idleGaps := p.idleGaps + 1, busIdle := true }) s
    else
      latch .busActive (changePort (fun p => { p with state := .active, score := 0, idleGaps := 0, busIdle := true }) s)

/-! ## Sending (10.2) -/

/-- The FIFO of class 2 that supplies the next notice, by the turn (R160). -/
def chooseClass2 (p : BusPort) : Option Slot :=
  if p.ownTurn then
    if p.own ≠ [] then some .own else if p.forwarded ≠ [] then some .forwarded else none
  else
    if p.forwarded ≠ [] then some .forwarded else if p.own ≠ [] then some .own else none

/-- The place that supplies the next notice (R160). -/
def chooseSlot (p : BusPort) : Option Slot :=
  if p.class0.isSome then some .class0
  else if p.class1 ≠ [] then some .class1
  else (chooseClass2 p) <|> (if p.class3.isSome then some .class3 else none)

/-- The notice chosen for the next start, with its place (R160). -/
def chosen (p : BusPort) : Option (Slot × Queued) :=
  (chooseSlot p).bind fun slot => (fifoOf p slot).head?.map fun q => (slot, q)

/-- The stamp a frame takes at its start (R157). -/
def stampOf (runCount : Nat) (q : Queued) : Nat := min (runCount + q.shift) maxCount

/-- Whether the port may start a frame: ACTIVE, sending none, and the bus idle (R155; DESIGN CHOICE, entry 21). -/
def mayStart (p : BusPort) : Bool := decide (p.state = .active) && p.sending.isNone && p.busIdle

/-- The port starts a frame (R155, R157, R160). -/
def startFrame (s : State) : State :=
  if mayStart s.port then
    match chosen s.port with
    | some (slot, q) =>
      changePort (fun p => { p with
        busIdle := false, noFrameYet := false
        sending := some { slot := slot, superseded := false
                          bits := frameBits s.stationNumber slot q (stampOf s.length.runCount q) } }) s
    | none => s
  else s

/-- This station stops driving before the end of its frame, and contends again at the next idle (R155, R156;
entry 21). -/
def stopSending (p : BusPort) : BusPort := { p with sending := none, busIdle := false }

/-- The contending sender has lost arbitration: it stops driving, its notice staying queued (R155). -/
def loseArbitration (s : State) : State :=
  if s.port.sending.isSome then changePort stopSending s else s

/-- The turn after a class 2 notice has left its FIFO (R160). -/
def turnAfter (slot : Slot) (ownTurn : Bool) : Bool :=
  match slot with
  | .own => false
  | .forwarded => true
  | _ => ownTurn

/-- A notice leaves its place, sent or dropped (R156, R160). -/
def removeNotice (slot : Slot) (p : BusPort) : BusPort :=
  { withFifo p slot (fifoOf p slot).tail with ownTurn := turnAfter slot p.ownTurn }

/-- A frame has been sent: the score falls by 1, the notice leaves its queue where it still stands in its place, and
the bus is idle where a gap has completed in the frame's recessive end (R154, R156, R159). -/
def frameSent (s : State) : State :=
  match s.port.sending with
  | some f =>
    lowerScore (changePort (fun p =>
      { (if f.superseded then p else removeNotice f.slot p) with
        sending := none, busIdle := idleAfterFrame p.busIdle f.bits }) s)
  | none => s

/-- One more failed attempt for the head of a queue (R156). -/
def chargeAttempt (q : List Queued) : List Queued :=
  match q with
  | [] => []
  | n :: rest => { n with attempts := n.attempts + 1 } :: rest

/-- A failed attempt charged to the notice that was sent; the third drops it (R156). -/
def failAttempt (slot : Slot) (s : State) : State :=
  let charged := changePort (fun p => withFifo p slot (chargeAttempt (fifoOf p slot))) s
  match (fifoOf charged.port slot).head? with
  | some n => if 3 ≤ n.attempts then dropNotice (changePort (removeNotice slot) charged) else charged
  | none => charged

/-- A bit error: the attempt fails, the score rises by 8, and the notice that was sent is charged where it still
stands in its place (R156, R159). -/
def bitError (s : State) : State :=
  match s.port.sending with
  | some f =>
    let stopped := changePort stopSending s
    raiseScore 8 (if f.superseded then stopped else failAttempt f.slot stopped)
  | none => s

/-! ## Receiving (10.4) -/

/-- A HOLD or RELEASE goes to the hold unit (R163). -/
def holdUnitTakes (station : Nat) (payload : Payload) (s : State) : State :=
  match payload with
  | .hold reasons => holderHolds station reasons s
  | .release => holderReleases station s
  | .mark _ | .position _ => s

/-- A notice from a feed's sender goes to the feed and loss unit (R163). -/
def feedUnitTakes (f : RxFrame) (payload : Payload) (s : State) : State :=
  match feedOf s f.station with
  | some i => feedTakes i f.serial f.stamp payload s
  | none => s

/-- A good, fit frame from another station is taken by kind and sender (R163). -/
def takeFrame (f : RxFrame) (s : State) : State :=
  let payload := readPayload f.kindCode f.payload
  feedUnitTakes f payload (holdUnitTakes f.station payload s)

/-- A received frame in ACTIVE or MUTED, judged and taken (R161 to R163). -/
def judgeReceived (early : Bool) (bits : List Bool) (s : State) : State :=
  match judgeFrame early bits with
  | .framingError | .checkFailure => raiseScore 1 s
  | .good f =>
    if isFit f = false then
      lowerScore (changePort (fun p => { p with unfit := tally p.unfit }) s)
    else if f.station = s.stationNumber then
      raiseScore 8 (changePort (fun p => { p with ownNumber := tally p.ownNumber }) s)
    else takeFrame f (lowerScore s)

/-- Whether the port takes a frame now: ACTIVE or MUTED, and not sending one itself (R161). -/
def takesFrames (p : BusPort) : Bool :=
  (decide (p.state = .active) || decide (p.state = .muted)) && p.sending.isNone

/-- The port once a frame has been on the bus: idle still where a gap has completed in its recessive end, and no
longer waiting for the first frame after the entry to LISTEN (R154; entry 39). -/
def frameOver (bits : List Bool) (p : BusPort) : BusPort :=
  { p with busIdle := idleAfterFrame p.busIdle (wholeFrame bits), noFrameYet := false }

/-- Whether a frame was on the bus before the first idle gap counted from the entry to LISTEN, so that it is passed over:
no other frame has come since the entry, and no gap had completed when it started (R164, R174; DEDUCED, entry 39). -/
def passesOver (early : Bool) (p : BusPort) : Bool := early && p.noFrameYet

/-- A frame has been on the bus and is received, or passed over (R154, R161, R164, R174). -/
def receiveFrame (early : Bool) (bits : List Bool) (s : State) : State :=
  if takesFrames s.port then
    let ended := changePort (frameOver bits) s
    if passesOver early s.port then ended else judgeReceived early bits ended
  else s

/-! ## POSITION notices (10.6) -/

/-- The POSITION payload of the state standing (R165). -/
def positionPayload (s : State) : PositionPayload :=
  { speed := s.length.speed, activeLot := s.lots.activeTag, own := s.hold.own, observed := s.hold.observed
    builder := s.builder.state }

/-- When the POSITION timer expires (R165). -/
def positionDue (s : State) : Option Nat := s.port.positionSince.map (· + s.profile.positionInterval * perMs)

/-- The POSITION timer expires: a notice is offered to class 3, and the timer runs on (R165). -/
def positionExpiry (s : State) : State :=
  if timeCome (positionDue s) s.now then
    changePort (fun p => { p with positionSince := positionDue s }) (offerClass3 (.position (positionPayload s)) s)
  else s

/-! ## The entry and a restart -/

/-- Entry to RUNNING (R164, R165). -/
def portEntry (s : State) : State :=
  changePort (fun p => { p with state := .listen, positionSince := some s.now, noFrameYet := true }) s

/-- A queued MARK notice takes the stamp shift of a restart (R157). -/
def shiftStamp (runCount : Nat) (q : Queued) : Queued := { q with shift := min (q.shift + runCount) maxCount }

/-- RESTART RUN: the run count the command found is added to the stamp shift of every queued MARK notice (R157,
R167). -/
def portRestart (s : State) : State :=
  changePort (fun p => { p with
    class1 := p.class1.map (shiftStamp s.length.runCount)
    own := p.own.map (shiftStamp s.length.runCount)
    forwarded := p.forwarded.map (shiftStamp s.length.runCount) }) s

end Sys2Proof.Machine
end

