-- ==== Sys2Proof/Machine/Layout.lean ====
section
/-! DEFINITION. The data bytes of the replies (R186, R189, R190): codes, records, and the replies that are not
laid out in chapter 13. DESIGN CHOICE (entry 19): in a reply or record that R189 does not lay out, the presence
field stands first. -/

namespace Sys2Proof.Machine

/-! ## Codes of R186 -/

/-- The code of a result code (R186). -/
def ResultCode.code : ResultCode → Nat
  | .done => 0
  | .badFrame => 1
  | .unknownCommand => 2
  | .wrongState => 3
  | .outOfRange => 4
  | .full => 5
  | .absent => 6
  | .inUse => 7
  | .empty => 8
  | .sameLot => 9
  | .inconsistent => 10

/-- The code of a station state (R186). -/
def stationCode : StationState → Nat
  | .openState => 0
  | .running => 1

/-- The code of a port state (R186). -/
def portCode : PortState → Nat
  | .silent => 0
  | .listen => 1
  | .active => 2
  | .muted => 3

/-- The code of a feed state (R186). -/
def feedCode : FeedState → Nat
  | .unheard => 0
  | .heard => 1
  | .lost => 2

/-- The code of a loss cause (R186). -/
def lossCode : LossCause → Nat
  | .feedLost => 0
  | .gap => 1
  | .refused => 2
  | .evicted => 3
  | .relayed => 4

/-- The code of a knot monitor state (R186). -/
def knotCode : KnotState → Nat
  | .off => 0
  | .firstRow => 1
  | .counting => 2

/-- The code of a first-row cause (R186). -/
def firstRowCode : FirstRowCause → Nat
  | .start => 0
  | .lot => 1

/-- The code of an observed wire state (R186). -/
def wireCode : WireState → Nat
  | .running => 0
  | .held => 1

/-- The code of a grade (R186). -/
def gradeCode : Grade → Nat
  | .a => 0
  | .b => 1
  | .c => 2
  | .hold => 3

/-- The code of a mark's source (R186). -/
def sourceCode : MarkSource → Nat
  | .here => 0
  | .feed i => i + 1

/-- The mask of mark flags (R186). -/
def markFlagBits (f : MarkFlags) : Nat := f.late.toNat + 2 * f.clamped.toNat + 4 * f.spanClamped.toNat

/-- The mask of coil flags (R186). -/
def coilFlagBits (f : CoilFlags) : Nat :=
  f.incomplete.toNat + 2 * f.short.toNat + 4 * f.lateCut.toNat + 8 * f.confirmed.toNat

/-- The mask of event flags (R186). -/
def eventFlagBits (f : EventFlags) : Nat :=
  f.late.toNat + 2 * f.carried.toNat + 4 * f.truncated.toNat + 8 * f.absorbed.toNat + 16 * f.void.toNat +
    32 * f.clamped.toNat

/-! ## Records laid out by R189 -/

/-- The 14 bytes of a mark record, with its own hops (R189). -/
def markRecordBytes (m : Mark) : List Byte :=
  markBytes
    { position := m.position, span := m.span, kindCode := m.kind.code, hops := m.hops, lotTag := m.lotTag
      originStation := m.origin.station, originSerial := m.origin.serial, detail := m.detail } ++
    be 1 (sourceCode m.source) ++ be 1 (markFlagBits m.flags)

/-- An event entry, 15 bytes (R189). -/
def eventBytes (e : Event) : List Byte :=
  be 1 e.kind.code ++ be 4 e.offset ++ be 4 e.span ++ be 1 e.origin.station ++ be 2 e.origin.serial ++
    be 2 e.detail.toNat ++ be 1 (eventFlagBits e.flags)

/-- A boundary offset in four signed bytes; where it does not fit them, which R189 does not provide for, the bytes are a
free value (R186, R189; DESIGN CHOICE, entry 42). -/
def offsetBytes (x : Int) : List Byte :=
  if -2147483648 ≤ x ∧ x ≤ 2147483647 then beInt 4 x else be 4 (Config.wideOffset x).toNat

/-- A coil record, 47 + 15 × e bytes (R189); `standing` is the presence bit of COIL PEEK's sequence. -/
def coilBytes (c : Coil) (standing : Bool) : List Byte :=
  let closed := c.closing
  let offset := closed.bind Closing.boundaryOffset
  be 2 c.serial ++ be 1 c.lotTag ++ be 1 c.package ++
    presence 1 [c.planned.isSome, offset.isSome, closed.isSome, standing] ++
    be 4 c.start ++ beOption 4 (closed.map Closing.endAt) ++ beOption 4 (closed.map Closing.runLength) ++
    beOption 4 (closed.map Closing.relaxed) ++ be 4 c.target ++ beOption 4 c.planned ++
    beOption 1 (closed.map fun k => k.causes.toNat) ++ offsetBytes (offset.getD 0) ++ be 1 (coilFlagBits c.flags) ++
    be 2 c.splices ++ be 2 c.gauges ++ be 4 c.faultTotal ++ beOption 1 (closed.map fun k => gradeCode k.grade) ++
    be 2 c.unlisted ++ listBytes eventBytes c.events

/-- The bytes of a lot record, or of any sixteen parameters, in the places of R189. -/
def paramBytes (ps : Params (Option Nat)) : List Byte := allParams.flatMap fun p => beOption (paramWidth p) (paramOf ps p)

/-- The presence word of a lot record (R189). -/
def presenceWord (ps : Params (Option Nat)) : List Byte := presence 2 (allParams.map fun p => (paramOf ps p).isSome)

/-- A lot record, 25 bytes (R189). -/
def lotBytes (r : LotRecord) : List Byte := be 1 r.tag ++ presenceWord r.params ++ paramBytes r.params

/-- A plan entry, 7 bytes (R189). -/
def planBytes (e : PlanEntry) : List Byte :=
  be 1 e.lotTag ++ be 4 e.target ++ be 1 e.count ++ be 1 (e.package + 128 * e.endFlag.toNat)

/-! ## Replies not laid out by R189 -/

/-- A hold reason set, one byte (R186). -/
def holdBytes (own : HoldSet) : List Byte := be 1 own.toNat

/-- An attention set, three bytes (R186). -/
def attentionBytes (conditions : AttentionSet) : List Byte := be 3 conditions.toNat

/-- The hold state as it is reported (R149). -/
def holdStateBytes (s : State) : List Byte :=
  holdBytes s.hold.own ++ be 1 (wireCode s.hold.observed) ++
    listBytes (fun h : Holder => be 1 h.station ++ holdBytes h.reasons) s.hold.holders ++
    yesNo s.hold.uncounted ++ yesNo s.unattributed

/-- What STATUS reports (R181). -/
def statusBytes (s : State) : List Byte :=
  be 1 (stationCode s.station) ++ be 4 s.length.runCount ++ beInt 2 s.length.speed ++ be 1 s.lots.activeTag ++
    holdStateBytes s ++ be 1 (builderCode s.builder.state) ++ be 1 (portCode s.port.state) ++ be 1 s.port.score ++
    attentionBytes s.link.latched ++ attentionBytes s.link.enabled

/-- The fifteen tallies, in the order of R182. -/
def allTallies (s : State) : List Nat :=
  [s.length.reverseClamps, s.length.wheelSkips, s.marks.duplicates, s.marks.merges, s.marks.lost,
   s.marks.discarded, s.feeds.far, s.feeds.badMarks, s.builder.repeatedCuts, s.builder.unrecordedCuts,
   s.port.dropped, s.port.unfit, s.port.ownNumber, s.link.lostReplies, s.link.badFrames]

/-- What TALLIES READ reports (R182). -/
def tallyBytes (s : State) : List Byte := (allTallies s).flatMap (be 2)

/-- What LOT READ with tag 0 reports (R117). -/
def lotUnitBytes (s : State) : List Byte :=
  be 1 s.lots.activeTag ++ yesNo s.lots.unknown ++
    listBytes (fun r : LotRecord => be 1 r.tag) s.lots.table ++
    allParams.flatMap fun p => be (paramWidth p) (paramOf s.effective p)

/-- What RESTART RUN reports: the count it found and, if any, the serial of the coil it closed (R185). -/
def restartBytes (found : Nat) (closed : Option Nat) : List Byte :=
  presence 1 [closed.isSome] ++ be 4 found ++ beOption 2 closed

/-- A loss interval as LOSS READ reports it (R68). -/
def lossBytes (i : LossInterval) : List Byte :=
  presence 1 [i.high.isSome, i.feed.isSome] ++ be 4 i.low ++ beOption 4 i.high ++ be 1 (lossCode i.cause) ++
    beOption 1 i.feed

/-- A feed table entry as FEED READ reports it (R68). -/
def feedBytes (e : FeedEntry) : List Byte :=
  presence 1 [e.prevStamp.isSome, e.expectedSerial.isSome] ++ be 1 e.sender ++ be 3 e.path ++ be 3 e.ratio ++
    be 2 e.timeout ++ be 3 e.reach ++ be 1 (feedCode e.state) ++ be 4 e.lastLocal ++ beOption 4 e.prevStamp ++
    beOption 1 e.expectedSerial ++ be 1 e.senderLot ++ beInt 2 e.senderSpeed ++ holdBytes e.senderHold ++
    yesNo e.silenceSince.isSome

/-- A section as SECTION READ reports it (R103). -/
def sectionBytes (c : Section) : List Byte :=
  be 1 c.input ++ be 1 c.expected ++ be 1 c.count ++ be 1 c.misses ++ be 1 c.noise

/-- What SECTION READ reports (R103). -/
def knotBytes (k : KnotMonitor) : List Byte :=
  let inFirstRow := decide (k.state = .firstRow)
  presence 1 [inFirstRow, k.working.isSome, k.faultRun.isSome] ++ be 1 (knotCode k.state) ++
    be 1 (if inFirstRow then firstRowCode k.cause else 0) ++
    beOption 1 (k.working.map KnotWorkingSet.stopCount) ++ beOption 1 (k.working.map KnotWorkingSet.brokenRows) ++
    beOption 4 (k.faultRun.map KnotFaultRun.start) ++ beOption 4 (k.faultRun.map KnotFaultRun.finish) ++
    beOption 1 (k.faultRun.map KnotFaultRun.rows) ++ beOption 2 (k.faultRun.map KnotFaultRun.total) ++
    beOption 2 (k.faultRun.map KnotFaultRun.firstSerial) ++ listBytes sectionBytes k.sections

/-- The stop record's fields as ROW READ reports them (R90, R104). -/
def stopRecordBytes (r : Option StopRecord) : List Byte :=
  presence 1 [(r.bind StopRecord.broken).isSome] ++ beOption 2 (r.map StopRecord.serial) ++
    beOption 2 (r.map StopRecord.total) ++ yesNo (r.any StopRecord.totalFailed) ++
    beOption 1 (r.bind StopRecord.broken)

/-- What ROW READ reports at every index: the number of summaries, the row serial counter and the stop record
(R104). -/
def rowHeadBytes (k : KnotMonitor) : List Byte :=
  presence 1 [k.stopRecord.isSome] ++ be 1 k.history.length ++ be 2 k.rowSerial ++ stopRecordBytes k.stopRecord

/-- A row summary as ROW READ reports it (R104). -/
def summaryBytes (r : RowSummary) : List Byte :=
  be 2 r.serial ++ be 4 r.start ++ yesNo r.idle ++ listBytes (be 1) r.missing ++ be 2 r.total ++
    be 4 r.noisy.toNat

end Sys2Proof.Machine
end

