-- ==== Sys2Proof/Machine/Link.lean ====
section
/-! DEFINITION. The local link (12.1): how a command frame is judged (R179), what is shifted out while it is shifted
in, and the reply buffer at its judgement (R180). -/

namespace Sys2Proof.Machine

/-! ## Judging a command frame (R179) -/

/-- The argument length of a command code, none where the code names no command (R190). -/
def argumentLength : Nat → Option Nat
  | 1 | 2 | 4 | 5 | 7 | 8 => some 0
  | 3 => some 3
  | 6 => some 6
  | 9 => some 25
  | 10 | 11 | 12 => some 1
  | 13 | 14 | 15 => some 0
  | 16 => some 7
  | 17 | 18 | 19 | 20 | 21 | 22 | 23 => some 0
  | 24 => some 7
  | 25 => some 1
  | 26 => some 0
  | 27 => some 1
  | 28 => some 0
  | 29 => some 1
  | _ => none

/-- How a command frame is judged (R179): `taken` with its command code, its argument bytes and the number of its
fill bytes. -/
inductive LinkJudgement where
  | badFrame
  | unknownCommand
  | taken (code : Nat) (arguments : List Byte) (fill : Nat)
deriving DecidableEq, Repr

/-- The judgement of the whole bytes of a command frame: the first case of R179 that holds. -/
def judgeLink : List Byte → LinkJudgement
  | code :: n :: rest =>
    if rest.length < n.toNat + 1 then .badFrame
    else if byteSum (code :: n :: rest.take (n.toNat + 1)) ≠ 0 then .badFrame
    else match argumentLength code.toNat with
      | none => .unknownCommand
      | some k =>
        if k ≠ n.toNat then .badFrame
        else .taken code.toNat (rest.take n.toNat) (rest.length - (n.toNat + 1))
  | _ => .badFrame

/-- The length in bytes of the frame of a command with `n` argument bytes (R179, R190). -/
def frameLength (n fill : Nat) : Nat := 3 + n + fill

/-! ## The reply buffer (R180) -/

/-- A reply without data. -/
def bare (code : ResultCode) : Reply := { code := code, data := [] }

/-- DONE with its data. -/
def done (data : List Byte) : Reply := { code := .done, data := data }

/-- A reply's bytes: result code, length, data and sum byte (R180, R190). -/
def replyBytes (r : Reply) : List Byte :=
  let front := be 1 r.code.code ++ be 1 r.data.length ++ r.data
  front ++ [sumByte front]

/-- The bytes of the reply the buffer holds; none where it is empty (R180). -/
def heldBytes (s : State) : List Byte := (s.link.reply.map replyBytes).getD []

/-- What is shifted out during a frame of `len` bytes: the reply held, then fill of 255 (R180, R190). -/
def shiftedOut (len : Nat) (s : State) : List Byte := (heldBytes s ++ List.replicate len 255#8).take len

/-- Whether the reply held is lost at the judgement of a frame of `len` bytes, not having been shifted out in full
(R180). -/
def losesReply (len : Nat) (s : State) : Bool := decide (len < (heldBytes s).length)

/-- A lost reply is counted (R180). -/
def countLost (len : Nat) (s : State) : State :=
  if losesReply len s then s.withLink { s.link with lostReplies := tally s.link.lostReplies } else s

/-- The buffer takes the reply to the frame just ended; `ldo` records what was shifted out meanwhile (R180). -/
def placeReply (len : Nat) (r : Reply) (s : State) : State :=
  s.withLink { s.link with reply := some r, ldo := shiftedOut len s }

/-- The judgement of a frame of `len` bytes ends with its reply in the buffer (R180). -/
def finishFrame (len : Nat) (r : Reply) (s : State) : State := placeReply len r (countLost len s)

/-- A frame that is not taken is answered and counted in the bad frame tally (R179). -/
def refuseFrame (len : Nat) (code : ResultCode) (s : State) : State :=
  let t := s.withLink { s.link with badFrames := tally s.link.badFrames }
  finishFrame len (bare code) t

end Sys2Proof.Machine
end

