-- ==== Sys2Proof/Decode.lean ====
section
/-! DEFINITION. Reading commands from bits: the opcode table's words, of which there are none, and the command frames
of the local link (R179, R190), with the encoder that writes such a frame. -/

namespace Sys2Proof

open Sys2Proof.Machine

/-- The command that a word of the opcode table spells: none, since the table gives no row any bits (entry 29). -/
def decodeTableWord (_nbits _w : Nat) : Option Instr := none

/-! ## Arguments of the host commands (R189, R190) -/

/-- The values of a lot record's parameters, read from its bytes: bit `paramBit` of the presence word says whether
the parameter is present (R189). -/
def readParams (bytes : List Byte) : Params (Option Nat) :=
  let word := fieldAt bytes 1 2
  paramsFrom fun p => if word.testBit (paramBit p) then some (fieldAt bytes (paramPlace p) (paramWidth p)) else none

/-- The lot record that 25 bytes write (R189). -/
def readLot (bytes : List Byte) : LotRecord := { tag := byteAt bytes 0, params := readParams bytes }

/-- The host command of a command code with its arguments and fill; none where the code names no command (R190). -/
def hostCommand (code : Nat) (a : List Byte) (fill : Nat) : Option Instr :=
  match code with
  | 1 => some (.status fill)
  | 2 => some (.attentionRead fill)
  | 3 => some (.attentionEnable (fieldAt a 0 3) fill)
  | 4 => some (.talliesRead fill)
  | 5 => some (.restartRun fill)
  | 6 => some (.profileSet (byteAt a 0) (byteAt a 1) (fieldAt a 2 4) fill)
  | 7 => some (.profileClose fill)
  | 8 => some (.reset fill)
  | 9 => some (.lotLoad (readLot a) fill)
  | 10 => some (.lotDrop (byteAt a 0) fill)
  | 11 => some (.lotRead (byteAt a 0) fill)
  | 12 => some (.lotStart (byteAt a 0) fill)
  | 13 => some (.hold fill)
  | 14 => some (.release fill)
  | 15 => some (.stopAck fill)
  | 16 => some (.planAppend (byteAt a 0) (fieldAt a 1 4) (byteAt a 5) (byteAt a 6) fill)
  | 17 => some (.planClear fill)
  | 18 => some (.planRead fill)
  | 19 => some (.coilTake fill)
  | 20 => some (.coilPeek fill)
  | 21 => some (.cutOrder fill)
  | 22 => some (.cutRetry fill)
  | 23 => some (.cutConfirm fill)
  | 24 => some (.markPlace (byteAt a 0) (fieldAt a 1 4) (fieldAt a 5 2) fill)
  | 25 => some (.markRead (byteAt a 0) fill)
  | 26 => some (.lossRead fill)
  | 27 => some (.feedRead (byteAt a 0) fill)
  | 28 => some (.sectionRead fill)
  | 29 => some (.rowRead (byteAt a 0) fill)
  | _ => none

/-- The command that a whole frame of the local link is, BAD_FRAME where it is not taken (R179). -/
def decodeLinkFrame (bytes : List Byte) : Instr :=
  match judgeLink bytes with
  | .taken code arguments fill => (hostCommand code arguments fill).getD (.badFrame bytes)
  | .badFrame | .unknownCommand => .badFrame bytes

/-- A command frame: code, argument length, arguments, sum byte and fill (R179, R190). -/
def linkFrame (code : Nat) (arguments : List Byte) (fill : Nat) : List Byte :=
  let front := be 1 code ++ be 1 arguments.length ++ arguments
  front ++ [sumByte front] ++ List.replicate fill 0

/-- The frame of the local link that carries a command; none for an event that does not come by the link (R190). -/
def encodeLinkFrame : Instr → Option (List Byte)
  | .badFrame bytes => some bytes
  | .status fill => some (linkFrame 1 [] fill)
  | .attentionRead fill => some (linkFrame 2 [] fill)
  | .attentionEnable mask fill => some (linkFrame 3 (be 3 mask) fill)
  | .talliesRead fill => some (linkFrame 4 [] fill)
  | .restartRun fill => some (linkFrame 5 [] fill)
  | .profileSet field index value fill => some (linkFrame 6 (be 1 field ++ be 1 index ++ be 4 value) fill)
  | .profileClose fill => some (linkFrame 7 [] fill)
  | .reset fill => some (linkFrame 8 [] fill)
  | .lotLoad record fill => some (linkFrame 9 (lotBytes record) fill)
  | .lotDrop tag fill => some (linkFrame 10 (be 1 tag) fill)
  | .lotRead tag fill => some (linkFrame 11 (be 1 tag) fill)
  | .lotStart tag fill => some (linkFrame 12 (be 1 tag) fill)
  | .hold fill => some (linkFrame 13 [] fill)
  | .release fill => some (linkFrame 14 [] fill)
  | .stopAck fill => some (linkFrame 15 [] fill)
  | .planAppend lotTag target count packageByte fill =>
    some (linkFrame 16 (be 1 lotTag ++ be 4 target ++ be 1 count ++ be 1 packageByte) fill)
  | .planClear fill => some (linkFrame 17 [] fill)
  | .planRead fill => some (linkFrame 18 [] fill)
  | .coilTake fill => some (linkFrame 19 [] fill)
  | .coilPeek fill => some (linkFrame 20 [] fill)
  | .cutOrder fill => some (linkFrame 21 [] fill)
  | .cutRetry fill => some (linkFrame 22 [] fill)
  | .cutConfirm fill => some (linkFrame 23 [] fill)
  | .markPlace kind offset detail fill => some (linkFrame 24 (be 1 kind ++ be 4 offset ++ be 2 detail) fill)
  | .markRead index fill => some (linkFrame 25 (be 1 index) fill)
  | .lossRead fill => some (linkFrame 26 [] fill)
  | .feedRead index fill => some (linkFrame 27 (be 1 index) fill)
  | .sectionRead fill => some (linkFrame 28 [] fill)
  | .rowRead index fill => some (linkFrame 29 (be 1 index) fill)
  | .powerOnReset | .wheelChange _ _ | .senseRawChange _ _ | .senseFilterExpiry _ | .spinRawChange _
  | .spinFilterExpiry | .speedSample | .feedTimeout _ | .cutTimerExpiry | .trimPeriodStart | .trimHighTimeEnd
  | .holdWireChange _ | .holdDebounceExpiry | .positionTimerExpiry | .idle | .frameStart | .arbitrationLost
  | .bitError | .frameSent | .frameReceived _ _ => none

end Sys2Proof
end

