-- ==== Sys2Proof/Machine/Resets.lean ====
section
/-! DEFINITION. The station resets (11.6), closing the profile (11.4), and RESTART RUN (12.5). -/

namespace Sys2Proof.Machine

/-! ## Station reset (R176 to R178) -/

/-- Every block at its station reset values, with the pins as they stand, the observed wire by R144, and the
queue of commands and the free orders kept (R176, R144; entries 1, 2). -/
def stationReset (s : State) : State :=
  let fresh := (((State.reset.withNow s.now).withPins s.pins).withOrders s.orders).withPending s.pending
  fresh.withHold { fresh.hold with pending := resetPending s }

/-- POWER_ON_RESET: power-on, or a low pulse on RSTN from its beginning to the end of the hold (R176; entry 8). -/
def execPowerOnReset (s : State) : Host.Outcome State Fault Refusal := .next (stationReset s)

/-- RESET: a station reset, after which the reply buffer holds DONE (R177; entry 33). -/
def execReset (fill : Nat) (s : State) : Host.Outcome State Fault Refusal :=
  let t := stationReset s
  .next (t.withLink { t.link with reply := some (done []), ldo := shiftedOut (frameLength 0 fill) s })

/-! ## PROFILE SET (R171) -/

/-- PROFILE SET (R171). -/
def execProfileSet (field index value fill : Nat) (s : State) : Host.Outcome State Fault Refusal :=
  let len := frameLength 6 fill
  if s.isRunning then .next (finishFrame len (bare .wrongState) s)
  else match writeProfile s.profile field index value with
    | some p => .next (finishFrame len (done []) (s.withProfile p))
    | none => .next (finishFrame len (bare .outOfRange) s)

/-! ## PROFILE CLOSE (R172, R173) -/

/-- The senders of the feeds in use. -/
def sendersInUse (p : Profile) : List (Option Nat) := (feedsInUse p).map FeedConfig.sender

/-- The number of inputs with a service. -/
def inputsServing (p : Profile) (service : Service) : Nat := p.inputs.countP fun a => decide (a.service = service)

/-- Whether an input's detection is one its service may have (R172, check 6). -/
def detectionFits (a : Assignment) : Bool :=
  match a.service, a.detection with
  | .unused, _ => true
  | .gauge, .high | .gauge, .low => true
  | .gauge, _ => false
  | _, .rising | _, .falling => true
  | _, _ => false

/-- Whether a check of PROFILE CLOSE passes (R172). -/
def closeCheckPasses (p : Profile) : Nat → Bool
  | 1 => p.stationNumber.isSome
  | 2 => (sendersInUse p).all Option.isSome
  | 3 => (sendersInUse p).all fun n => decide (n ≠ p.stationNumber)
  | 4 => decide (sendersInUse p).Nodup
  | 5 => (feedsInUse p).all fun c => decide (p.positionInterval < c.timeout)
  | 6 => p.inputs.all detectionFits
  | 7 => decide (p.base.tolerance ≤ p.base.stopTolerance)
  | 8 => decide (p.base.spliceLimitA ≤ p.base.spliceLimitB)
  | 9 => decide (p.base.densityLimitA ≤ p.base.densityLimitB)
  | 10 => !p.laySupervision || decide (p.source = .wheel)
  | 11 => !p.knotSupervision || decide (p.source = .rows)
  | 12 => !p.knotSupervision || decide (inputsServing p .row = 1)
  | 13 => !p.knotSupervision || decide (1 ≤ inputsServing p .knotSection)
  | 14 => decide (p.source = .wheel) || p.knotSupervision
  | 15 => !p.coilBuilding || decide (1 ≤ inputsServing p .cutDone)
  | _ => true

/-- The number of the first check of PROFILE CLOSE that fails (R172). -/
def failedCheck (p : Profile) : Option Nat :=
  [1, 2, 3, 4, 5, 6, 7, 8, 9, 10, 11, 12, 13, 14, 15].find? fun n => !closeCheckPasses p n

/-- The lot unit at entry to RUNNING (R118). -/
def lotsEntry (s : State) : State :=
  s.withLots { s.lots with activeTag := 0, effective := some s.profile.base, unknown := false }

/-- The coil builder at entry to RUNNING (R139). -/
def builderEntry (s : State) : State :=
  if s.profile.coilBuilding then openCoil 0 [] (s.withBuilder { s.builder with state := .building }) else s

/-- Entry to RUNNING: every block starts work from the frozen profile (R173). -/
def enterRunning (s : State) : State :=
  let t := feedsEntry (lotsEntry (senseEntry (lengthEntry (s.withStation .running))))
  portEntry (builderEntry (knotEntry (startTrimPeriod t.now (layEntry t))))

/-- PROFILE CLOSE (R172, R173). -/
def execProfileClose (fill : Nat) (s : State) : Host.Outcome State Fault Refusal :=
  let len := frameLength 0 fill
  if s.isRunning then .next (finishFrame len (bare .wrongState) s)
  else match failedCheck s.profile with
    | some n => .next (finishFrame len { code := .inconsistent, data := be 1 n } s)
    | none => .next (finishFrame len (done []) (enterRunning s))

/-! ## RESTART RUN (R185) -/

/-- Why a RESTART RUN is refused, if it is (R185). -/
def restartRefusal (s : State) : Option ResultCode :=
  if s.station = .openState then some .wrongState
  else match s.builder.state with
    | .cutDue | .cutting | .cutFailed => some .wrongState
    | .building => if s.builder.log.length < logPlaces then none else some .full
    | .off => none

/-- The serial of the current coil, while there is one. -/
def currentSerial (s : State) : Option Nat := s.builder.current.map fun cur => cur.record.serial

/-- The mark list's part in RESTART RUN: waiting marks are discarded and counted (R50). -/
def discardMarks (s : State) : State :=
  s.withMarks { s.marks with marks := [], discarded := min (s.marks.discarded + s.marks.marks.length) 65535 }

/-- The coil builder closes its coil at the count found, the outstanding claim being dropped (R140). -/
def builderEnds (s : State) : State :=
  if s.builder.state = .off then s
  else
    let t := closeCoil (oneCause .restart) false false s
    t.withBuilder { t.builder with outstanding := none }

/-- The coil builder opens its new coil at 0 with the faults carried (R140). -/
def builderBegins (carried : List Event) (s : State) : State :=
  if s.builder.state = .off then s else openCoil 0 carried s

/-- RESTART RUN as every block takes it: what acts on the count found comes before the count becomes 0, and the new
coil opens last, against the emptied mark list and the loss list as the feed and loss unit leaves it (R185). -/
def restart (s : State) : State :=
  let ended := discardMarks (portRestart (builderEnds s))
  builderBegins (carriedFaults s) (knotRestart (layRestart (feedsRestart (senseRestart (lengthRestart ended)))))

/-- RESTART RUN (R185). -/
def execRestartRun (fill : Nat) (s : State) : Host.Outcome State Fault Refusal :=
  let len := frameLength 0 fill
  match restartRefusal s with
  | some code => .next (finishFrame len (bare code) s)
  | none =>
    .next (finishFrame len (done (restartBytes s.length.runCount (currentSerial s))) (restart s))

end Sys2Proof.Machine
end

