-- ==== Sys2Proof/Machine/PinEvents.lean ====
section
/-! DEFINITION. The events on the input pins (chapters 1, 2 and 9). -/

namespace Sys2Proof.Machine

/-- WHEEL_CHANGE: a change of level on WHA or WHB, decoded in RUNNING with source WHEEL (R2, R3; entry 6). -/
def execWheelChange (wha whb : Bool) (s : State) : Host.Outcome State Fault Refusal :=
  let t := s.withPins { s.pins with wha := wha, whb := whb }
  .next (if s.isRunning ∧ s.profile.source = .wheel then decodeWheel (wha, whb) t else t)

/-- SENSE_RAW_CHANGE: a change of level on a sense input's pin (R19, R20). -/
def execSenseRawChange (input : Fin 32) (level : Bool) (s : State) : Host.Outcome State Fault Refusal :=
  .next (rawChange input.val level s)

/-- SPIN_RAW_CHANGE: a change of level on SPIN (R26). -/
def execSpinRawChange (level : Bool) (s : State) : Host.Outcome State Fault Refusal := .next (spinChange level s)

/-- HOLD_WIRE_CHANGE: a change of level on HOLDW (R144; entry 7). -/
def execHoldWireChange (level : Bool) (s : State) : Host.Outcome State Fault Refusal := .next (wireChange level s)

end Sys2Proof.Machine
end

