-- ==== Sys2Proof/Machine/Timers.lean ====
section
/-! DEFINITION. The expiries of the station's time base. Each acts when its time has come and has no effect before
(entry 4). -/

namespace Sys2Proof.Machine

/-- SENSE_FILTER_EXPIRY (R20). -/
def execSenseFilterExpiry (input : Fin 32) (s : State) : Host.Outcome State Fault Refusal :=
  .next (filterExpiry input.val s)

/-- SPIN_FILTER_EXPIRY (R26). -/
def execSpinFilterExpiry (s : State) : Host.Outcome State Fault Refusal := .next (spinExpiry s)

/-- SPEED_SAMPLE: the sample that has fallen due is taken (R13). -/
def execSpeedSample (s : State) : Host.Outcome State Fault Refusal :=
  .next (match s.length.sampleDue with
    | some due => if due ≤ s.now then changeLength (takeSample due) s else s
    | none => s)

/-- FEED_TIMEOUT (R55). -/
def execFeedTimeout (feed : Fin 4) (s : State) : Host.Outcome State Fault Refusal := .next (feedSilent feed.val s)

/-- When the cut timer expires (R129). -/
def cutDue (s : State) : Option Nat := s.builder.cutTimer.map (· + s.profile.cutTimeout * perMs)

/-- CUT_TIMER_EXPIRY: in CUTTING the builder enters CUT_FAILED, CUT is deasserted and its hold reason stays
(R129). -/
def execCutTimerExpiry (s : State) : Host.Outcome State Fault Refusal :=
  .next (if s.builder.state = .cutting ∧ timeCome (cutDue s) s.now then
      latch .cutFailed (s.withBuilder { s.builder with state := .cutFailed, cutTimer := none })
    else s)

/-- When the running TRIM period's high time ends, while the output is high (R87). -/
def trimFallDue (s : State) : Option Nat :=
  if s.trim.level then s.trim.periodStart.map (· + s.trim.highTime) else none

/-- When the next TRIM period starts (R87). -/
def trimRiseDue (s : State) : Option Nat := s.trim.periodStart.map (· + trimPeriod)

/-- TRIM_PERIOD_START: the next period starts 1,000 units after the last (R87). -/
def execTrimPeriodStart (s : State) : Host.Outcome State Fault Refusal :=
  .next (match trimRiseDue s with
    | some due => if due ≤ s.now then startTrimPeriod due s else s
    | none => s)

/-- TRIM_HIGH_TIME_END: the output goes low (R87). -/
def execTrimHighTimeEnd (s : State) : Host.Outcome State Fault Refusal :=
  .next (if timeCome (trimFallDue s) s.now then s.withTrim { s.trim with level := false } else s)

/-- HOLD_DEBOUNCE_EXPIRY (R144, R145). -/
def execHoldDebounceExpiry (s : State) : Host.Outcome State Fault Refusal := .next (wireExpiry s)

/-- POSITION_TIMER_EXPIRY (R165). -/
def execPositionTimerExpiry (s : State) : Host.Outcome State Fault Refusal := .next (positionExpiry s)

end Sys2Proof.Machine
end

