-- ==== Sys2Proof/Machine/BusEvents.lean ====
section
/-! DEFINITION. The events of the line bus (chapter 10). -/

namespace Sys2Proof.Machine

/-- IDLE: an idle gap completes (R154, R164). -/
def execIdle (s : State) : Host.Outcome State Fault Refusal := .next (idleGap s)

/-- FRAME_START: the bit time after an idle (R155, R157, R160). -/
def execFrameStart (s : State) : Host.Outcome State Fault Refusal := .next (startFrame s)

/-- ARBITRATION_LOST (R155). -/
def execArbitrationLost (s : State) : Host.Outcome State Fault Refusal := .next (loseArbitration s)

/-- BIT_ERROR (R156). -/
def execBitError (s : State) : Host.Outcome State Fault Refusal := .next (bitError s)

/-- FRAME_SENT (R156). -/
def execFrameSent (s : State) : Host.Outcome State Fault Refusal := .next (frameSent s)

/-- FRAME_RECEIVED (R161 to R163). -/
def execFrameReceived (early : Bool) (bits : List Bool) (s : State) : Host.Outcome State Fault Refusal :=
  .next (receiveFrame early bits s)

end Sys2Proof.Machine
end

