-- ==== Sys2Proof/Machine/HostLink.lean ====
section
/-! DEFINITION. The link frame that is not taken, and the commands the local link owns: STATUS, ATTENTION READ,
ATTENTION ENABLE and TALLIES READ (chapter 12). -/

namespace Sys2Proof.Machine

/-- BAD_FRAME: a frame that is not taken is answered BAD_FRAME or UNKNOWN_COMMAND and counted (R179). Bytes that
judge as a good frame are a command of the table, and this event has no effect on them (entry 10). -/
def execBadFrame (bytes : List Byte) (s : State) : Host.Outcome State Fault Refusal :=
  .next (match judgeLink bytes with
    | .badFrame => refuseFrame bytes.length .badFrame s
    | .unknownCommand => refuseFrame bytes.length .unknownCommand s
    | .taken _ _ _ => s)

/-- STATUS (R181). -/
def execStatus (fill : Nat) (s : State) : Host.Outcome State Fault Refusal :=
  .next (finishFrame (frameLength 0 fill) (done (statusBytes s)) s)

/-- ATTENTION READ: the latched set is reported and emptied (R184). -/
def execAttentionRead (fill : Nat) (s : State) : Host.Outcome State Fault Refusal :=
  .next (finishFrame (frameLength 0 fill) (done (attentionBytes s.link.latched))
    (s.withLink { s.link with latched := 0 }))

/-- ATTENTION ENABLE (R184). -/
def execAttentionEnable (mask fill : Nat) (s : State) : Host.Outcome State Fault Refusal :=
  let len := frameLength 3 fill
  match attentionSetOf mask with
  | some conditions =>
    .next (finishFrame len (done (attentionBytes s.link.latched)) (s.withLink { s.link with enabled := conditions }))
  | none => .next (finishFrame len (bare .outOfRange) s)

/-- Every tally of the part at 0 (R182). -/
def clearTallies (s : State) : State :=
  let s1 := s.withLength { s.length with reverseClamps := 0, wheelSkips := 0 }
  let s2 := s1.withMarks { s1.marks with duplicates := 0, merges := 0, lost := 0, discarded := 0 }
  let s3 := s2.withFeeds { s2.feeds with far := 0, badMarks := 0 }
  let s4 := s3.withBuilder { s3.builder with repeatedCuts := 0, unrecordedCuts := 0 }
  let s5 := s4.withPort { s4.port with dropped := 0, unfit := 0, ownNumber := 0 }
  s5.withLink { s5.link with lostReplies := 0, badFrames := 0 }

/-- TALLIES READ as it is taken: the tallies are reported and cleared, and the frame ends (R182). -/
def readTallies (len : Nat) (s : State) : State := finishFrame len (done (tallyBytes s)) (clearTallies s)

/-- TALLIES READ with the loss of the reply before it counted first, so that it is reported and cleared (R182). -/
def readTalliesAfterLoss (len : Nat) (s : State) : State :=
  let t := countLost len s
  placeReply len (done (tallyBytes t)) (clearTallies t)

/-- TALLIES READ (R182). Where the frame also loses the reply before it, the loss and the command fall in an open
order (entry 12). -/
def execTalliesRead (fill : Nat) (s : State) : Host.Outcome State Fault Refusal :=
  let len := frameLength 0 fill
  .next (if losesReply len s then
      if s.firstOpen then readTalliesAfterLoss len s.useOrder else readTallies len s.useOrder
    else readTallies len s)

end Sys2Proof.Machine
end

