-- ==== Sys2Proof/Machine/HostHold.lean ====
section
/-! DEFINITION. The hold commands (9.5): HOLD, RELEASE and STOP ACK. -/

namespace Sys2Proof.Machine

/-- DONE with the own hold reason set as it stands (R150, R151). -/
def doneOwn (s : State) : Reply := done (holdBytes s.hold.own)

/-- A hold command's frame of no arguments: refused in OPEN, and otherwise done with the set after it (R150,
R151). -/
def holdCommand (fill : Nat) (own : HoldSet) (s : State) : State :=
  if s.isRunning then
    let t := setReasons own s
    finishFrame (frameLength 0 fill) (doneOwn t) t
  else finishFrame (frameLength 0 fill) (bare .wrongState) s

/-- HOLD gives ORDERED_HOLD (R150). -/
def execHold (fill : Nat) (s : State) : Host.Outcome State Fault Refusal :=
  .next (holdCommand fill (giveReason .orderedHold s.hold.own) s)

/-- RELEASE removes ORDERED_HOLD (R150). -/
def execRelease (fill : Nat) (s : State) : Host.Outcome State Fault Refusal :=
  .next (holdCommand fill (removeReason .orderedHold s.hold.own) s)

/-- The set without the three reasons that STOP ACK removes (R151). -/
def withoutStops (own : HoldSet) : HoldSet :=
  removeReason .boundaryLost (removeReason .knotStop (removeReason .layStop own))

/-- STOP ACK removes LAY_STOP, KNOT_STOP and BOUNDARY_LOST as one change (R151). -/
def execStopAck (fill : Nat) (s : State) : Host.Outcome State Fault Refusal :=
  .next (holdCommand fill (withoutStops s.hold.own) s)

end Sys2Proof.Machine
end

