-- ==== Sys2Proof/Machine/HostLots.lean ====
section
/-! DEFINITION. The lot commands (7.2, 7.4, 7.5): LOT LOAD, LOT DROP, LOT START and LOT READ. -/

namespace Sys2Proof.Machine

/-- Why a LOT LOAD is refused, if it is (R110). -/
def loadRefusal (r : LotRecord) (s : State) : Option Reply :=
  if s.isRunning = false then some (bare .wrongState)
  else if recordInRange r = false then some (bare .outOfRange)
  else match failedTest (completeRecord r s.profile.base) with
    | some n => some { code := .inconsistent, data := be 1 n }
    | none =>
      if r.tag = s.lots.activeTag ∧ s.lots.unknown = false then some (bare .inUse)
      else if heldRecord s.lots.table r.tag = none ∧ lotPlaces ≤ s.lots.table.length then some (bare .full)
      else none

/-- The lot unit with a record stored (R110). -/
def storeRecord (r : LotRecord) (s : State) : State :=
  s.withLots { s.lots with table := insertRecord r s.lots.table }

/-- LOT LOAD's outcome code: ADDED, REPLACED, or ACTIVATED for the active tag (R110, R111, R186). -/
def loadOutcome (r : LotRecord) (s : State) : Nat :=
  if r.tag = s.lots.activeTag then 2 else if (heldRecord s.lots.table r.tag).isSome then 1 else 0

/-- A LOT LOAD that is not refused: the record is stored, and the active lot's set is rebuilt (R110, R111). -/
def loadRecord (r : LotRecord) (s : State) : State :=
  if r.tag = s.lots.activeTag then rebuild r (storeRecord r s) else storeRecord r s

/-- LOT LOAD (R110, R111). -/
def execLotLoad (r : LotRecord) (fill : Nat) (s : State) : Host.Outcome State Fault Refusal :=
  let len := frameLength 25 fill
  match loadRefusal r s with
  | some reply => .next (finishFrame len reply s)
  | none => .next (finishFrame len (done (be 1 (loadOutcome r s))) (loadRecord r s))

/-- Whether a LOT_CHANGE carrying a tag waits (R112). -/
def lotWaits (tag : Nat) (s : State) : Bool :=
  s.marks.marks.any fun w => decide (w.kind = .lotChange) && decide (w.lotTag = tag)

/-- Why a LOT DROP is refused, if it is (R112). -/
def dropRefusal (tag : Nat) (s : State) : Option ResultCode :=
  if s.isRunning = false then some .wrongState
  else if tag = 0 then some .outOfRange
  else if heldRecord s.lots.table tag = none then some .absent
  else if tag = s.lots.activeTag then some .inUse
  else if lotWaits tag s then some .inUse
  else none

/-- LOT DROP (R112). -/
def execLotDrop (tag fill : Nat) (s : State) : Host.Outcome State Fault Refusal :=
  let len := frameLength 1 fill
  match dropRefusal tag s with
  | some code => .next (finishFrame len (bare code) s)
  | none =>
    .next (finishFrame len (done [])
      (s.withLots { s.lots with table := s.lots.table.filter fun r => decide (r.tag ≠ tag) }))

/-- LOT READ's reply (R117). -/
def lotReply (tag : Nat) (s : State) : Reply :=
  if tag = 0 then done (lotUnitBytes s)
  else match heldRecord s.lots.table tag with
    | some r => done (lotBytes r)
    | none => { code := .absent, data := be 1 s.lots.activeTag ++ be 1 s.lots.table.length }

/-- LOT READ (R117). -/
def execLotRead (tag fill : Nat) (s : State) : Host.Outcome State Fault Refusal :=
  .next (finishFrame (frameLength 1 fill) (lotReply tag s) s)

/-- The LOT_CHANGE that LOT START has raised (R116). -/
def startRaising (tag : Nat) (s : State) : Raising :=
  { kind := .lotChange, position := s.length.runCount, span := 0, detail := 0, spanClamped := false
    clamped := false, lotTag := some tag }

/-- LOT START's answer code: ACTIVATED or UNKNOWN, or DROPPED where the identity check drops the mark (R116,
R186). -/
def startAnswer (tag : Nat) (s : State) : Nat :=
  if isDuplicate (completeMark (startRaising tag s) s) s then 2
  else if (heldRecord s.lots.table tag).isSome then 0
  else 1

/-- Why a LOT START is refused, if it is (R116). -/
def startRefusal (tag : Nat) (s : State) : Option ResultCode :=
  if s.isRunning = false then some .wrongState
  else if tag = 0 then some .outOfRange
  else if tag = s.lots.activeTag then some .sameLot
  else none

/-- LOT START (R116). -/
def execLotStart (tag fill : Nat) (s : State) : Host.Outcome State Fault Refusal :=
  let len := frameLength 1 fill
  match startRefusal tag s with
  | some code => .next (finishFrame len (bare code) s)
  | none =>
    .next (finishFrame len (done (be 2 s.marks.nextSerial ++ be 1 (startAnswer tag s)))
      (raiseAny (startRaising tag s) s))

end Sys2Proof.Machine
end

