-- ==== Sys2Proof/Machine/HostCoils.lean ====
section
/-! DEFINITION. The commands of the coil builder (8.2, 8.5, 8.9). -/

namespace Sys2Proof.Machine

/-- Whether the builder's commands are refused: in OPEN, and with the builder OFF (R121, R122, R130). -/
def builderShut (s : State) : Bool := !s.isRunning || decide (s.builder.state = .off)

/-- Why a PLAN APPEND is refused, or the entry it appends (R121). -/
def appendCheck (lotTag target count packageByte : Nat) (s : State) : Except ResultCode PlanEntry :=
  if builderShut s then .error .wrongState
  else match planEntryOf lotTag target count packageByte with
    | none => .error .outOfRange
    | some e =>
      if s.builder.plan.any PlanEntry.endFlag then .error .wrongState
      else if planPlaces ≤ s.builder.plan.length then .error .full
      else .ok e

/-- An entry at the tail of the plan; where it has become the head, a coil without entry reference and target
makes a late take (R121, R124). -/
def appendEntry (e : PlanEntry) (s : State) : State :=
  let t := s.withBuilder { s.builder with plan := s.builder.plan ++ [e] }
  if s.builder.plan = [] then lateTake t else t

/-- PLAN APPEND (R121). -/
def execPlanAppend (lotTag target count packageByte fill : Nat) (s : State) : Host.Outcome State Fault Refusal :=
  let len := frameLength 7 fill
  match appendCheck lotTag target count packageByte s with
  | .error code => .next (finishFrame len (bare code) s)
  | .ok e => .next (finishFrame len (done (be 1 (s.builder.plan.length + 1))) (appendEntry e s))

/-- The plan emptied; the current coil keeps what it took but for its entry reference (R122). -/
def clearPlan (s : State) : State :=
  changeCoil (fun cur => { cur with entryRef := false }) (s.withBuilder { s.builder with plan := [] })

/-- PLAN CLEAR (R122). -/
def execPlanClear (fill : Nat) (s : State) : Host.Outcome State Fault Refusal :=
  let len := frameLength 0 fill
  if builderShut s then .next (finishFrame len (bare .wrongState) s)
  else .next (finishFrame len (done []) (clearPlan s))

/-- PLAN READ (R122). -/
def execPlanRead (fill : Nat) (s : State) : Host.Outcome State Fault Refusal :=
  .next (finishFrame (frameLength 0 fill) (done (listBytes planBytes s.builder.plan)) s)

/-- The coil log without the record taken; in CUT_DUE the builder goes on to CUTTING (R127, R138). -/
def takeCoil (rest : List Coil) (s : State) : State :=
  let t := s.withBuilder { s.builder with log := rest }
  if s.builder.state = .cutDue then enterCutting t else t

/-- COIL TAKE (R138). -/
def execCoilTake (fill : Nat) (s : State) : Host.Outcome State Fault Refusal :=
  let len := frameLength 0 fill
  match s.builder.log with
  | [] => .next (finishFrame len (bare .empty) s)
  | c :: rest => .next (finishFrame len (done (coilBytes c false)) (takeCoil rest s))

/-- COIL PEEK's reply (R138, R189). -/
def peekReply (s : State) : Reply :=
  match s.builder.current with
  | some cur =>
    if builderShut s then bare .absent
    else done (coilBytes cur.record s.builder.sequence.isSome ++ be 1 (builderCode s.builder.state) ++
      be 1 (sequenceCauses s).toNat ++ be 4 s.length.runCount)
  | none => bare .absent

/-- COIL PEEK (R138). -/
def execCoilPeek (fill : Nat) (s : State) : Host.Outcome State Fault Refusal :=
  .next (finishFrame (frameLength 0 fill) (peekReply s) s)

/-- A cut asked for now: in BUILDING a sequence with ORDERED and the causes reached; while a sequence stands,
ORDERED joins its causes (R130). -/
def orderCut (s : State) : State :=
  if s.builder.state = .building then startReached (oneCause .ordered) s
  else changeCauses (addCause .ordered) s

/-- CUT ORDER (R130). -/
def execCutOrder (fill : Nat) (s : State) : Host.Outcome State Fault Refusal :=
  let len := frameLength 0 fill
  if builderShut s then .next (finishFrame len (bare .wrongState) s)
  else
    let t := orderCut s
    .next (finishFrame len (done (be 1 (builderCode t.builder.state))) t)

/-- Whether CUT RETRY and CUT CONFIRM are refused: in OPEN, and in every builder state but CUT_FAILED (R129). -/
def notFailed (s : State) : Bool := !s.isRunning || decide (s.builder.state ≠ .cutFailed)

/-- CUT RETRY: CUT is asserted again and the cut timer starts afresh (R129). -/
def execCutRetry (fill : Nat) (s : State) : Host.Outcome State Fault Refusal :=
  let len := frameLength 0 fill
  if notFailed s then .next (finishFrame len (bare .wrongState) s)
  else .next (finishFrame len (done [])
    (s.withBuilder { s.builder with state := .cutting, cutTimer := some s.now }))

/-- CUT CONFIRM: the coil closes with CONFIRMED (R129). That it does not gain LATE_CUT as well, which R128 gives to a coil
that a CUT_DONE edge closes in CUT_FAILED, is DEDUCED (entry 41). -/
def execCutConfirm (fill : Nat) (s : State) : Host.Outcome State Fault Refusal :=
  let len := frameLength 0 fill
  if notFailed s then .next (finishFrame len (bare .wrongState) s)
  else .next (finishFrame len (done (beOption 2 (currentSerial s))) (settleCut false true s))

end Sys2Proof.Machine
end

