-- ==== Sys2Proof/Machine/HostMarks.lean ====
section
/-! DEFINITION. The commands of the mark list (3.7) and of the feed and loss unit (R68). -/

namespace Sys2Proof.Machine

/-- What MARK PLACE raises (R47). -/
def hostRaising (kind : MarkKind) (offset detail : Nat) (s : State) : Raising :=
  let position := s.length.runCount + offset
  { kind := kind, position := min position maxCount, span := 0, detail := BitVec.ofNat 16 detail
    spanClamped := false, clamped := decide (maxCount < position), lotTag := none }

/-- The mark kind of a MARK PLACE whose arguments lie in range (R47). -/
def placeKind (kind offset detail : Nat) : Option MarkKind :=
  (hostMarkKind kind).filter fun k => decide (offset ≤ horizon) && (k != .cutRequest || decide (detail = 0))

/-- Why a MARK PLACE is refused, or what it raises (R47). -/
def placeCheck (kind offset detail : Nat) (s : State) : Except ResultCode Raising :=
  if s.isRunning = false then .error .wrongState
  else match placeKind kind offset detail with
    | none => .error .outOfRange
    | some k =>
      let r := hostRaising k offset detail s
      if 0 < offset ∧ placementOf (completeMark r s) s = .refused then .error .full else .ok r

/-- MARK PLACE's outcome code: FIRED, WAITING or DROPPED (R47, R186). -/
def placeOutcome : Placement → Nat
  | .fires => 0
  | .stored | .evicts => 1
  | .duplicate | .mergedAway | .refused => 2

/-- MARK PLACE (R47). -/
def execMarkPlace (kind offset detail fill : Nat) (s : State) : Host.Outcome State Fault Refusal :=
  let len := frameLength 7 fill
  match placeCheck kind offset detail s with
  | .error code => .next (finishFrame len (bare code) s)
  | .ok r =>
    let outcome := placeOutcome (placementOf (completeMark r s) s)
    .next (finishFrame len (done (be 2 s.marks.nextSerial ++ be 1 outcome)) (raiseAny r s))

/-- MARK READ's reply (R48, R189). -/
def markReply (index : Nat) (s : State) : Reply :=
  if 95 < index then bare .outOfRange
  else match s.marks.marks[index]? with
    | some m => done (be 1 s.marks.marks.length ++ markRecordBytes m)
    | none => { code := .absent, data := be 1 s.marks.marks.length }

/-- MARK READ (R48). -/
def execMarkRead (index fill : Nat) (s : State) : Host.Outcome State Fault Refusal :=
  .next (finishFrame (frameLength 1 fill) (markReply index s) s)

/-- LOSS READ (R68). -/
def execLossRead (fill : Nat) (s : State) : Host.Outcome State Fault Refusal :=
  .next (finishFrame (frameLength 0 fill) (done (listBytes lossBytes s.feeds.losses)) s)

/-- FEED READ's reply (R68). -/
def feedReply (index : Nat) (s : State) : Reply :=
  if 3 < index then bare .outOfRange
  else match (feedView s)[index]? with
    | some e => done (feedBytes e)
    | none => bare .absent

/-- FEED READ (R68). -/
def execFeedRead (index fill : Nat) (s : State) : Host.Outcome State Fault Refusal :=
  .next (finishFrame (frameLength 1 fill) (feedReply index s) s)

end Sys2Proof.Machine
end

