-- ==== Sys2Proof/Machine/HostKnot.lean ====
section
/-! DEFINITION. The commands of the knot monitor (6.7): SECTION READ and ROW READ. -/

namespace Sys2Proof.Machine

/-- SECTION READ (R103). -/
def execSectionRead (fill : Nat) (s : State) : Host.Outcome State Fault Refusal :=
  .next (finishFrame (frameLength 0 fill) (done (knotBytes s.knot)) s)

/-- ROW READ's reply (R104). -/
def rowReply (index : Nat) (s : State) : Reply :=
  if 15 < index then bare .outOfRange
  else match s.knot.history[index]? with
    | some r => done (rowHeadBytes s.knot ++ summaryBytes r)
    | none => { code := .absent, data := rowHeadBytes s.knot }

/-- ROW READ (R104). -/
def execRowRead (index fill : Nat) (s : State) : Host.Outcome State Fault Refusal :=
  .next (finishFrame (frameLength 1 fill) (rowReply index s) s)

end Sys2Proof.Machine
end

