-- ==== Sys2Proof/Machine/Clock.lean ====
section
/-! DEFINITION. Which expiry of the station's time base has fallen due. DESIGN CHOICE (entry 3): where several are
due at one time, they are taken in the order written here. -/

namespace Sys2Proof.Machine

/-- An event, where the time set for it has come. -/
def dueAt (due : Option Nat) (now : Nat) (event : Instr) : Option Instr := if timeCome due now then some event else none

/-- The first input whose filter has expired (R20). -/
def dueFilter (s : State) : Option Instr :=
  (List.finRange 32).findSome? fun i => dueAt (filterDue s i.val) s.now (.senseFilterExpiry i)

/-- When a feed's silence timer expires; a LOST feed's is stopped (R55). -/
def feedDue (s : State) (i : Nat) : Option Nat :=
  (s.feeds.table[i]?.filter fun e => decide (e.state ≠ .lost)).bind silenceDue

/-- The first feed whose silence timer has expired (R55). -/
def dueFeed (s : State) : Option Instr :=
  (List.finRange 4).findSome? fun i => dueAt (feedDue s i.val) s.now (.feedTimeout i)

/-- When the cut timer expires, in CUTTING (R129). -/
def cuttingDue (s : State) : Option Nat := if s.builder.state = .cutting then cutDue s else none

/-- The expiry to be taken next, if any has fallen due (entry 3). -/
def dueEvent (s : State) : Option Instr :=
  (dueAt (trimFallDue s) s.now .trimHighTimeEnd <|> dueAt (trimRiseDue s) s.now .trimPeriodStart <|>
    dueAt s.length.sampleDue s.now .speedSample <|> dueAt (positionDue s) s.now .positionTimerExpiry <|>
    dueAt (wireDue s) s.now .holdDebounceExpiry <|> dueAt (spinDue s) s.now .spinFilterExpiry <|>
    dueAt (cuttingDue s) s.now .cutTimerExpiry <|> dueFilter s <|> dueFeed s)

end Sys2Proof.Machine
end

