-- ==== Sys2Proof/Machine/Dispatch.lean ====
section
/-! DEFINITION. The meaning of each command: one arm for each row of the opcode table. -/

namespace Sys2Proof.Machine

def exec (i : Instr) (s : State) : Host.Outcome State Fault Refusal :=
  match i with
  | .powerOnReset => Sys2Proof.Machine.execPowerOnReset s
  | .reset fill => Sys2Proof.Machine.execReset fill s
  | .wheelChange wha whb => Sys2Proof.Machine.execWheelChange wha whb s
  | .senseRawChange input level => Sys2Proof.Machine.execSenseRawChange input level s
  | .senseFilterExpiry input => Sys2Proof.Machine.execSenseFilterExpiry input s
  | .spinRawChange level => Sys2Proof.Machine.execSpinRawChange level s
  | .spinFilterExpiry => Sys2Proof.Machine.execSpinFilterExpiry s
  | .speedSample => Sys2Proof.Machine.execSpeedSample s
  | .feedTimeout feed => Sys2Proof.Machine.execFeedTimeout feed s
  | .cutTimerExpiry => Sys2Proof.Machine.execCutTimerExpiry s
  | .trimPeriodStart => Sys2Proof.Machine.execTrimPeriodStart s
  | .trimHighTimeEnd => Sys2Proof.Machine.execTrimHighTimeEnd s
  | .holdWireChange level => Sys2Proof.Machine.execHoldWireChange level s
  | .holdDebounceExpiry => Sys2Proof.Machine.execHoldDebounceExpiry s
  | .positionTimerExpiry => Sys2Proof.Machine.execPositionTimerExpiry s
  | .idle => Sys2Proof.Machine.execIdle s
  | .frameStart => Sys2Proof.Machine.execFrameStart s
  | .arbitrationLost => Sys2Proof.Machine.execArbitrationLost s
  | .bitError => Sys2Proof.Machine.execBitError s
  | .frameSent => Sys2Proof.Machine.execFrameSent s
  | .frameReceived early bits => Sys2Proof.Machine.execFrameReceived early bits s
  | .badFrame bytes => Sys2Proof.Machine.execBadFrame bytes s
  | .status fill => Sys2Proof.Machine.execStatus fill s
  | .attentionRead fill => Sys2Proof.Machine.execAttentionRead fill s
  | .attentionEnable mask fill => Sys2Proof.Machine.execAttentionEnable mask fill s
  | .talliesRead fill => Sys2Proof.Machine.execTalliesRead fill s
  | .restartRun fill => Sys2Proof.Machine.execRestartRun fill s
  | .profileSet field index value fill => Sys2Proof.Machine.execProfileSet field index value fill s
  | .profileClose fill => Sys2Proof.Machine.execProfileClose fill s
  | .lotLoad record fill => Sys2Proof.Machine.execLotLoad record fill s
  | .lotDrop tag fill => Sys2Proof.Machine.execLotDrop tag fill s
  | .lotRead tag fill => Sys2Proof.Machine.execLotRead tag fill s
  | .lotStart tag fill => Sys2Proof.Machine.execLotStart tag fill s
  | .hold fill => Sys2Proof.Machine.execHold fill s
  | .release fill => Sys2Proof.Machine.execRelease fill s
  | .stopAck fill => Sys2Proof.Machine.execStopAck fill s
  | .planAppend lotTag target count packageByte fill => Sys2Proof.Machine.execPlanAppend lotTag target count packageByte fill s
  | .planClear fill => Sys2Proof.Machine.execPlanClear fill s
  | .planRead fill => Sys2Proof.Machine.execPlanRead fill s
  | .coilTake fill => Sys2Proof.Machine.execCoilTake fill s
  | .coilPeek fill => Sys2Proof.Machine.execCoilPeek fill s
  | .cutOrder fill => Sys2Proof.Machine.execCutOrder fill s
  | .cutRetry fill => Sys2Proof.Machine.execCutRetry fill s
  | .cutConfirm fill => Sys2Proof.Machine.execCutConfirm fill s
  | .markPlace kind offset detail fill => Sys2Proof.Machine.execMarkPlace kind offset detail fill s
  | .markRead index fill => Sys2Proof.Machine.execMarkRead index fill s
  | .lossRead fill => Sys2Proof.Machine.execLossRead fill s
  | .feedRead index fill => Sys2Proof.Machine.execFeedRead index fill s
  | .sectionRead fill => Sys2Proof.Machine.execSectionRead fill s
  | .rowRead index fill => Sys2Proof.Machine.execRowRead index fill s

end Sys2Proof.Machine
end

