-- ==== Sys2Proof/Machine/Idle.lean ====
section
/-! DEFINITION. What the part does while no command waits (entry 3). -/

namespace Sys2Proof.Machine

/-- DESIGN CHOICE (entry 3): with no command waiting, the expiry that has fallen due is taken, and where none has,
one unit of the time base passes. -/
def idle (s : State) : Host.Outcome State Fault Refusal :=
  match dueEvent s with
  | some event => exec event s
  | none => .next (s.withNow (s.now + 1))

end Sys2Proof.Machine
end

