-- ==== Sys2Proof/Machine/Step.lean ====
section
/-! DEFINITION. One step: the command at the front of the queue is taken whole (00, "Events and their order"). -/

namespace Sys2Proof.Machine

/-- A step takes the command that has waited longest; with none waiting the part idles (entry 3). -/
def step (s : State) : Host.Outcome State Fault Refusal :=
  match s.pending with
  | command :: rest => exec command (s.withPending rest)
  | [] => idle s

/-- The part with the command that a word spells at the front of its queue; unchanged where the word spells none
(entry 29). -/
def State.withFetchWord (s : State) (nbits w : Nat) : State :=
  match decodeTableWord nbits w with
  | some command => s.withPending (command :: s.pending)
  | none => s

end Sys2Proof.Machine
end

