-- ==== Sys2Proof/Safety.lean ====
section
/-! DEFINITION. What a claim may say of a run: which blocks a command leaves as they were, and the laws that hold of
the part from a station reset on. -/

namespace Sys2Proof.Machine

/-! ## Frames -/

/-- The fields of `State`, by name. -/
inductive Block where
  | station | profile | pins | now | length | sense | marks | feeds | lay | trim | knot | lots | builder | hold
  | port | link | orders | pending
deriving DecidableEq, Repr

/-- Whether a field holds in `t` what it holds in `s`. -/
def sameBlock (s t : State) : Block → Prop
  | .station => t.station = s.station
  | .profile => t.profile = s.profile
  | .pins => t.pins = s.pins
  | .now => t.now = s.now
  | .length => t.length = s.length
  | .sense => t.sense = s.sense
  | .marks => t.marks = s.marks
  | .feeds => t.feeds = s.feeds
  | .lay => t.lay = s.lay
  | .trim => t.trim = s.trim
  | .knot => t.knot = s.knot
  | .lots => t.lots = s.lots
  | .builder => t.builder = s.builder
  | .hold => t.hold = s.hold
  | .port => t.port = s.port
  | .link => t.link = s.link
  | .orders => t.orders = s.orders
  | .pending => t.pending = s.pending

/-- The part is the same in every field outside the list. -/
def SameOutside (changed : List Block) (s t : State) : Prop := ∀ b, b ∉ changed → sameBlock s t b

/-- The result code of the reply that stands in the buffer. -/
def replyCode (s : State) : Option ResultCode := s.link.reply.map Reply.code

/-- The link's part in a frame of `len` bytes that is answered `r`: the reply stands in the buffer, what was shifted
out is what was held and then fill, a reply not collected is counted, and the enabled set and the bad frame tally
are as they were (R180). -/
def Replies (len : Nat) (r : Reply) (s t : State) : Prop :=
  t.link.reply = some r ∧ t.link.ldo = shiftedOut len s ∧
    t.link.lostReplies = (if losesReply len s then tally s.link.lostReplies else s.link.lostReplies) ∧
    t.link.enabled = s.link.enabled ∧ t.link.badFrames = s.link.badFrames

/-- As `Replies`, where the command latches no condition. -/
def Answers (len : Nat) (r : Reply) (s t : State) : Prop := Replies len r s t ∧ t.link.latched = s.link.latched

/-- Whether a command comes from the host on the local link (R190). -/
def isHostCommand : Instr → Bool
  | .status _ | .attentionRead _ | .attentionEnable _ _ | .talliesRead _ | .restartRun _ | .profileSet _ _ _ _
  | .profileClose _ | .reset _ | .lotLoad _ _ | .lotDrop _ _ | .lotRead _ _ | .lotStart _ _ | .hold _ | .release _
  | .stopAck _ | .planAppend _ _ _ _ _ | .planClear _ | .planRead _ | .coilTake _ | .coilPeek _ | .cutOrder _
  | .cutRetry _ | .cutConfirm _ | .markPlace _ _ _ _ | .markRead _ _ | .lossRead _ | .feedRead _ _
  | .sectionRead _ | .rowRead _ _ => true
  | .powerOnReset | .wheelChange _ _ | .senseRawChange _ _ | .senseFilterExpiry _ | .spinRawChange _
  | .spinFilterExpiry | .speedSample | .feedTimeout _ | .cutTimerExpiry | .trimPeriodStart | .trimHighTimeEnd
  | .holdWireChange _ | .holdDebounceExpiry | .positionTimerExpiry | .idle | .frameStart | .arbitrationLost
  | .bitError | .frameSent | .frameReceived _ _ | .badFrame _ => false

/-- Whether a command is a station reset (R176, R177). -/
def isStationReset : Instr → Prop
  | .powerOnReset | .reset _ => True
  | _ => False

/-- The checks of PROFILE CLOSE in the words of the table (R172). -/
def closeCheckHolds (p : Profile) : Nat → Prop
  | 1 => p.stationNumber ≠ none
  | 2 => ∀ c ∈ p.feeds.take p.feedCount, c.sender ≠ none
  | 3 => ∀ c ∈ p.feeds.take p.feedCount, c.sender ≠ p.stationNumber
  | 4 => ((p.feeds.take p.feedCount).map FeedConfig.sender).Pairwise (· ≠ ·)
  | 5 => ∀ c ∈ p.feeds.take p.feedCount, p.positionInterval < c.timeout
  | 6 => ∀ a ∈ p.inputs,
    (a.service = .gauge → a.detection = .high ∨ a.detection = .low) ∧
      (a.service ≠ .gauge → a.service ≠ .unused → a.detection = .rising ∨ a.detection = .falling)
  | 7 => p.base.tolerance ≤ p.base.stopTolerance
  | 8 => p.base.spliceLimitA ≤ p.base.spliceLimitB
  | 9 => p.base.densityLimitA ≤ p.base.densityLimitB
  | 10 => p.laySupervision = true → p.source = .wheel
  | 11 => p.knotSupervision = true → p.source = .rows
  | 12 => p.knotSupervision = true → (p.inputs.filter fun a => a.service = .row).length = 1
  | 13 => p.knotSupervision = true → ∃ a ∈ p.inputs, a.service = .knotSection
  | 14 => p.source = .rows → p.knotSupervision = true
  | 15 => p.coilBuilding = true → ∃ a ∈ p.inputs, a.service = .cutDone
  | _ => True

/-! ## Events at the pins -/

/-- A new pair of levels of WHA and WHB that is a forward wheel count, the direction option taken into account
(R3, R4). -/
def turnsForward (s : State) (new : Bool × Bool) : Prop :=
  ∃ old, s.length.reference = some old ∧ (if s.profile.direction then old = forwardOf new else new = forwardOf old)

/-- A new pair of levels of WHA and WHB that is a reverse wheel count (R3, R4). -/
def turnsBack (s : State) (new : Bool × Bool) : Prop :=
  ∃ old, s.length.reference = some old ∧ (if s.profile.direction then new = forwardOf old else old = forwardOf new)

/-- An edge of an input in its service's direction, whose filter time is over (R20, R21). -/
def edgeIsDue (s : State) (i : Nat) : Prop :=
  ∃ p, (senseInput s i).pending = some p ∧ p.since + (assignment s.profile i).filter * 10 ≤ s.now ∧
    (((assignment s.profile i).detection = .rising ∧ p.level = true) ∨
      ((assignment s.profile i).detection = .falling ∧ p.level = false))

/-- A change of a GAUGE input to its active or its inactive level, whose filter time is over (R20, R21). -/
def gaugeTurnIsDue (s : State) (i : Nat) (active : Bool) : Prop :=
  ∃ p, (senseInput s i).pending = some p ∧ p.since + (assignment s.profile i).filter * 10 ≤ s.now ∧
    (((assignment s.profile i).detection = .high ∧ p.level = active) ∨
      ((assignment s.profile i).detection = .low ∧ p.level = !active))

/-- An input whose pending change has become its filtered level (R20). -/
def settled (s : State) (i : Nat) : SenseInput :=
  { senseInput s i with filtered := (senseInput s i).pending.map PendingLevel.level, pending := none }

/-- The sense unit with another working state of one input. -/
def withInput (s : State) (i : Nat) (input : SenseInput) : SenseUnit :=
  { s.sense with inputs := s.sense.inputs.set i input }

/-! ## Notices heard on the line bus -/

/-- A frame that was on the bus before the first idle gap counted from the entry to LISTEN: it is the first since the
entry, and started before a gap had completed (R164, R174; entry 39). -/
def wasUnderWay (s : State) (early : Bool) : Prop := early = true ∧ s.port.noFrameYet = true

/-- A frame that the port takes, judged good and fit, from another station (R161 to R164). -/
def hearsFrame (s : State) (early : Bool) (bits : List Bool) (f : RxFrame) : Prop :=
  (s.port.state = .active ∨ s.port.state = .muted) ∧ s.port.sending = none ∧
    judgeFrame early bits = .good f ∧ isFit f = true ∧ f.station ≠ s.stationNumber

/-- The port after a frame, given by the bits after its start bit, whose judgement is still to come (R154). -/
def portAfterFrame (s : State) (bits : List Bool) : BusPort :=
  { s.port with busIdle := idleAfterFrame s.port.busIdle (wholeFrame bits), noFrameYet := false }

/-- The port after a good frame, given by the bits after its start bit (R154, R161). -/
def portAfterGood (s : State) (bits : List Bool) : BusPort :=
  { portAfterFrame s bits with
    score := if s.port.state = .active then s.port.score - 1 else s.port.score }

/-- A feed's entry once a notice of its sender has been heard (R53, R56). -/
def heardEntry (s : State) (e : FeedEntry) : FeedEntry :=
  { e with
    state := .heard, lastLocal := s.length.runCount, silenceSince := some s.now
    expectedSerial := if e.state = .lost then none else e.expectedSerial }

/-- A feed's entry once a MARK notice of its sender has been heard and its serial checked (R53, R60). -/
def checkedEntry (s : State) (e : FeedEntry) (f : RxFrame) : FeedEntry :=
  { heardEntry s e with
    expectedSerial := some (if f.serial = 255 then 0 else f.serial + 1), prevStamp := some f.stamp }

/-- The longest span that a mark of a kind may have: that of a fault, that of a LOSS, and none (R30, R59). -/
def spanCap : MarkKind → Nat
  | .layFault | .knotFault | .gaugeFault => 131071
  | .loss => 16777215
  | .splice | .operator | .lotChange | .cutRequest => 0

/-- The mark of a MARK notice of feed `i` as it comes to the mark list, its place `offset` being that of `delta` by the
feed's ratio: LATE at the run count where delta is negative, CLAMPED to the ceiling, and its span scaled and cut to the cap
of its kind (R33, R57 to R59). -/
def translatedAs (s : State) (i : Nat) (e : FeedEntry) (k : MarkKind) (m : MarkPayload) (delta offset : Int) : Mark :=
  { position := if delta < 0 then s.length.runCount else min (s.length.runCount + offset.toNat) maxCount
    kind := k, span := min ((m.span * e.ratio + 32768) / 65536) (spanCap k), lotTag := m.lotTag
    origin := { station := m.originStation, serial := m.originSerial }, detail := m.detail, hops := m.hops
    source := .feed i
    flags :=
      { late := decide (delta < 0)
        clamped := decide (0 ≤ delta ∧ maxCount < s.length.runCount + offset.toNat)
        spanClamped := decide (0 < spanCap k ∧ spanCap k < (m.span * e.ratio + 32768) / 65536) } }

/-- Room for a mark that lies ahead: a place of the 96 for a boundary kind, and one of the 88 for an ordinary one as well
(R40, R41). -/
def hasRoom (s : State) (k : MarkKind) : Prop :=
  s.marks.marks.length < 96 ∧ (k ≠ .lotChange → k ≠ .cutRequest → ordinaryWaiting s.marks.marks < 88)

/-! ## Marks raised and forwarded at once -/

/-- A local-origin mark raised now would be fired at once and go straight to the line bus: forwarding is on and the
builder OFF, the own-origin FIFO has room, and no waiting mark has its identity (R36, R38, R44, R46). -/
def forwardsFreely (s : State) : Prop :=
  s.profile.forwarding = true ∧ s.builder.state = .off ∧ s.port.own.length < 4 ∧
    ∀ w ∈ s.marks.marks, w.origin ≠ { station := s.stationNumber, serial := s.marks.nextSerial }

/-- The notice of a local-origin mark of an ordinary kind raised now (R31, R46, R158). -/
def ownNotice (s : State) (kind : MarkKind) (position span : Nat) (detail : BitVec 16) : Queued :=
  { payload := .mark
      { position := position, span := span, kindCode := kind.code, hops := 1, lotTag := s.lots.activeTag
        originStation := s.stationNumber, originSerial := s.marks.nextSerial, detail := detail }
    serial := s.port.serialCounter, shift := 0, attempts := 0 }

/-- The notice of the LOSS mark raised now for a closed interval, its span within the cap, and cut below where it lies
further back than the lookback bound (R31, R34, R67). -/
def lossNotice (s : State) (low high : Nat) : Queued :=
  ownNotice s .loss (max low (s.length.runCount - 262144))
    (min (high - low) 16777215 - (max low (s.length.runCount - 262144) - low)) 0

/-- The part with a notice of a mark of its own at the tail of the own-origin FIFO: the origin serial and the notice
serial have been taken (R32, R46, R158). -/
def forwardedOwn (q : Queued) (s t : State) : Prop :=
  t.marks = { s.marks with nextSerial := if s.marks.nextSerial = 65535 then 0 else s.marks.nextSerial + 1 } ∧
    t.port = { s.port with
      own := s.port.own ++ [q]
      serialCounter := if s.port.serialCounter = 255 then 0 else s.port.serialCounter + 1 }

/-! ## Holds and coils -/

/-- The own hold reason set has become `own`; a change of the set has offered its one class 0 notice, in place of any
still waiting there (R142, R146, R159). -/
def reasonsBecome (own : HoldSet) (s t : State) : Prop :=
  t.hold = { s.hold with own := own } ∧ (own = s.hold.own → t.port = s.port) ∧
    (own ≠ s.hold.own → t.port = { s.port with
      class0 := some { payload := if own = 0 then .release else .hold own, serial := 0, shift := 0, attempts := 0 }
      sending := supersede .class0 s.port.sending })

/-- The grade that R136 gives a record: its density from the fault span total and the run length, and its tests in
order, by the limits of a reading. -/
def gradeByTable (c : Coil) (runLength : Nat) (r : Reading) : Grade :=
  let density := if runLength = 0 then 0 else min 1000 (c.faultTotal * 1000 / runLength)
  if c.flags.incomplete then .hold
  else if c.flags.short then .c
  else if c.splices ≤ r.spliceA ∧ density ≤ r.densityA ∧ c.gauges = 0 then .a
  else if c.splices ≤ r.spliceB ∧ density ≤ r.densityB then .b
  else .c

/-- How far a cut looks ahead of a run count: the count and the lead (R126). -/
def reachAt (s : State) (count : Nat) : Nat :=
  count + min 65535 ((max s.length.speed 0).toNat * s.profile.stopTime / 1000)

/-- A boundary mark that qualifies as the next cut point of a coil that starts at `start`: it clears the spacing, and a
LOT_CHANGE is not of the active lot (R125). -/
def qualifiesAt (s : State) (start : Nat) (m : Mark) : Prop :=
  (m.kind = .cutRequest ∨ (m.kind = .lotChange ∧ m.lotTag ≠ s.lots.activeTag)) ∧
    start + s.profile.minimumCutSpacing ≤ m.position ∧ start < m.position

/-- The first waiting mark, in list order, that qualifies (R125). -/
def isCutPoint (s : State) (start : Nat) (m : Mark) : Prop :=
  ∃ before after, s.marks.marks = before ++ m :: after ∧ qualifiesAt s start m ∧
    ∀ w ∈ before, ¬qualifiesAt s start w

/-- A coil's planned cut position is reached at a run count (R126). -/
def targetIsReached (s : State) (coil : Coil) (count : Nat) : Prop :=
  ∃ p, coil.planned = some p ∧ p ≤ reachAt s count

/-- The cut test of a coil is met at a run count: its planned cut position or its cut point is reached (R126). -/
def cutIsReached (s : State) (coil : Coil) (count : Nat) : Prop :=
  targetIsReached s coil count ∨ ∃ m, isCutPoint s coil.start m ∧ m.position ≤ reachAt s count

/-- The cut reason that a boundary mark gives (R126). -/
def causeOf (m : Mark) : CutReason := if m.kind = .lotChange then .lotChange else .cutRequest

/-- The claim that a boundary mark gives a sequence (R126). -/
def claimFor (m : Mark) : Claim := { origin := m.origin, kind := m.kind, lotTag := m.lotTag }

/-- The boundary position that a boundary mark gives a sequence (R126). -/
def boundaryFor (m : Mark) : Option Nat := if m.kind = .lotChange then some m.position else none

/-- The sequence that the cut test of a coil starts at a run count: its causes are the points reached, and its claim the
cut point, where that is reached (R126). -/
def sequenceReached (s : State) (coil : Coil) (count : Nat) (q : CutSequence) : Prop :=
  q.claimFired = false ∧
  (∀ c, hasCause c q.causes = true ↔ (c = .target ∧ targetIsReached s coil count) ∨
    ∃ m, isCutPoint s coil.start m ∧ m.position ≤ reachAt s count ∧ c = causeOf m) ∧
  (∀ m, isCutPoint s coil.start m → m.position ≤ reachAt s count →
    q.claim = some (claimFor m) ∧ q.boundary = boundaryFor m) ∧
  ((∀ m, isCutPoint s coil.start m → reachAt s count < m.position) → q.claim = none ∧ q.boundary = none)

/-- The builder has started a sequence, and gone on by its log: CUTTING with CUT given, or CUT_DUE with LOG_FULL given
(R127). -/
def goesOn (logged : Nat) (q : CutSequence) (t : State) : Prop :=
  t.builder.sequence = some q ∧
  (logged < 8 → t.builder.state = .cutting ∧ t.builder.cutTimer = some t.now ∧
    hasReason .cut t.hold.own = true ∧ hasReason .logFull t.hold.own = false) ∧
  (8 ≤ logged → t.builder.state = .cutDue ∧ hasReason .logFull t.hold.own = true)

/-- The planned cut position of a coil with a target, 0 giving none (R123). -/
def plannedAt (start target stretch : Nat) : Option Nat :=
  if target = 0 then none else some (min (start + (target * (10000 + stretch) + 9999) / 10000) maxCount)

/-- A coil that opens has looked at the head of the plan: it takes an entry of any lot or of the active one, and opens as
an open coil where the plan is empty or its head of another lot, with PLAN_EXHAUSTED or PLAN_MISMATCH latched; it waits
without the latter for an outstanding LOT_CHANGE of the head's lot (R123, step 4). -/
def looksAtPlan (s t : State) (next : CurrentCoil) : Prop :=
  match t.builder.plan with
  | [] => next.entryRef = false ∧ next.record.target = 0 ∧ next.record.planned = none ∧ next.record.package = 0 ∧
    hasCondition .planExhausted t.link.latched = true
  | e :: _ =>
    if e.lotTag = 0 ∨ e.lotTag = s.lots.activeTag then
      next.entryRef = true ∧ next.record.target = e.target ∧ next.record.package = e.package ∧
        next.record.planned = plannedAt next.record.start e.target s.effective.stretch
    else
      next.entryRef = false ∧ next.record.target = 0 ∧ next.record.planned = none ∧ next.record.package = 0 ∧
        ((∀ c, t.builder.outstanding = some c → c.kind = .lotChange → c.lotTag ≠ e.lotTag) →
          hasCondition .planMismatch t.link.latched = true)

/-- The builder after the opening test of the coil that follows a close: it has started a sequence where the cut test is
met, and otherwise is BUILDING without one, the cut just settled having stopped the cut timer and taken CUT out of the
hold reason set (R123, R126 to R128). -/
def opensInto (s t : State) (next : CurrentCoil) : Prop :=
  (cutIsReached s next.record s.length.runCount →
    ∃ q, sequenceReached s next.record s.length.runCount q ∧ goesOn (s.builder.log.length + 1) q t) ∧
  (¬cutIsReached s next.record s.length.runCount →
    t.builder.state = .building ∧ t.builder.sequence = none ∧
    (s.builder.state ≠ .building → t.builder.cutTimer = none ∧ t.cutAsserted = false ∧
      hasReason .cut t.hold.own = false) ∧
    (s.builder.state = .building → t.builder.cutTimer = s.builder.cutTimer ∧ t.hold = s.hold))

/-- Whether an event entry is of a fault kind (R30). -/
def isFaultEntry (e : Event) : Bool :=
  decide (e.kind = .layFault) || decide (e.kind = .knotFault) || decide (e.kind = .gaugeFault)

/-- Whether the reach of an event entry lies beyond the end of its coil (R133). -/
def reachesBeyond (start endAt : Nat) (e : Event) : Bool := decide (endAt < start + e.offset + e.span)

/-- An event entry as the close of its coil settles it (R133). -/
def entryAtClose (start endAt : Nat) (e : Event) : Event :=
  if reachesBeyond start endAt e then
    { e with span := endAt - max start (start + e.offset), flags := { e.flags with truncated := true } }
  else e

/-- The entries that the close of a coil carries into the next one: a copy of each truncated fault (R133). -/
def entriesCarried (cur : CurrentCoil) (endAt : Nat) : List Event :=
  (cur.record.events.filter fun e => isFaultEntry e && reachesBeyond cur.record.start endAt e).map fun e =>
    { e with
      offset := 0, span := cur.record.start + e.offset + e.span - endAt
      flags := { noEventFlags with late := e.flags.late, clamped := e.flags.clamped, carried := true } }

/-- A record is that of the current coil closed at the run count with a cause set: its entries are settled and its fault
span total reduced with them, and the lengths, the boundary offset, the flags and the grade are those of the close
(R133, R135, R136). -/
def closedAs (s : State) (cur : CurrentCoil) (causes : CauseSet) (lateCut confirmed : Bool) (c : Coil) : Prop :=
  ∃ k, c.closing = some k ∧
    c.serial = cur.record.serial ∧ c.lotTag = cur.record.lotTag ∧ c.package = cur.record.package ∧
    c.start = cur.record.start ∧ c.target = cur.record.target ∧ c.planned = cur.record.planned ∧
    c.splices = cur.record.splices ∧ c.gauges = cur.record.gauges ∧ c.unlisted = cur.record.unlisted ∧
    c.events = cur.record.events.map (entryAtClose cur.record.start s.length.runCount) ∧
    c.faultTotal = cur.record.faultTotal - ((cur.record.events.filter isFaultEntry).map fun e =>
      e.span - (entryAtClose cur.record.start s.length.runCount e).span).sum ∧
    k.endAt = s.length.runCount ∧ k.runLength = s.length.runCount - cur.record.start ∧
    k.relaxed = k.runLength * 10000 / (10000 + cur.reading.stretch) ∧ k.causes = causes ∧
    k.boundaryOffset = (if hasCause .lotChange causes then
      (s.builder.sequence.bind CutSequence.boundary).map fun b => (s.length.runCount : Int) - b else none) ∧
    c.flags.incomplete = cur.record.flags.incomplete ∧ c.flags.lateCut = lateCut ∧ c.flags.confirmed = confirmed ∧
    (c.flags.short = true ↔ cur.record.target ≠ 0 ∧ hasCause .target causes = false ∧
      k.relaxed * 100 < cur.record.target * cur.reading.shortLimit) ∧
    k.grade = gradeByTable c k.runLength cur.reading

/-- The plan once the close of a coil has been charged to the entry it held (R135). -/
def planAfterClose (cur : CurrentCoil) (causes : CauseSet) (plan : List PlanEntry) : List PlanEntry :=
  if cur.entryRef then
    match plan with
    | [] => []
    | e :: rest => if e.count ≤ 1 ∨ (e.lotTag ≠ 0 ∧ hasCause .lotChange causes = true) then rest
      else { e with count := e.count - 1 } :: rest
  else plan

/-- The coil that follows a close is open at a position, with the next serial, the active lot and a fresh reading, and
holds before anything else the faults carried into it; it is INCOMPLETE where an interval of the loss list meets its start
(R123, R133, R137). -/
def opensAfter (s t : State) (cur next : CurrentCoil) (endAt start : Nat) : Prop :=
  next.record.start = start ∧ next.record.serial = s.builder.nextSerial ∧ next.record.lotTag = s.lots.activeTag ∧
  next.record.closing = none ∧ next.reading = readingOf s.effective ∧
  next.record.events = entriesCarried cur endAt ∧
  next.record.faultTotal = min ((entriesCarried cur endAt).map Event.span).sum maxCount ∧
  next.record.gauges = min ((entriesCarried cur endAt).countP fun e => decide (e.kind = .gaugeFault)) 65535 ∧
  next.record.splices = 0 ∧ next.record.unlisted = 0 ∧
  (next.record.flags.incomplete = true ↔
    ∃ i ∈ t.feeds.losses, i.low ≤ start ∧ ∀ h, i.high = some h → start ≤ h) ∧
  next.record.flags.short = false ∧ next.record.flags.lateCut = false ∧ next.record.flags.confirmed = false

/-- The current coil has closed at the run count with a cause set: its record stands at the tail of the log, COIL_READY is
latched, the entry it held is charged in the plan, the claim of the sequence is outstanding where it has not fired, and
the next coil is open where it ended, with the faults carried into it (R123, R126, R131, R133, R135, R136; entry 16). -/
def closesCoil (s t : State) (cur : CurrentCoil) (causes : CauseSet) (lateCut confirmed : Bool) : Prop :=
  (∃ c, t.builder.log = s.builder.log ++ [c] ∧ closedAs s cur causes lateCut confirmed c) ∧
  t.builder.plan = planAfterClose cur causes s.builder.plan ∧
  (t.builder.outstanding = match s.builder.sequence with
    | some q => if q.claimFired then none else q.claim
    | none => s.builder.outstanding) ∧
  (∃ next, t.builder.current = some next ∧ opensAfter s t cur next s.length.runCount s.length.runCount ∧
    looksAtPlan s t next ∧ opensInto s t next) ∧
  t.builder.nextSerial = (if s.builder.nextSerial = 65535 then 1 else s.builder.nextSerial + 1) ∧
  t.builder.repeatedCuts = s.builder.repeatedCuts ∧ t.builder.unrecordedCuts = s.builder.unrecordedCuts ∧
  hasCondition .coilReady t.link.latched = true

/-- A fired boundary mark is recorded in the coil, as ABSORBED or VOID where R134 gives that: an event entry while there
is room, and unlisted otherwise (R132). -/
def recordsBoundary (m : Mark) (absorbed void : Bool) (cur next : CurrentCoil) : Prop :=
  next.record.start = cur.record.start ∧
  (cur.record.events.length < 12 → next.record.unlisted = cur.record.unlisted ∧
    next.record.events = cur.record.events ++
      [{ kind := m.kind, offset := m.position - cur.record.start
         span := m.position + m.span - max m.position cur.record.start, origin := m.origin, detail := m.detail
         flags := { noEventFlags with
           late := m.flags.late, clamped := m.flags.clamped || m.flags.spanClamped
           absorbed := absorbed, void := void } }]) ∧
  (12 ≤ cur.record.events.length → next.record.events = cur.record.events ∧
    next.record.unlisted = min (cur.record.unlisted + 1) 65535)

/-- The coil's entry reference names an entry of another lot than its new one (R134). -/
def entryIsForeign (s : State) (cur : CurrentCoil) (tag : Nat) : Prop :=
  cur.entryRef = true ∧ ∃ e rest, s.builder.plan = e :: rest ∧ e.lotTag ≠ 0 ∧ e.lotTag ≠ tag

/-- A coil has been given a lot tag and re-seated: a fresh reading where the lot was activated, an entry of another lot
given up with its target, planned cut position and package kind, the planned cut position computed again, or in BUILDING
a late take for a coil without entry and target, and the cut test (R124, R126, R134). -/
def reseats (s t : State) (cur next : CurrentCoil) (tag : Nat) (answer : Option LotAnswer) : Prop :=
  next.record.lotTag = tag ∧
  next.reading = (if answer = some .activated then readingOf s.effective else cur.reading) ∧
  (¬entryIsForeign s cur tag → cur.entryRef = true ∨ cur.record.target ≠ 0 →
    next.entryRef = cur.entryRef ∧ next.record.target = cur.record.target ∧
      next.record.package = cur.record.package ∧
      next.record.planned = plannedAt cur.record.start cur.record.target next.reading.stretch) ∧
  (entryIsForeign s cur tag ∨ (cur.entryRef = false ∧ cur.record.target = 0) →
    (∀ e rest, s.builder.state = .building → s.builder.plan = e :: rest →
      e.lotTag = 0 ∨ e.lotTag = s.lots.activeTag →
      next.entryRef = true ∧ next.record.target = e.target ∧ next.record.package = e.package ∧
        next.record.planned = plannedAt cur.record.start e.target next.reading.stretch) ∧
    (s.builder.state ≠ .building ∨ s.builder.plan = [] ∨
        (∃ e rest, s.builder.plan = e :: rest ∧ e.lotTag ≠ 0 ∧ e.lotTag ≠ s.lots.activeTag) →
      next.entryRef = false ∧ next.record.target = 0 ∧ next.record.planned = none) ∧
    (∀ e rest, s.builder.state = .building → s.builder.plan = e :: rest → e.lotTag ≠ 0 →
      e.lotTag ≠ s.lots.activeTag → hasCondition .planMismatch t.link.latched = true)) ∧
  (s.builder.state = .building → cutIsReached s next.record s.length.runCount →
    ∃ q, sequenceReached s next.record s.length.runCount q ∧ goesOn s.builder.log.length q t) ∧
  (s.builder.state = .building → ¬cutIsReached s next.record s.length.runCount →
    t.builder.state = .building ∧ t.builder.sequence = s.builder.sequence) ∧
  (s.builder.state ≠ .building →
    t.builder.state = s.builder.state ∧ t.builder.sequence = s.builder.sequence)

/-- The consecutive misses of a section after a row that was not idle (R97). -/
def missesAfter (c : Section) : Nat := if c.count < c.expected then min (c.misses + 1) 255 else 0

/-! ## Advances -/

/-- The lot unit after a fired mark: a LOT_CHANGE of another tag than the active one makes its tag active, with its record
completed where that is held, and unknown where it is not; any other mark leaves it (R113 to R115). -/
def lotsAfter (base : Params Nat) (l : LotUnit) (m : Mark) : LotUnit :=
  if m.kind ≠ .lotChange ∨ m.lotTag = l.activeTag then l
  else match l.table.find? fun r => decide (r.tag = m.lotTag) with
    | some r => { l with activeTag := m.lotTag, effective := some (completeRecord r base), unknown := false }
    | none => { l with activeTag := m.lotTag, unknown := true }

/-- The notices of the marks that are forwarded, with their marks: those of hops below 7, in the order of their firing, each
with its hops one greater and the next notice serial (R46, R158). -/
def noticesOf (s : State) (reached : List Mark) : List (Mark × Queued) :=
  (reached.filter fun m => decide (m.hops < 7)).zipIdx.map fun p => (p.1,
    { payload := .mark
        { position := p.1.position, span := p.1.span, kindCode := p.1.kind.code, hops := p.1.hops + 1
          lotTag := p.1.lotTag, originStation := p.1.origin.station, originSerial := p.1.origin.serial
          detail := p.1.detail }
      serial := (s.port.serialCounter + p.2) % 256, shift := 0, attempts := 0 })

/-- An advance to a run count has fired the marks it reached, one after another in list order, and taken them off the
list: each LOT_CHANGE finds the lot that the one before it left active; ordinary marks are recorded in the current coil;
with the builder OFF, boundary marks are forwarded in class 1 and received ordinary ones in the forwarded FIFO; a received
LOSS mark adds an interval that stays over this advance, and the closed intervals passed are removed (R12, R43 to R46, R62,
R63, R65, R113, R132, R158; entry 37). -/
def firesReached (s t : State) (count : Nat) (reached : List Mark) : Prop :=
  t.length.runCount = count ∧
  t.marks.marks = s.marks.marks.filter (fun w => decide (count < w.position)) ∧
  t.lots = reached.foldl (lotsAfter s.profile.base) s.lots ∧
  (∀ cur, s.builder.state ≠ .off → s.builder.current = some cur →
    (∀ m ∈ reached, m.kind ≠ .lotChange ∧ m.kind ≠ .cutRequest) → cur.record.events.length + reached.length ≤ 12 →
    (∀ w, s.lay.window = some w → count * 65536 + 65535 < w.start + 1310720000) → s.knot.faultRun = none →
    ∃ next more, t.builder.current = some next ∧
      next.record.events = cur.record.events ++ reached.map (fun m =>
        { kind := m.kind, offset := m.position - cur.record.start
          span := m.position + m.span - max m.position cur.record.start, origin := m.origin, detail := m.detail
          flags := { noEventFlags with
            late := m.flags.late, clamped := m.flags.clamped || m.flags.spanClamped } }) ++ more) ∧
  (s.builder.state = .off → s.profile.forwarding = true → s.port.class1.length + reached.length ≤ 4 →
    s.port.forwarded.length + reached.length ≤ 4 → s.port.serialCounter ≤ 255 →
    (∀ w, s.lay.window = some w → count * 65536 + 65535 < w.start + 1310720000) → s.lay.faultRun = none →
    s.knot.faultRun = none →
    t.port.class1 = s.port.class1 ++
      ((noticesOf s reached).filter fun p => p.1.kind.isBoundary).map Prod.snd ∧
    t.port.forwarded = s.port.forwarded ++
      ((noticesOf s reached).filter fun p => !p.1.kind.isBoundary && decide (p.1.source ≠ .here)).map Prod.snd) ∧
  (s.feeds.losses.length + reached.length ≤ 8 → ∀ m ∈ reached, m.kind = .loss → m.source ≠ .here →
    ∃ j ∈ t.feeds.losses, ∃ h, j.high = some h ∧ j.low ≤ m.position ∧ min (m.position + m.span) maxCount ≤ h) ∧
  ((∀ m ∈ reached, m.kind = .loss → m.source = .here) →
    t.feeds = { s.feeds with losses := s.feeds.losses.filter fun i => i.high.all fun h => decide (count ≤ h) })

/-! ## Laws of the part -/

/-- In OPEN every block that acts only in RUNNING stands at its station reset values, and the station holds nothing
(R169, R175). -/
def OpenLaw (s : State) : Prop :=
  s.station = .openState →
    s.length = State.reset.length ∧ s.sense = State.reset.sense ∧ s.marks = State.reset.marks ∧
    s.feeds = State.reset.feeds ∧ s.lay = State.reset.lay ∧ s.trim = State.reset.trim ∧
    s.knot = State.reset.knot ∧ s.lots = State.reset.lots ∧ s.builder = State.reset.builder ∧
    s.port = State.reset.port ∧ s.hold.own = 0 ∧ s.hold.holders = [] ∧ s.hold.uncounted = false

/-- The run count lies between the floor and the ceiling, the fraction in its 16 bits, and a saturated length unit
stands at the ceiling; an OFF builder has no coil (R1, R7, R10, R139). -/
def CountLaw (s : State) : Prop :=
  s.length.runCount ≤ maxCount ∧ s.length.fraction < 65536 ∧ s.floor ≤ s.length.runCount ∧
    (s.length.saturated = true → s.length.runCount = maxCount ∧ s.length.fraction = 65535) ∧
    (s.builder.state = .off → s.builder.current = none)

/-- The mark list: in order of position, all ahead of the run count and none beyond the ceiling, within its places, no
origin identity twice, and no lot tag in two LOT_CHANGEs; nor does a knot fault run start beyond the ceiling (R31, R35 to
R43, R58). -/
def MarkLaw (s : State) : Prop :=
  s.marks.marks.Pairwise (fun a b => a.position ≤ b.position) ∧
    (∀ m ∈ s.marks.marks, s.length.runCount < m.position) ∧
    s.marks.marks.length ≤ markPlaces ∧ ordinaryWaiting s.marks.marks ≤ ordinaryPlaces ∧
    s.marks.marks.Pairwise (fun a b => a.origin ≠ b.origin) ∧
    s.marks.marks.Pairwise (fun a b => a.kind = .lotChange → b.kind = .lotChange → a.lotTag ≠ b.lotTag) ∧
    (∀ m ∈ s.marks.marks, m.position ≤ maxCount) ∧ ∀ r ∈ s.knot.faultRun, r.start ≤ maxCount

/-- The two hold reasons of the coil builder stand exactly with its states (R119). -/
def CutReasonLaw (s : State) : Prop :=
  (hasReason .cut s.hold.own = true ↔ (s.builder.state = .cutting ∨ s.builder.state = .cutFailed)) ∧
    (hasReason .logFull s.hold.own = true ↔ s.builder.state = .cutDue) ∧
    (s.station = .openState → s.builder.state = .off)

/-- The coil log holds at most 8 records, and a free place while the builder cuts (R127, R135). -/
def LogLaw (s : State) : Prop :=
  s.builder.log.length ≤ logPlaces ∧
    ((s.builder.state = .cutting ∨ s.builder.state = .cutFailed) → s.builder.log.length < logPlaces)

/-- A closed record's lengths agree, and its event list is within its places (R120). -/
def recordAgrees (c : Coil) : Prop :=
  c.events.length ≤ eventPlaces ∧
    ∀ k, c.closing = some k → c.start + k.runLength = k.endAt ∧ k.relaxed ≤ k.runLength

/-- Every coil record satisfies R120's closing sentence. -/
def CoilLaw (s : State) : Prop :=
  CountLaw s ∧ (∀ c ∈ s.builder.log, recordAgrees c) ∧
    ∀ cur, s.builder.current = some cur → cur.record.closing = none ∧ recordAgrees cur.record

/-- There are 32 inputs and 4 feed slots; the collections of the lot unit, the plan, the hold unit and the row history
keep within their places, the lot table in order of tag, the holder list with no station twice (R18, R95, R107, R119,
R147, R170). -/
def PlacesLaw (s : State) : Prop :=
  s.pins.sns.length = 32 ∧ s.sense.inputs.length = 32 ∧ s.profile.inputs.length = 32 ∧ s.profile.feeds.length = 4 ∧
  s.lots.table.length ≤ lotPlaces ∧ s.lots.table.Pairwise (fun a b => a.tag < b.tag) ∧
    s.builder.plan.length ≤ planPlaces ∧
    s.hold.holders.length ≤ holderPlaces ∧ s.hold.holders.Pairwise (fun a b => a.station ≠ b.station) ∧
    s.knot.history.length ≤ historyPlaces

/-- The port: its queues within their places, no notice with three attempts, the score below 192 unless MUTED, and
SILENT in OPEN (R156, R158, R159, R164). -/
def PortLaw (s : State) : Prop :=
  s.port.class1.length ≤ fifoPlaces ∧ s.port.own.length ≤ fifoPlaces ∧ s.port.forwarded.length ≤ fifoPlaces ∧
    (∀ slot, ∀ q ∈ fifoOf s.port slot, q.attempts < 3) ∧
    s.port.serialCounter ≤ 255 ∧ s.port.score ≤ 255 ∧ (s.port.state ≠ .muted → s.port.score < muteScore) ∧
    (s.station = .openState → s.port.state = .silent)

/-- The trim correction lies within -400 to +400, and the high time of a running period within 100 to 900 units
(R86, R87). -/
def TrimLaw (s : State) : Prop :=
  -400 ≤ s.lay.trimCorrection ∧ s.lay.trimCorrection ≤ 400 ∧
    (s.trim.periodStart.isSome → 100 ≤ s.trim.highTime ∧ s.trim.highTime ≤ 900)

/-- Whether a feed of the table is LOST. -/
def feedIsLost (s : State) (i : Nat) : Prop := ∃ e, s.feeds.table[i]? = some e ∧ e.state = .lost

/-- The loss list: in order of low, within its places, each OPEN interval tied to a LOST feed of its own, and no two
closed intervals that overlap or touch (R55, R62 to R64). -/
def LossLaw (s : State) : Prop :=
  OpenLaw s ∧ s.profile.feeds.length = 4 ∧ s.feeds.table.length ≤ 4 ∧
    s.feeds.losses.Pairwise (fun a b => a.low ≤ b.low) ∧ s.feeds.losses.length ≤ lossPlaces ∧
    (∀ i ∈ s.feeds.losses, i.high = none → ∃ f, i.feed = some f ∧ feedIsLost s f) ∧
    s.feeds.losses.Pairwise (fun a b => a.high = none → b.high = none → a.feed ≠ b.feed) ∧
    (∀ i ∈ s.feeds.losses, ∀ h ∈ i.high, i.low ≤ h) ∧
    s.feeds.losses.Pairwise (fun a b => ∀ x ∈ a.high, ∀ y ∈ b.high, x + 1 < b.low ∨ y + 1 < a.low)

end Sys2Proof.Machine
end

