-- ==== Sys2Proof/WellFormed.lean ====
section
/-! DEFINITION. Which terms are commands that the local link can carry: each argument fits its field of the frame
(R189, R190), and a BAD_FRAME is a frame that is not taken (R179). Events from the pins, the time base and the
bus have no further condition. -/

namespace Sys2Proof

open Sys2Proof.Machine

/-- Whether a number fits a field of `w` bytes. -/
def fitsBytes (w n : Nat) : Bool := decide (n < 256 ^ w)

/-- Whether every present parameter of a lot record fits its field (R189). -/
def recordFits (r : LotRecord) : Bool :=
  fitsBytes 1 r.tag && allParams.all fun p => (paramOf r.params p).all (fitsBytes (paramWidth p))

/-- Whether bytes judge as a frame that is not taken (R179). -/
def isNotTaken (bytes : List Byte) : Bool :=
  match judgeLink bytes with
  | .badFrame | .unknownCommand => true
  | .taken _ _ _ => false

/-- Whether a term is a command that can be given. -/
def Instr.wellFormed : Instr → Bool
  | .attentionEnable mask _ => fitsBytes 3 mask
  | .profileSet field index value _ => fitsBytes 1 field && fitsBytes 1 index && fitsBytes 4 value
  | .lotLoad record _ => recordFits record
  | .lotDrop tag _ | .lotRead tag _ | .lotStart tag _ => fitsBytes 1 tag
  | .planAppend lotTag target count packageByte _ =>
    fitsBytes 1 lotTag && fitsBytes 4 target && fitsBytes 1 count && fitsBytes 1 packageByte
  | .markPlace kind offset detail _ => fitsBytes 1 kind && fitsBytes 4 offset && fitsBytes 2 detail
  | .markRead index _ | .feedRead index _ | .rowRead index _ => fitsBytes 1 index
  | .badFrame bytes => isNotTaken bytes
  | .powerOnReset | .wheelChange _ _ | .senseRawChange _ _ | .senseFilterExpiry _ | .spinRawChange _
  | .spinFilterExpiry | .speedSample | .feedTimeout _ | .cutTimerExpiry | .trimPeriodStart | .trimHighTimeEnd
  | .holdWireChange _ | .holdDebounceExpiry | .positionTimerExpiry | .idle | .frameStart | .arbitrationLost
  | .bitError | .frameSent | .frameReceived _ _ => true
  | .reset _ | .status _ | .attentionRead _ | .talliesRead _ | .restartRun _ | .profileClose _ | .hold _
  | .release _ | .stopAck _ | .planClear _ | .planRead _ | .coilTake _ | .coilPeek _ | .cutOrder _ | .cutRetry _
  | .cutConfirm _ | .lossRead _ | .sectionRead _ => true

end Sys2Proof
end

