-- ==== Sys2Proof/Certificates/Slice0/Obligations.lean ====
section
/-! DEFINITION. The statements about the part, for the provers: what each command does, what it leaves as it was, and
the laws that every step keeps. Most of them speak of states that meet hypotheses on the state and the operands alone;
Tests/Slice0.lean shows for each a state and operands that meet them. -/

section

open Sys2Proof Sys2Proof.Machine

/-! ## The queue of commands -/

/-- A step takes the command at the front of the queue whole, with the queue's rest (00, "Events and their order"). -/
def Obligations.StepTakesTheFirstCommand : Prop :=
  ∀ (c : Instr) (rest : List Instr) (s : State), s.pending = c :: rest → step s = exec c (s.withPending rest)

/-- Every command has its effect in every state: the part neither faults nor refuses (95). That it takes no time over a
command (entry 2) and leaves the commands that wait behind it as they are, over a station reset too (entry 28), is the
model's choice. So is what a step does with no command waiting (entry 3): it takes the expiry that has fallen due, one of
the nine of the station's time base, and otherwise lets one unit of the time base pass. -/
def Obligations.EveryCommandCompletes : Prop :=
  (∀ (c : Instr) (s : State), ∃ t, exec c s = .next t ∧ t.pending = s.pending ∧ t.now = s.now) ∧
  (∀ s : State, s.pending = [] →
    (dueEvent s = none → step s = .next (s.withNow (s.now + 1))) ∧
    (∀ e, dueEvent s = some e → step s = exec e s ∧
      ((∃ i, e = .senseFilterExpiry i) ∨ e = .spinFilterExpiry ∨ e = .speedSample ∨ (∃ i, e = .feedTimeout i) ∨
        e = .cutTimerExpiry ∨ e = .trimPeriodStart ∨ e = .trimHighTimeEnd ∨ e = .holdDebounceExpiry ∨
        e = .positionTimerExpiry)))

/-! ## Station state, profile and resets -/

/-- The station state goes to RUNNING only by a PROFILE CLOSE that passes its checks, and back only by a station
reset; the profile changes only by PROFILE SET in OPEN and by a station reset (R169, R170, R173). -/
def Obligations.ProfileIsFrozenWhileRunning : Prop :=
  ∀ (c : Instr) (s t : State), exec c s = .next t → ¬isStationReset c →
    (t.profile = s.profile ∨ (s.station = .openState ∧ ∃ field index value fill, c = .profileSet field index value fill)) ∧
    (t.station = s.station ∨
      (s.station = .openState ∧ t.station = .running ∧ failedCheck s.profile = none ∧
        ∃ fill, c = .profileClose fill))

/-- A station reset by power-on or RSTN leaves the length unit, the sense unit, the mark list, the feed and loss unit,
the lay and knot monitors, the lot unit, the coil builder, the port and the link at their reset values, whatever state
it finds, with a change to HELD pending where HOLDW stands low; the RESET command leaves the same, but for DONE in the
reply buffer (R15, R28, R51, R70, R89, R106, R141, R144, R152, R168, R176, R177). That the time base runs on, the commands
that wait are kept and the pins stand as they are, the record of the bytes shifted out, the port's idle bus and idle gap
count, the counter of open orders, and the fields of a unit that is stopped, are the model's choice, and that a reply not
collected is not counted as lost is DEDUCED (entries 1, 2, 9, 21, 26, 28, 30, 33). -/
def Obligations.StationResetLeavesResetValues : Prop :=
  ∀ s : State, ∃ t, exec .powerOnReset s = .next t ∧
    t.station = .openState ∧ t.profile = resetProfile ∧
    t.length = { runCount := 0, fraction := 0, saturated := false, speed := 0, sampleBase := 0, reference := none
                 sampleDue := none, reverseClamps := 0, wheelSkips := 0 } ∧
    t.floor = 0 ∧
    t.sense = { inputs := List.replicate 32 { filtered := none, pending := none, gauge := none }
                spinFiltered := none, spinPending := none } ∧
    t.marks = { marks := [], nextSerial := 0, duplicates := 0, merges := 0, lost := 0, discarded := 0 } ∧
    t.feeds = { table := [], losses := [], far := 0, badMarks := 0 } ∧
    t.lay = { state := .off, working := none, settleCount := 0, window := none, faultRun := none
              trimCorrection := 0 } ∧
    t.trim.periodStart = none ∧ t.trim.level = false ∧
    t.knot = { state := .off, cause := .start, working := none, sections := [], rowSerial := 0, history := []
               faultRun := none, stopRecord := none } ∧
    t.lots.table = [] ∧ t.lots.activeTag = 0 ∧ t.lots.unknown = false ∧
    t.builder = { state := .off, plan := [], current := none, sequence := none, outstanding := none
                  cutTimer := none, log := [], nextSerial := 1, repeatedCuts := 0, unrecordedCuts := 0 } ∧
    t.cutAsserted = false ∧
    t.hold = { own := 0, observed := .running
               pending := if s.pins.holdw then none else some { state := .held, since := s.now }
               holders := [], uncounted := false } ∧
    t.pullsWire = false ∧
    t.port = State.reset.port ∧ t.port.state = .silent ∧ t.port.score = 0 ∧ t.port.sending = none ∧
    t.link.reply = none ∧ t.link.latched = 0 ∧ t.link.enabled = 0 ∧ allTallies t = List.replicate 15 0 ∧
    t.attn = false ∧
    t.pins = s.pins ∧ t.now = s.now ∧ t.pending = s.pending ∧ t.orders = s.orders ∧
    ∀ fill : Nat, exec (.reset fill) s = .next (t.withLink { t.link with
      reply := some { code := .done, data := [] }, ldo := shiftedOut (3 + fill) s })

/-- Every law of the part holds at the station reset. -/
def Obligations.ResetStateKeepsEveryLaw : Prop :=
  OpenLaw State.reset ∧ CountLaw State.reset ∧ MarkLaw State.reset ∧ CutReasonLaw State.reset ∧
    LogLaw State.reset ∧ CoilLaw State.reset ∧ PlacesLaw State.reset ∧ PortLaw State.reset ∧ TrimLaw State.reset ∧
    LossLaw State.reset

/-- PROFILE SET in OPEN writes the one value into the one field of the one index, a value outside its range is
refused, and so is every write in RUNNING (R171, R190): the station number, the path of a feed, the filter of an
input, and the stretch of the base set stand for the four kinds of field. -/
def Obligations.ProfileSetWritesTheFieldNamed : Prop :=
  ∀ (index value fill : Nat) (s : State), PlacesLaw s →
    (s.station = .openState →
      (1 ≤ value → value ≤ 62 → ∃ t, exec (.profileSet 1 0 value fill) s = .next t ∧
        t.profile = { s.profile with stationNumber := some value } ∧ SameOutside [.profile, .link] s t ∧
        Answers (9 + fill) (done []) s t) ∧
      (index < 4 → value ≤ 2000000 → ∃ t, exec (.profileSet 4 index value fill) s = .next t ∧
        (∀ j, feedConfig t.profile j =
          if j = index then { feedConfig s.profile j with path := value } else feedConfig s.profile j) ∧
        t.profile = { s.profile with feeds := t.profile.feeds } ∧ SameOutside [.profile, .link] s t ∧
        Answers (9 + fill) (done []) s t) ∧
      (index < 32 → value ≤ 255 → ∃ t, exec (.profileSet 12 index value fill) s = .next t ∧
        (∀ j, assignment t.profile j =
          if j = index then { assignment s.profile j with filter := value } else assignment s.profile j) ∧
        t.profile = { s.profile with inputs := t.profile.inputs } ∧ SameOutside [.profile, .link] s t ∧
        Answers (9 + fill) (done []) s t) ∧
      (value ≤ 1000 → ∃ t, exec (.profileSet 42 0 value fill) s = .next t ∧
        t.profile = { s.profile with base := { s.profile.base with stretch := value } } ∧
        SameOutside [.profile, .link] s t ∧ Answers (9 + fill) (done []) s t) ∧
      ((index ≠ 0 ∨ value = 0 ∨ 62 < value) → ∃ t, exec (.profileSet 1 index value fill) s = .next t ∧
        SameOutside [.link] s t ∧ Answers (9 + fill) (bare .outOfRange) s t)) ∧
    (s.station = .running → ∀ field, ∃ t, exec (.profileSet field index value fill) s = .next t ∧
      SameOutside [.link] s t ∧ Answers (9 + fill) (bare .wrongState) s t)

/-- PROFILE CLOSE in OPEN makes the fifteen checks in order: it is done and the station RUNNING when all hold, and
otherwise it is refused with the number of the first that does not (R172, R173). In RUNNING it is refused. -/
def Obligations.ProfileCloseMakesFifteenChecks : Prop :=
  ∀ (fill : Nat) (s : State),
    (s.station = .openState → (∀ n, 1 ≤ n → n ≤ 15 → closeCheckHolds s.profile n) →
      ∃ t, exec (.profileClose fill) s = .next t ∧ t.station = .running ∧ replyCode t = some .done) ∧
    (s.station = .openState → ∀ n, 1 ≤ n → n ≤ 15 → ¬closeCheckHolds s.profile n →
      (∀ m, 1 ≤ m → m < n → closeCheckHolds s.profile m) →
      ∃ t, exec (.profileClose fill) s = .next t ∧ SameOutside [.link] s t ∧
        Answers (3 + fill) { code := .inconsistent, data := [BitVec.ofNat 8 n] } s t) ∧
    (s.station = .running → ∃ t, exec (.profileClose fill) s = .next t ∧ SameOutside [.link] s t ∧
      Answers (3 + fill) (bare .wrongState) s t)

/-- Entry to RUNNING: each block starts work by its own rule, from the frozen profile (R16, R19, R52, R73, R91, R118,
R139, R164, R165, R173). That the port marks that no frame has come yet is the model's way to know a frame under way
(entry 39). -/
def Obligations.ProfileCloseStartsEveryBlock : Prop :=
  ∀ (fill : Nat) (s : State), OpenLaw s → PlacesLaw s → s.station = .openState → failedCheck s.profile = none →
    ∃ t, exec (.profileClose fill) s = .next t ∧ t.station = .running ∧
      t.length = { s.length with
        reference := if s.profile.source = .wheel then some (s.pins.wha, s.pins.whb) else none
        sampleBase := 0, sampleDue := some (s.now + 10000) } ∧
      (∀ i < 32, (assignment s.profile i).service ≠ .unused →
        (senseInput t i).filtered = some (pinLevel s i) ∧ (senseInput t i).pending = none ∧
          ((senseInput t i).gauge = some { start := 0, byCap := false } ↔
            (assignment s.profile i).service = .gauge ∧
              (((assignment s.profile i).detection = .high ∧ pinLevel s i = true) ∨
                ((assignment s.profile i).detection = .low ∧ pinLevel s i = false)))) ∧
      (∀ i < 32, (assignment s.profile i).service = .unused → senseInput t i = senseInput s i) ∧
      t.sense.spinFiltered = some s.pins.spin ∧ t.sense.spinPending = none ∧
      t.lots = { s.lots with activeTag := 0, effective := some s.profile.base, unknown := false } ∧
      t.feeds.table = (s.profile.feeds.take s.profile.feedCount).map (fun c =>
        { sender := c.sender.getD 0, path := c.path, ratio := c.ratio, timeout := c.timeout
          reach := (c.path * c.ratio + 32768) / 65536, state := .unheard, lastLocal := 0, prevStamp := none
          expectedSerial := none, senderLot := 0, senderSpeed := 0, senderHold := 0
          silenceSince := some s.now }) ∧
      t.feeds = { s.feeds with table := t.feeds.table } ∧
      t.trim = { periodStart := some s.now, highTime := 500, level := true } ∧
      (s.profile.laySupervision = false → t.lay = s.lay) ∧
      (s.profile.laySupervision = true → t.lay.working = some (layWorkingSet s.profile.base) ∧
        t.lay.trimCorrection = 0 ∧ t.lay.faultRun = none ∧ t.lay.settleCount = 0 ∧
        (s.hold.observed = .held → t.lay.state = .suspended ∧ t.lay.window = none) ∧
        (s.hold.observed = .running → 0 < s.profile.base.settleTurns →
          t.lay.state = .settling ∧ t.lay.window = none) ∧
        (s.hold.observed = .running → s.profile.base.settleTurns = 0 →
          t.lay.state = .measuring ∧ t.lay.window = some { start := 0, twists := 0 })) ∧
      (s.profile.knotSupervision = false → t.knot = s.knot) ∧
      (s.profile.knotSupervision = true → t.knot = { s.knot with
        state := .firstRow, cause := .start, sections := sectionTable s.profile.inputs
        working := some { stopCount := s.profile.base.knotStopCount
                          brokenRows := s.profile.base.brokenTwineRows } }) ∧
      (s.profile.coilBuilding = false → t.builder = s.builder ∧ t.link.latched = s.link.latched) ∧
      (s.profile.coilBuilding = true →
        t.builder = { s.builder with
          state := .building, nextSerial := 2
          current := some { record := newCoil 1 0 0, entryRef := false, reading := readingOf s.profile.base } } ∧
        t.link.latched = s.link.latched ||| oneCondition .planExhausted) ∧
      t.port = { s.port with state := .listen, positionSince := some s.now, noFrameYet := true } ∧
      SameOutside [.station, .length, .sense, .feeds, .lay, .trim, .knot, .lots, .builder, .port, .link] s t ∧
      Replies (3 + fill) (done []) s t

/-! ## Run count and measuring wheel -/

/-- A forward wheel count moves the full-precision position by one wheel step, or saturates the length unit at the
ceiling with COUNT_LIMIT given and latched; a count that changes only the fraction changes nothing else, the lay
window's cap apart (R3 to R5, R10, R12). -/
def Obligations.ForwardCountMovesOneStep : Prop :=
  ∀ (wha whb : Bool) (s : State), s.station = .running → s.profile.source = .wheel →
    turnsForward s (wha, whb) → s.length.saturated = false →
    ∃ t, exec (.wheelChange wha whb) s = .next t ∧ t.pins = { s.pins with wha := wha, whb := whb } ∧
      ((s.fullPosition + s.profile.wheelStep) / 65536 < maxCount →
        t.length = { s.length with
          reference := some (wha, whb)
          runCount := (s.fullPosition + s.profile.wheelStep) / 65536
          fraction := (s.fullPosition + s.profile.wheelStep) % 65536 }) ∧
      (maxCount ≤ (s.fullPosition + s.profile.wheelStep) / 65536 →
        t.length = { s.length with
          reference := some (wha, whb), runCount := maxCount, fraction := 65535, saturated := true } ∧
        hasReason .countLimit t.hold.own = true ∧ hasCondition .countLimit t.link.latched = true) ∧
      SameOutside [.pins, .length, .sense, .marks, .feeds, .lay, .knot, .lots, .builder, .hold, .port, .link, .orders]
        s t ∧
      ((s.fullPosition + s.profile.wheelStep) / 65536 < maxCount →
        (s.fullPosition + s.profile.wheelStep) / 65536 = s.length.runCount →
        (∀ w, s.lay.window = some w → s.fullPosition + s.profile.wheelStep < w.start + 1310720000) →
        SameOutside [.pins, .length] s t)

/-- A reverse wheel count moves the full-precision position back by one wheel step, or clamps it at the floor with
the tally counting; it is no advance and touches nothing else (R3, R4, R6 to R8). -/
def Obligations.ReverseCountBorrowsOrClamps : Prop :=
  ∀ (wha whb : Bool) (s : State), s.station = .running → s.profile.source = .wheel →
    turnsBack s (wha, whb) → s.length.saturated = false →
    ∃ t, exec (.wheelChange wha whb) s = .next t ∧ t.pins = { s.pins with wha := wha, whb := whb } ∧
      (s.fullPosition < s.floor * 65536 + s.profile.wheelStep →
        t.length = { s.length with
          reference := some (wha, whb), runCount := s.floor, fraction := 0
          reverseClamps := min (s.length.reverseClamps + 1) 65535 }) ∧
      (s.floor * 65536 + s.profile.wheelStep ≤ s.fullPosition →
        t.length = { s.length with
          reference := some (wha, whb)
          runCount := (s.fullPosition - s.profile.wheelStep) / 65536
          fraction := (s.fullPosition - s.profile.wheelStep) % 65536 }) ∧
      SameOutside [.pins, .length] s t

/-- A change of both levels is a skip; while saturated every count is dropped and the reference still follows; in OPEN
and with source ROWS the wheel is not decoded (R2, R3, R11). -/
def Obligations.WheelSkipsAndDroppedCounts : Prop :=
  ∀ (wha whb : Bool) (s : State), ∃ t, exec (.wheelChange wha whb) s = .next t ∧
    t.pins = { s.pins with wha := wha, whb := whb } ∧
    (s.station = .running → s.profile.source = .wheel →
      ∀ a b, s.length.reference = some (a, b) →
        (wha ≠ a → whb ≠ b →
          t.length = { s.length with
            reference := some (wha, whb), wheelSkips := min (s.length.wheelSkips + 1) 65535 } ∧
          SameOutside [.pins, .length] s t) ∧
        (¬(wha ≠ a ∧ whb ≠ b) → s.length.saturated = true →
          t.length = { s.length with reference := some (wha, whb) } ∧ SameOutside [.pins, .length] s t)) ∧
    (s.station = .openState ∨ s.profile.source = .rows → SameOutside [.pins] s t)

/-- An advance, of the wheel or of a row, fires every waiting mark that the new run count has reached, one after another
in list order, and takes it off the list: a LOT_CHANGE of another lot makes its lot the active one, so that each finds the
lot that the one before it left; ordinary marks are recorded in the current coil in that order; with the builder OFF, a
boundary mark is forwarded in class 1 and an ordinary one in its FIFO of class 2, with hops one greater and the serials in
that order, and a mark of 7 hops is not; a received LOSS mark adds a RELAYED interval, which stays in the loss list over
this advance, and the closed intervals that the count has passed are removed (R9, R12, R43 to R46, R62, R63, R65, R93, R96,
R113, R132, R158). That what this advance has added is kept until the next is DEDUCED (entry 37). -/
def Obligations.AdvanceFiresTheMarksItReaches : Prop :=
  (∀ (wha whb : Bool) (s : State) (count : Nat) (reached : List Mark), MarkLaw s → s.station = .running →
    s.profile.source = .wheel → turnsForward s (wha, whb) → s.length.saturated = false →
    count = min ((s.fullPosition + s.profile.wheelStep) / 65536) maxCount → s.length.runCount < count →
    (∀ r, s.knot.faultRun = some r → r.start ≤ s.length.runCount) →
    reached = s.marks.marks.filter (fun w => w.position ≤ count) →
    ∃ t, exec (.wheelChange wha whb) s = .next t ∧ firesReached s t count reached) ∧
  (∀ (i : Fin 32) (s : State) (count : Nat) (reached : List Mark), PlacesLaw s → MarkLaw s →
    (assignment s.profile i).service = .row → edgeIsDue s i →
    (s.knot.state = .firstRow ∧ s.knot.cause = .lot) ∨ s.knot.state = .counting →
    (∃ c ∈ s.knot.sections, 0 < c.count) → s.length.saturated = false →
    count = min (s.length.runCount + s.effective.rowPitch) maxCount →
    (∀ r, s.knot.faultRun = some r → r.start ≤ s.length.runCount) →
    reached = s.marks.marks.filter (fun w => w.position ≤ count) →
    (∀ c ∈ s.knot.sections, c.expected ≤ c.count) ∨ (∀ m ∈ reached, m.kind ≠ .lotChange) →
    ∃ t, exec (.senseFilterExpiry i) s = .next t ∧ firesReached s t count reached)

/-! ## Sense inputs and SPIN -/

/-- A change of the raw level of a watched input starts, replaces or cancels its pending change, or with filter 0
takes the level at once; an input that is not watched keeps nothing (R19, R20). That a change to the level standing
is no change is the model's choice (entry 5). -/
def Obligations.RawChangeStartsOrCancelsTheFilter : Prop :=
  ∀ (i : Fin 32) (level : Bool) (s : State), PlacesLaw s →
    (pinLevel s i = level → exec (.senseRawChange i level) s = .next s) ∧
    (pinLevel s i ≠ level → ∃ t, exec (.senseRawChange i level) s = .next t ∧
      t.pins = { s.pins with sns := s.pins.sns.set i level } ∧
      (s.station = .openState ∨ (assignment s.profile i).service = .unused → SameOutside [.pins] s t) ∧
      (s.station = .running → (assignment s.profile i).service ≠ .unused →
        ((senseInput s i).filtered = some level →
          t.sense = withInput s i { senseInput s i with pending := none } ∧ SameOutside [.pins, .sense] s t) ∧
        ((senseInput s i).filtered ≠ some level → 0 < (assignment s.profile i).filter →
          t.sense = withInput s i { senseInput s i with pending := some { level := level, since := s.now } } ∧
          SameOutside [.pins, .sense] s t) ∧
        ((senseInput s i).filtered ≠ some level → (assignment s.profile i).filter = 0 →
          (senseInput t i).filtered = some level ∧ (senseInput t i).pending = none)))

/-- The expiry of an input's filter takes the pending level; an edge against the service's direction is followed and
not handed on, an edge of a SPLICE or OPERATOR input raises a mark at the run count, which is forwarded at once, and an
edge of a KNOT_SECTION input counts one knot in its section (R20 to R23, R31, R38, R46, R92).
Before its time the event has no effect, which is the model's choice (entry 4). -/
def Obligations.FilterExpiryHandsOnTheEdge : Prop :=
  ∀ (i : Fin 32) (s : State), PlacesLaw s →
    ((∀ p, (senseInput s i).pending = some p → s.now < p.since + (assignment s.profile i).filter * 10) →
      exec (.senseFilterExpiry i) s = .next s) ∧
    (∀ p, (senseInput s i).pending = some p → p.since + (assignment s.profile i).filter * 10 ≤ s.now →
      ∃ t, exec (.senseFilterExpiry i) s = .next t ∧
        (senseInput t i).filtered = some p.level ∧ (senseInput t i).pending = none ∧
        (((assignment s.profile i).detection = .rising ∧ p.level = false) ∨
            ((assignment s.profile i).detection = .falling ∧ p.level = true) →
          t.sense = withInput s i (settled s i) ∧ SameOutside [.sense] s t)) ∧
    (edgeIsDue s i → forwardsFreely s →
      ((assignment s.profile i).service = .splice →
        ∃ t, exec (.senseFilterExpiry i) s = .next t ∧ t.sense = withInput s i (settled s i) ∧
          forwardedOwn (ownNotice s .splice s.length.runCount 0 0) s t ∧ SameOutside [.sense, .marks, .port] s t) ∧
      ((assignment s.profile i).service = .operator →
        ∃ t, exec (.senseFilterExpiry i) s = .next t ∧ t.sense = withInput s i (settled s i) ∧
          forwardedOwn (ownNotice s .operator s.length.runCount 0 (BitVec.ofNat 16 i)) s t ∧
          SameOutside [.sense, .marks, .port] s t)) ∧
    (edgeIsDue s i → (assignment s.profile i).service = .knotSection →
      ∃ t, exec (.senseFilterExpiry i) s = .next t ∧ t.sense = withInput s i (settled s i) ∧
        (s.knot.state = .off → SameOutside [.sense] s t) ∧
        (s.knot.state ≠ .off →
          t.knot = { s.knot with sections := s.knot.sections.map fun c =>
            if c.input = i.val then { c with count := min (c.count + 1) 255 } else c } ∧
          SameOutside [.sense, .knot] s t))

/-- A gauge run opens where its input becomes active, and where it becomes inactive closes and raises one GAUGE_FAULT
over the product it covered, except for a run opened by the cap and closed where it opened; an advance that takes it to
the span cap raises a GAUGE_FAULT of that span and opens the run again at the new run count, and one that does not leaves
it (R12, R24, R25). -/
def Obligations.GaugeRunOpensAndRaisesItsMark : Prop :=
  (∀ (i : Fin 32) (s : State), PlacesLaw s → (assignment s.profile i).service = .gauge →
    (gaugeTurnIsDue s i true → (senseInput s i).gauge = none →
      ∃ t, exec (.senseFilterExpiry i) s = .next t ∧
        t.sense = withInput s i { settled s i with gauge := some { start := s.length.runCount, byCap := false } } ∧
        SameOutside [.sense] s t) ∧
    (gaugeTurnIsDue s i false → ∀ run, (senseInput s i).gauge = some run →
      (run.byCap = true → run.start = s.length.runCount →
        ∃ t, exec (.senseFilterExpiry i) s = .next t ∧ t.sense = withInput s i { settled s i with gauge := none } ∧
          SameOutside [.sense] s t) ∧
      ((run.byCap = false ∨ run.start ≠ s.length.runCount) → forwardsFreely s →
        s.length.runCount ≤ run.start + 262144 →
        ∃ t, exec (.senseFilterExpiry i) s = .next t ∧ t.sense = withInput s i { settled s i with gauge := none } ∧
          forwardedOwn
            (ownNotice s .gaugeFault (min run.start s.length.runCount) (s.length.runCount - run.start) 0) s t ∧
          SameOutside [.sense, .marks, .port] s t))) ∧
  (∀ (i : Fin 32) (wha whb : Bool) (s : State) (run : GaugeRun) (count : Nat), PlacesLaw s →
    s.station = .running → s.profile.source = .wheel → turnsForward s (wha, whb) → s.length.saturated = false →
    count = min ((s.fullPosition + s.profile.wheelStep) / 65536) maxCount → s.length.runCount < count →
    (senseInput s i).gauge = some run →
    ∃ t, exec (.wheelChange wha whb) s = .next t ∧
      (count < run.start + 131071 → (senseInput t i).gauge = some run) ∧
      (run.start + 131071 ≤ count → (senseInput t i).gauge = some { start := count, byCap := true }) ∧
      (run.start + 131071 ≤ count → count ≤ run.start + 262144 → count < maxCount → forwardsFreely s →
        (∀ w ∈ s.marks.marks, count < w.position) →
        (∀ j < 32, j ≠ i.val → ∀ r, (senseInput s j).gauge = some r → count < r.start + 131071) →
        (∀ w, s.lay.window = some w → s.fullPosition + s.profile.wheelStep < w.start + 1310720000) →
        forwardedOwn (ownNotice s .gaugeFault run.start 131071 0) s t))

/-- A SPLICE edge while a coil is being built is recorded in it: an event entry at its offset while there is room,
and one more splice (R23, R44, R132). -/
def Obligations.SpliceEdgeIsRecordedInTheCoil : Prop :=
  ∀ (i : Fin 32) (s : State) (cur : CurrentCoil), PlacesLaw s → (assignment s.profile i).service = .splice →
    edgeIsDue s i → s.profile.forwarding = false → s.builder.state ≠ .off → s.builder.current = some cur →
    (∀ w ∈ s.marks.marks, w.origin ≠ { station := s.stationNumber, serial := s.marks.nextSerial }) →
    ∃ t, exec (.senseFilterExpiry i) s = .next t ∧ t.sense = withInput s i (settled s i) ∧
      t.marks = { s.marks with nextSerial := if s.marks.nextSerial = 65535 then 0 else s.marks.nextSerial + 1 } ∧
      t.builder = { s.builder with current := some { cur with record := { cur.record with
        splices := min (cur.record.splices + 1) 65535
        events := if cur.record.events.length < 12 then
            cur.record.events ++
              [{ kind := .splice, offset := s.length.runCount - cur.record.start, span := 0
                 origin := { station := s.stationNumber, serial := s.marks.nextSerial }, detail := 0
                 flags := noEventFlags }]
          else cur.record.events
        unlisted := if cur.record.events.length < 12 then cur.record.unlisted
          else min (cur.record.unlisted + 1) 65535 } } } ∧
      SameOutside [.sense, .marks, .builder] s t

/-- SPIN is filtered for 0.5 ms; only a rise is a spindle edge, which the lay monitor counts toward settling or into
its window (R26, R74, R75). -/
def Obligations.SpindleEdgesAreFilteredAndCounted : Prop :=
  ∀ (level : Bool) (s : State),
    (s.pins.spin ≠ level → ∃ t, exec (.spinRawChange level) s = .next t ∧ t.pins = { s.pins with spin := level } ∧
      (s.station = .openState → SameOutside [.pins] s t) ∧
      (s.station = .running →
        t.sense = { s.sense with
          spinPending := if s.sense.spinFiltered = some level then none
            else some { level := level, since := s.now } } ∧
        SameOutside [.pins, .sense] s t)) ∧
    (∀ p, s.sense.spinPending = some p → p.since + 50 ≤ s.now →
      ∃ t, exec .spinFilterExpiry s = .next t ∧
        t.sense = { s.sense with spinFiltered := some p.level, spinPending := none } ∧
        (p.level = false ∨ s.lay.state = .off ∨ s.lay.state = .suspended → SameOutside [.sense] s t) ∧
        (p.level = true → ∀ w, s.lay.working = some w →
          (s.lay.state = .settling →
            t.lay = (if w.settleTurns ≤ s.lay.settleCount + s.profile.twistsPerPulse then
                { s.lay with
                  state := .measuring, settleCount := 0, window := some { start := s.fullPosition, twists := 0 } }
              else { s.lay with settleCount := s.lay.settleCount + s.profile.twistsPerPulse }) ∧
            SameOutside [.sense, .lay] s t) ∧
          (∀ win, s.lay.state = .measuring → s.lay.window = some win →
            win.twists + s.profile.twistsPerPulse < w.windowTwists →
            t.lay = { s.lay with window := some { win with twists := win.twists + s.profile.twistsPerPulse } } ∧
            SameOutside [.sense, .lay] s t)))

/-! ## Lay monitor and TRIM -/

/-- The spindle edge that completes a window closes it: its lay is its length over its twists in tenths of a millimetre,
its deviation the error in per mille; then come the stop test on the deviation, the band test on the lay with the fault
run fed, the trim correction, and the next window at the same position. In band, an open run of enough windows raises a
LAY_FAULT and a shorter one is discarded; a run that reaches the span cap raises one of that span whatever its windows
(R31, R75, R77 to R82, R86). -/
def Obligations.SpindleEdgeClosesTheWindow : Prop :=
  ∀ (s : State) (p : PendingLevel) (w : LayWorkingSet) (win : LayWindow) (twists lay : Nat) (delta error dev : Int),
    CountLaw s → s.sense.spinPending = some p → p.level = true → p.since + 50 ≤ s.now → s.lay.state = .measuring →
    s.lay.working = some w → s.lay.window = some win → 0 < w.nominal → 0 < s.profile.twistsPerPulse →
    twists = win.twists + s.profile.twistsPerPulse → w.windowTwists ≤ twists →
    delta = (s.fullPosition : Int) - (win.start : Int) →
    (delta ≤ 0 → lay = 0) →
    (0 < delta → (lay : Int) = min 65535 ((delta * 10 + twists * 32768) / (twists * 65536))) →
    error = ((lay : Int) - (w.nominal : Int)) * 1000 →
    (0 ≤ error → dev = min 999 ((2 * error + w.nominal) / (2 * w.nominal))) →
    (error < 0 → dev = max (-999) (-((2 * -error + w.nominal) / (2 * w.nominal)))) →
    ∃ t, exec .spinFilterExpiry s = .next t ∧
      t.lay.window = some { start := s.fullPosition, twists := 0 } ∧
      t.lay.trimCorrection =
        max (-400) (min 400
          (s.lay.trimCorrection + roundHalfAway (max (-500) (min 500 dev) * (w.gain : Int)) 64)) ∧
      t.lay.state = .measuring ∧ t.lay.working = some w ∧ t.lay.settleCount = s.lay.settleCount ∧
      (w.stopTolerance < dev.natAbs →
        hasReason .layStop t.hold.own = true ∧ hasCondition .layStop t.link.latched = true) ∧
      (dev.natAbs ≤ w.stopTolerance → t.hold = s.hold) ∧
      (w.bandLow ≤ lay → lay ≤ w.bandHigh → t.lay.faultRun = none) ∧
      (w.bandLow ≤ lay → lay ≤ w.bandHigh → dev.natAbs ≤ w.stopTolerance →
        (∀ r, s.lay.faultRun = some r → r.windows < w.faultWindows) → SameOutside [.sense, .lay] s t) ∧
      (∀ r, w.bandLow ≤ lay → lay ≤ w.bandHigh → dev.natAbs ≤ w.stopTolerance → s.lay.faultRun = some r →
        w.faultWindows ≤ r.windows → s.length.runCount ≤ r.start + 262144 → forwardsFreely s →
        forwardedOwn (ownNotice s .layFault (min r.start s.length.runCount)
          (min 131071 (r.finish - min r.start s.length.runCount)) (BitVec.ofInt 16 r.worst)) s t) ∧
      (lay < w.bandLow ∨ w.bandHigh < lay → s.lay.faultRun = none →
        s.fullPosition / 65536 < win.start / 65536 + 131071 →
        t.lay.faultRun = some
          { start := win.start / 65536, finish := s.fullPosition / 65536, windows := 1, worst := dev }) ∧
      (∀ r, lay < w.bandLow ∨ w.bandHigh < lay → s.lay.faultRun = some r →
        s.fullPosition / 65536 < r.start + 131071 →
        t.lay.faultRun = some
          { r with
            finish := s.fullPosition / 65536, windows := min (r.windows + 1) 255
            worst := if r.worst.natAbs < dev.natAbs then dev else r.worst }) ∧
      (∀ r, lay < w.bandLow ∨ w.bandHigh < lay → s.lay.faultRun = some r →
        r.start + 131071 ≤ s.fullPosition / 65536 → t.lay.faultRun = none ∧
        (dev.natAbs ≤ w.stopTolerance → s.length.runCount ≤ r.start + 262144 → forwardsFreely s →
          forwardedOwn (ownNotice s .layFault r.start 131071
            (BitVec.ofInt 16 (if r.worst.natAbs < dev.natAbs then dev else r.worst))) s t)) ∧
      SameOutside [.sense, .lay, .marks, .feeds, .builder, .hold, .port, .link] s t

/-- Three timers of the time base. A speed sample that has fallen due takes ten times the rise of the run count since the
last, saturating, and sets the next 100 ms on (R13). TRIM periods follow each other every 1,000 units; at each start the
output goes high and the high time is fixed from the trim correction standing, and at its end the output goes low (R87).
When the POSITION timer expires, a POSITION notice of the state standing takes class 3's place, and the timer runs on for
another interval (R159, R165, R166). Before its time none of these events has an effect, which is the model's choice
(entry 4). -/
def Obligations.TimersActAtTheirTimes : Prop :=
  (∀ (due : Nat) (s : State), s.length.sampleDue = some due →
    (due ≤ s.now → ∃ t, exec .speedSample s = .next t ∧
      t.length = { s.length with
        speed := max (-32767) (min 32767 (((s.length.runCount : Int) - (s.length.sampleBase : Int)) * 10))
        sampleBase := s.length.runCount, sampleDue := some (due + 10000) } ∧
      SameOutside [.length] s t) ∧
    (s.now < due → exec .speedSample s = .next s)) ∧
  (∀ (s : State) (start : Nat), s.trim.periodStart = some start →
    (start + 1000 ≤ s.now → ∃ t, exec .trimPeriodStart s = .next t ∧
      t.trim = { periodStart := some (start + 1000), level := true
                 highTime := if s.profile.laySupervision then (500 + s.lay.trimCorrection).toNat else 500 } ∧
      SameOutside [.trim] s t) ∧
    (s.now < start + 1000 → exec .trimPeriodStart s = .next s) ∧
    (s.trim.level = true → start + s.trim.highTime ≤ s.now → ∃ t, exec .trimHighTimeEnd s = .next t ∧
      t.trim = { s.trim with level := false } ∧ SameOutside [.trim] s t) ∧
    (s.trim.level = false ∨ s.now < start + s.trim.highTime → exec .trimHighTimeEnd s = .next s)) ∧
  (∀ (s : State) (since : Nat), s.port.positionSince = some since →
    (since + s.profile.positionInterval * 100 ≤ s.now → ∃ t, exec .positionTimerExpiry s = .next t ∧
      t.port = { s.port with
        positionSince := some (since + s.profile.positionInterval * 100)
        class3 := some
          { payload := .position
              { speed := s.length.speed, activeLot := s.lots.activeTag, own := s.hold.own
                observed := s.hold.observed, builder := s.builder.state }
            serial := 0, shift := 0, attempts := 0 }
        sending := supersede .class3 s.port.sending } ∧
      SameOutside [.port] s t) ∧
    (s.now < since + s.profile.positionInterval * 100 → exec .positionTimerExpiry s = .next s))

/-! ## Knot monitor -/

/-- A ROW edge in COUNTING evaluates the row: its summary enters the history newest first under the next row serial and
the counts start again at 0. An idle row changes nothing else. A row with knots moves the noise tallies and the misses,
makes the total test and the broken-twine test, gives KNOT_STOP with its stop record where one fails and leaves both
alone where none does, feeds the fault run, which a row without missing knots or its 64th row ends with a KNOT_FAULT of its
start, its length and its missing knots, and asks for an advance by the row pitch, which a saturated length unit drops
(R94 to R100, R9, R11, R31, R46). In FIRST_ROW it ends the settling row: no serial, no history, no test, and an advance only after
an activation and with a knot counted (R93); that the monitor is COUNTING before that advance is DEDUCED (entry 15). -/
def Obligations.RowEdgeEvaluatesTheRow : Prop :=
  (∀ (i : Fin 32) (s : State) (w : KnotWorkingSet) (idle : Bool) (missing : List Nat) (count : Nat), PlacesLaw s →
    (assignment s.profile i).service = .row → edgeIsDue s i → s.knot.state = .counting → s.knot.working = some w →
    count = (if s.length.saturated then s.length.runCount
      else min (s.length.runCount + s.effective.rowPitch) maxCount) →
    idle = s.knot.sections.all (fun c => c.count = 0) →
    missing = s.knot.sections.map (fun c => if idle then 0 else c.expected - c.count) →
    ∃ t, exec (.senseFilterExpiry i) s = .next t ∧
      t.knot.rowSerial = (if s.knot.rowSerial = 65535 then 0 else s.knot.rowSerial + 1) ∧
      (∃ r, t.knot.history = (r :: s.knot.history).take 16 ∧ r.serial = s.knot.rowSerial ∧
        r.start = s.length.runCount ∧ r.idle = idle ∧ r.missing = missing ∧ r.total = missing.sum ∧
        ∀ n < 32, r.noisy.getLsbD n = true ↔
          idle = false ∧ ∃ c ∈ s.knot.sections, c.input = n ∧ c.expected < c.count) ∧
      (∀ c ∈ t.knot.sections, c.count = 0) ∧
      (idle = true →
        t.knot = { s.knot with
          rowSerial := t.knot.rowSerial, history := t.knot.history
          sections := s.knot.sections.map fun c => { c with count := 0 } } ∧
        SameOutside [.sense, .knot] s t) ∧
      (idle = false →
        t.length.runCount = count ∧
        (w.stopCount ≤ missing.sum ∨ (∃ c ∈ s.knot.sections, w.brokenRows ≤ missesAfter c) →
          hasReason .knotStop t.hold.own = true ∧ hasCondition .knotStop t.link.latched = true ∧
          ∃ stop, t.knot.stopRecord = some stop ∧ stop.serial = s.knot.rowSerial ∧ stop.total = missing.sum ∧
            (stop.totalFailed = true ↔ w.stopCount ≤ missing.sum) ∧
            stop.broken =
              (s.knot.sections.find? fun c => decide (w.brokenRows ≤ missesAfter c)).map Section.input) ∧
        (missing.sum < w.stopCount → (∀ c ∈ s.knot.sections, missesAfter c < w.brokenRows) →
          t.knot.stopRecord = s.knot.stopRecord ∧
          hasReason .knotStop t.hold.own = hasReason .knotStop s.hold.own ∧
          hasCondition .knotStop t.link.latched = hasCondition .knotStop s.link.latched) ∧
        (missing.sum = 0 → t.knot.faultRun = none) ∧
        (∀ run finish total, s.knot.faultRun = some run →
          (missing.sum = 0 ∧ finish = run.finish ∧ total = run.total) ∨
            (0 < missing.sum ∧ 63 ≤ run.rows ∧ finish = min (s.length.runCount + s.effective.rowPitch) maxCount ∧
              total = min (run.total + missing.sum) 65535) →
          missing.sum < w.stopCount → (∀ c ∈ s.knot.sections, missesAfter c < w.brokenRows) → forwardsFreely s →
          run.start ≤ s.length.runCount → s.length.runCount ≤ run.start + 262144 →
          s.length.saturated = true ∨ (count < maxCount ∧ (∀ m ∈ s.marks.marks, count < m.position) ∧
            ∀ j < 32, ∀ g, (senseInput s j).gauge = some g → count < g.start + 131071) →
          forwardedOwn (ownNotice s .knotFault run.start (finish - run.start) (BitVec.ofNat 16 total)) s t) ∧
        (s.length.saturated = true ∨ (∀ m ∈ s.marks.marks, count < m.position) →
          t.knot.state = .counting ∧ t.knot.working = some w ∧
          t.knot.sections = s.knot.sections.map (fun c => { c with
            count := 0, misses := missesAfter c
            noise := if c.expected < c.count then min (c.noise + 1) 255 else c.noise }) ∧
          (0 < missing.sum → s.knot.faultRun = none → t.knot.faultRun = some
            { start := s.length.runCount, finish := min (s.length.runCount + s.effective.rowPitch) maxCount
              rows := 1, total := missing.sum, firstSerial := s.knot.rowSerial }) ∧
          (∀ run, 0 < missing.sum → s.knot.faultRun = some run → t.knot.faultRun =
            if 63 ≤ run.rows then none
            else some { run with
              finish := min (s.length.runCount + s.effective.rowPitch) maxCount
              rows := run.rows + 1, total := min (run.total + missing.sum) 65535 }))) ∧
      SameOutside
        [.length, .sense, .marks, .feeds, .lay, .knot, .lots, .builder, .hold, .port, .link, .orders] s t) ∧
  (∀ (i : Fin 32) (s : State), PlacesLaw s → (assignment s.profile i).service = .row → edgeIsDue s i →
    s.knot.state = .firstRow →
    ∃ t, exec (.senseFilterExpiry i) s = .next t ∧
      t.knot.rowSerial = s.knot.rowSerial ∧ t.knot.history = s.knot.history ∧
      t.knot.stopRecord = s.knot.stopRecord ∧ (∀ c ∈ t.knot.sections, c.count = 0) ∧
      hasReason .knotStop t.hold.own = hasReason .knotStop s.hold.own ∧
      hasCondition .knotStop t.link.latched = hasCondition .knotStop s.link.latched ∧
      (s.knot.cause = .start ∨ s.length.saturated = true ∨ (∀ c ∈ s.knot.sections, c.count = 0) →
        t.knot = { s.knot with
          state := .counting, sections := s.knot.sections.map fun c => { c with count := 0 } } ∧
        SameOutside [.sense, .knot] s t) ∧
      (s.knot.cause = .lot → s.length.saturated = false → (∃ c ∈ s.knot.sections, 0 < c.count) →
        t.length.runCount = min (s.length.runCount + s.effective.rowPitch) maxCount ∧
        ((∀ m ∈ s.marks.marks, min (s.length.runCount + s.effective.rowPitch) maxCount < m.position) →
          t.knot = { s.knot with
            state := .counting, sections := s.knot.sections.map fun c => { c with count := 0 } })))

/-! ## Mark list -/

/-- MARK PLACE at the run count fires at once and answers FIRED, with the builder OFF and forwarding on going straight
to the line bus; it is refused in OPEN, for a kind the host may not place, an offset beyond the horizon or a CUT_REQUEST
with a detail, and where the list has no room, and a refused one takes no serial and changes nothing but the link (R38,
R40, R42, R46, R47). -/
def Obligations.MarkPlaceFiresOrIsRefused : Prop :=
  ∀ (kind offset detail fill : Nat) (s : State),
    (s.station = .running → s.length.runCount ≤ maxCount → forwardsFreely s →
      ∃ t, exec (.markPlace 4 0 detail fill) s = .next t ∧
        forwardedOwn (ownNotice s .operator s.length.runCount 0 (BitVec.ofNat 16 detail)) s t ∧
        Answers (10 + fill) (done (be 2 s.marks.nextSerial ++ [0])) s t ∧
        SameOutside [.marks, .port, .link] s t) ∧
    (s.station = .openState → ∃ t, exec (.markPlace kind offset detail fill) s = .next t ∧
      Answers (10 + fill) (bare .wrongState) s t ∧ SameOutside [.link] s t) ∧
    (s.station = .running → (kind ≠ 4 ∧ kind ≠ 7) ∨ 10000000 < offset ∨ (kind = 7 ∧ detail ≠ 0) →
      ∃ t, exec (.markPlace kind offset detail fill) s = .next t ∧
        Answers (10 + fill) (bare .outOfRange) s t ∧ SameOutside [.link] s t) ∧
    (s.station = .running → 0 < offset → offset ≤ 10000000 → s.length.runCount + offset ≤ maxCount →
      (∀ w ∈ s.marks.marks, w.origin ≠ { station := s.stationNumber, serial := s.marks.nextSerial }) →
      (kind = 4 ∧ (88 ≤ ordinaryWaiting s.marks.marks ∨ 96 ≤ s.marks.marks.length)) ∨
        (kind = 7 ∧ detail = 0 ∧ 96 ≤ s.marks.marks.length ∧ ordinaryWaiting s.marks.marks = 0) →
      ∃ t, exec (.markPlace kind offset detail fill) s = .next t ∧
        Answers (10 + fill) (bare .full) s t ∧ SameOutside [.link] s t)

/-- MARK PLACE ahead of the run count stores the host's mark after every waiting mark at or before its position, with
this station's next origin identity, and answers WAITING; with all 96 places full, a CUT_REQUEST evicts the ordinary mark
that stands last, which does not fire: MARK_LOST is latched, the lost tally counts it, and an interval over it enters the
loss list (R31, R32, R35, R39, R41, R47). -/
def Obligations.MarkPlaceAheadWaitsInOrder : Prop :=
  (∀ (kind offset detail fill : Nat) (s : State) (k : MarkKind), MarkLaw s → s.station = .running →
    ((kind = 4 ∧ k = .operator ∧ ordinaryWaiting s.marks.marks < 88 ∧ s.marks.marks.length < 96) ∨
      (kind = 7 ∧ k = .cutRequest ∧ detail = 0 ∧ s.marks.marks.length < 96)) →
    0 < offset → offset ≤ 10000000 → s.length.runCount + offset ≤ maxCount →
    (∀ w ∈ s.marks.marks, w.origin ≠ { station := s.stationNumber, serial := s.marks.nextSerial }) →
    ∃ t, exec (.markPlace kind offset detail fill) s = .next t ∧
      t.marks = { s.marks with
        nextSerial := if s.marks.nextSerial = 65535 then 0 else s.marks.nextSerial + 1
        marks :=
          s.marks.marks.filter (fun w => w.position ≤ s.length.runCount + offset) ++
            { position := s.length.runCount + offset, kind := k, span := 0, lotTag := s.lots.activeTag
              origin := { station := s.stationNumber, serial := s.marks.nextSerial }
              detail := BitVec.ofNat 16 detail, hops := 0, source := .here, flags := noFlags } ::
            s.marks.marks.filter (fun w => s.length.runCount + offset < w.position) } ∧
      Answers (10 + fill) (done (be 2 s.marks.nextSerial ++ [1])) s t ∧
      SameOutside [.marks, .builder, .hold, .port, .link] s t ∧
      (s.builder.state ≠ .building → SameOutside [.marks, .link] s t)) ∧
  (∀ (offset fill : Nat) (s : State) (before after : List Mark) (gone : Mark), MarkLaw s → s.station = .running →
    0 < offset → offset ≤ 10000000 → s.length.runCount + offset ≤ maxCount →
    (∀ w ∈ s.marks.marks, w.origin ≠ { station := s.stationNumber, serial := s.marks.nextSerial }) →
    s.marks.marks.length = 96 → s.marks.marks = before ++ gone :: after →
    gone.kind ≠ .lotChange → gone.kind ≠ .cutRequest →
    (∀ w ∈ after, w.kind = .lotChange ∨ w.kind = .cutRequest) →
    ∃ t, exec (.markPlace 7 offset 0 fill) s = .next t ∧
      t.marks.marks =
        (before ++ after).filter (fun w => w.position ≤ s.length.runCount + offset) ++
          { position := s.length.runCount + offset, kind := .cutRequest, span := 0, lotTag := s.lots.activeTag
            origin := { station := s.stationNumber, serial := s.marks.nextSerial }
            detail := 0, hops := 0, source := .here, flags := noFlags } ::
          (before ++ after).filter (fun w => s.length.runCount + offset < w.position) ∧
      t.marks.lost = min (s.marks.lost + 1) 65535 ∧ hasCondition .markLost t.link.latched = true ∧
      (s.feeds.losses.length < 8 → ∃ j ∈ t.feeds.losses, ∃ h, j.high = some h ∧ j.low ≤ gone.position ∧
        min (gone.position + gone.span) maxCount ≤ h) ∧
      Replies (10 + fill) (done (be 2 s.marks.nextSerial ++ [1])) s t ∧
      SameOutside [.marks, .feeds, .builder, .hold, .port, .link] s t)

/-- A mark whose origin identity a waiting mark has is dropped at its placement, whatever its position, and only the
duplicate tally counts it; the check looks at waiting marks alone (R36). -/
def Obligations.DuplicateIdentityIsDropped : Prop :=
  ∀ (m : Mark) (s : State),
    ((∃ w ∈ s.marks.marks, w.origin.station = m.origin.station ∧ w.origin.serial = m.origin.serial) →
      placeMark m s = s.withMarks { s.marks with duplicates := min (s.marks.duplicates + 1) 65535 } ∧
      placeOrdinary m s = placeMark m s) ∧
    ((∀ w ∈ s.marks.marks, w.origin ≠ m.origin) → placementOf m s ≠ .duplicate)

/-- The laws of the mark list: its marks stand in order of position, all ahead of the run count and none beyond the
ceiling, at most 96 of them and 88 ordinary, no origin identity twice and no lot tag in two LOT_CHANGEs; and a knot fault
run does not start beyond the ceiling (R35, R37, R40, R58, R99). The law of the run count, which
every step keeps as well, is a premise: the floor does not lie above the run count. -/
def Obligations.MarkLawIsKept : Prop :=
  ∀ s t : State, MarkLaw s → CountLaw s → step s = .next t → MarkLaw t

/-! ## Feeds and losses -/

/-- A feed whose silence timer has come to its timeout goes LOST: FEED_LOST is latched and an OPEN interval from where
its sender stood when last heard enters the loss list, which makes the coil it meets INCOMPLETE (R55, R62, R64, R66,
R137). A LOST feed, and one whose time has not come, is left as it is (the latter the model's choice, entry 4). -/
def Obligations.SilentFeedGoesLost : Prop :=
  ∀ (i : Fin 4) (s : State) (e : FeedEntry), s.feeds.table[i.val]? = some e →
    (∀ since, e.state ≠ .lost → e.silenceSince = some since → since + e.timeout * 100 ≤ s.now →
      ∃ t, exec (.feedTimeout i) s = .next t ∧
        t.feeds = { s.feeds with
          table := s.feeds.table.set i { e with state := .lost, silenceSince := none }
          losses := t.feeds.losses } ∧
        { low := min (e.lastLocal + e.reach) maxCount, high := none, cause := .feedLost, feed := some i.val } ∈
          t.feeds.losses ∧
        (s.feeds.losses.length < 8 → ∀ j ∈ s.feeds.losses, j ∈ t.feeds.losses) ∧
        (s.builder.current = none → t.builder = s.builder ∧
          t.link = { s.link with latched := s.link.latched ||| oneCondition .feedLost }) ∧
        (∀ cur, s.builder.current = some cur →
          t.builder = { s.builder with current := some { cur with record := { cur.record with
            flags := { cur.record.flags with
              incomplete := cur.record.flags.incomplete ||
                decide (min (e.lastLocal + e.reach) maxCount ≤ s.length.runCount) } } } } ∧
          t.link = { s.link with
            latched := s.link.latched ||| oneCondition .feedLost |||
              (if min (e.lastLocal + e.reach) maxCount < cur.record.start then oneCondition .retroLoss else 0) }) ∧
        SameOutside [.feeds, .builder, .link] s t) ∧
    ((e.state = .lost ∨ ∀ since, e.silenceSince = some since → s.now < since + e.timeout * 100) →
      exec (.feedTimeout i) s = .next s)

/-- A POSITION notice of a feed's sender is stored in its entry and keeps the feed heard; one of another station is
not taken (R53, R54, R161, R163). -/
def Obligations.PositionNoticeIsStored : Prop :=
  ∀ (early : Bool) (bits : List Bool) (s : State) (f : RxFrame) (p : PositionPayload), hearsFrame s early bits f →
    readPayload f.kindCode f.payload = .position p →
    ∃ t, exec (.frameReceived early bits) s = .next t ∧ t.port = portAfterGood s bits ∧
      (feedOf s f.station = none → SameOutside [.port] s t) ∧
      (∀ i e, feedOf s f.station = some i → s.feeds.table[i]? = some e → e.state ≠ .lost →
        t.feeds = { s.feeds with table := s.feeds.table.set i { heardEntry s e with
          senderLot := p.activeLot, senderSpeed := p.speed, senderHold := p.own } } ∧
        SameOutside [.feeds, .port] s t)

/-- Any notice of a LOST feed's sender finds the feed: it is HEARD, FEED_FOUND is latched, its expected serial is void,
and its OPEN interval closes at where the sender stands now, or at its own low, its LOSS mark going to the line bus while
forwarding is on (R31, R34, R53, R56, R64, R67). The notice here is a RELEASE. -/
def Obligations.NoticeFindsALostFeed : Prop :=
  ∀ (early : Bool) (bits : List Bool) (s : State) (f : RxFrame) (i : Nat) (e : FeedEntry) (lost : LossInterval),
    LossLaw s → hearsFrame s early bits f → readPayload f.kindCode f.payload = .release →
    feedOf s f.station = some i → s.feeds.table[i]? = some e → e.state = .lost → lost ∈ s.feeds.losses →
    lost.high = none → lost.feed = some i →
    ∃ t, exec (.frameReceived early bits) s = .next t ∧
      t.feeds.table = s.feeds.table.set i (heardEntry s e) ∧
      hasCondition .feedFound t.link.latched = true ∧
      (∀ j ∈ t.feeds.losses, j.high = none → j.feed ≠ some i) ∧
      (∃ j ∈ t.feeds.losses, ∃ h, j.high = some h ∧ j.low ≤ lost.low ∧
        max lost.low (min (s.length.runCount + e.reach) maxCount) ≤ h) ∧
      (s.profile.forwarding = false → t.marks = s.marks ∧ t.port = portAfterGood s bits) ∧
      (s.profile.forwarding = true → s.port.own.length < 4 →
        forwardedOwn (lossNotice s lost.low (max lost.low (min (s.length.runCount + e.reach) maxCount)))
          (s.withPort (portAfterGood s bits)) t) ∧
      SameOutside [.feeds, .marks, .hold, .builder, .port, .link] s t

/-- A MARK notice of a feed in step is translated, its position by the path and ratio and its span by the ratio to its
kind's cap: too far ahead it is FAR and only counted; at or behind the run count, LATE where it lies behind, it fires there;
and otherwise it waits at its translated position, CLAMPED at the ceiling. Where there is no room, an ordinary mark is
refused with MARK_LOST and a REFUSED interval, whose LOSS mark goes to the line bus while forwarding is on, and a boundary
mark with BOUNDARY_LOST given and latched, either counted as lost; and of two LOT_CHANGEs of one lot the later is dropped
and counted as a merge. The entry's serials follow in every case (R33, R34, R37 to R43, R45, R46, R53, R57 to R60, R67,
R113). -/
def Obligations.MarkNoticeIsTranslated : Prop :=
  ∀ (early : Bool) (bits : List Bool) (s : State) (f : RxFrame) (i : Nat) (e : FeedEntry) (m : MarkPayload)
    (k : MarkKind) (delta offset : Int) (mk : Mark),
    MarkLaw s → hearsFrame s early bits f → readPayload f.kindCode f.payload = .mark m →
    feedOf s f.station = some i → s.feeds.table[i]? = some e → e.state ≠ .lost →
    (e.expectedSerial = none ∨ e.expectedSerial = some f.serial) →
    m.kindCode = k.code → (k = .lotChange → m.lotTag ≠ 0) → m.hops ≤ 7 → 1 ≤ m.originStation → m.originStation ≤ 62 →
    (∀ w ∈ s.marks.marks, w.origin ≠ { station := m.originStation, serial := m.originSerial }) →
    delta = (m.position : Int) - f.stamp + e.path → offset = (delta * e.ratio + 32768) / 65536 →
    mk = translatedAs s i e k m delta offset →
    ∃ t, exec (.frameReceived early bits) s = .next t ∧
      t.feeds.table = s.feeds.table.set i (checkedEntry s e f) ∧
      (0 ≤ delta → 10000000 < offset →
        t.feeds.far = min (s.feeds.far + 1) 65535 ∧ t.port = portAfterGood s bits ∧ SameOutside [.feeds, .port] s t) ∧
      (delta < 0 ∨ offset ≤ 10000000 →
        (∀ w ∈ s.marks.marks, k = .lotChange → w.kind = .lotChange → w.lotTag = m.lotTag →
          (w.position ≤ mk.position →
            t.marks = { s.marks with merges := min (s.marks.merges + 1) 65535 } ∧ t.port = portAfterGood s bits ∧
            SameOutside [.marks, .feeds, .port] s t) ∧
          (mk.position < w.position → s.length.runCount < mk.position →
            t.marks = { s.marks with
              merges := min (s.marks.merges + 1) 65535
              marks := s.marks.marks.filter (fun x => x.position ≤ mk.position ∧ x.origin ≠ w.origin) ++ mk ::
                s.marks.marks.filter (fun x => mk.position < x.position ∧ x.origin ≠ w.origin) } ∧
            SameOutside [.marks, .feeds, .builder, .hold, .port, .link] s t)) ∧
        ((∀ w ∈ s.marks.marks, k = .lotChange → w.kind = .lotChange → w.lotTag ≠ m.lotTag) →
          (s.length.runCount < mk.position → hasRoom s k →
            t.marks = { s.marks with
              marks := s.marks.marks.filter (fun w => w.position ≤ mk.position) ++ mk ::
                s.marks.marks.filter (fun w => mk.position < w.position) } ∧
            SameOutside [.marks, .feeds, .builder, .hold, .port, .link] s t) ∧
          (s.length.runCount < mk.position → k ≠ .lotChange → k ≠ .cutRequest → ¬hasRoom s k →
            t.marks.marks = s.marks.marks ∧ t.marks.lost = min (s.marks.lost + 1) 65535 ∧
            hasCondition .markLost t.link.latched = true ∧
            (s.feeds.losses.length < 8 → ∃ j ∈ t.feeds.losses, ∃ h, j.high = some h ∧ j.low ≤ mk.position ∧
              min (mk.position + mk.span) maxCount ≤ h) ∧
            (s.profile.forwarding = false → t.port = portAfterGood s bits) ∧
            (s.profile.forwarding = true → s.port.own.length < 4 → t.port = { portAfterGood s bits with
              own := s.port.own ++ [lossNotice s mk.position (min (mk.position + mk.span) maxCount)]
              serialCounter := if s.port.serialCounter = 255 then 0 else s.port.serialCounter + 1 }) ∧
            SameOutside [.marks, .feeds, .builder, .port, .link] s t) ∧
          (s.length.runCount < mk.position → k = .lotChange ∨ k = .cutRequest → ¬hasRoom s k →
            ordinaryWaiting s.marks.marks = 0 →
            t.marks = { s.marks with lost := min (s.marks.lost + 1) 65535 } ∧ t.feeds.losses = s.feeds.losses ∧
            hasReason .boundaryLost t.hold.own = true ∧ hasCondition .boundaryLost t.link.latched = true ∧
            SameOutside [.marks, .feeds, .hold, .port, .link] s t) ∧
          (mk.position ≤ s.length.runCount →
            t.lots = lotsAfter s.profile.base s.lots mk ∧
            (k = .loss → s.feeds.losses.length < 8 → ∃ j ∈ t.feeds.losses, ∃ h, j.high = some h ∧
              j.low ≤ mk.position ∧ min (mk.position + mk.span) maxCount ≤ h) ∧
            (k ≠ .lotChange → s.builder.state = .off → t.marks = s.marks ∧
              (s.profile.forwarding = false ∨ m.hops = 7 →
                t.port = portAfterGood s bits ∧ (k ≠ .loss → SameOutside [.feeds, .port] s t)) ∧
              (s.profile.forwarding = true → m.hops < 7 → s.port.class1.length < 4 → s.port.forwarded.length < 4 →
                ∃ q, q = { payload := .mark { m with position := mk.position, span := mk.span, hops := m.hops + 1 }
                           serial := s.port.serialCounter, shift := 0, attempts := 0 } ∧
                  t.port = { portAfterGood s bits with
                    serialCounter := if s.port.serialCounter = 255 then 0 else s.port.serialCounter + 1
                    class1 := s.port.class1 ++ (if k = .cutRequest then [q] else [])
                    forwarded := s.port.forwarded ++ (if k = .cutRequest then [] else [q]) } ∧
                  (k ≠ .loss → SameOutside [.feeds, .port] s t))))))

/-- A MARK notice out of step shows a gap: GAP is latched and the interval that the lost notices can have covered, from
the lookback behind the stamp before to where the sender stands now, is held covered by the loss list, its LOSS mark going
to the line bus while forwarding is on (R31, R34, R53, R59 to R61, R63, R67). That its two ends are compared after both
have been clamped to the ceiling is DEDUCED (entry 34). The mark here cannot be read, and is only counted. -/
def Obligations.SerialGapCoversTheLostStretch : Prop :=
  ∀ (early : Bool) (bits : List Bool) (s : State) (f : RxFrame) (i : Nat) (e : FeedEntry) (m : MarkPayload)
    (expected high low : Nat),
    CountLaw s → hearsFrame s early bits f → readPayload f.kindCode f.payload = .mark m →
    feedOf s f.station = some i → s.feeds.table[i]? = some e → e.state ≠ .lost →
    e.expectedSerial = some expected → expected ≠ f.serial → 8 ≤ m.kindCode → s.feeds.losses.length < 8 →
    high = min (s.length.runCount + e.reach) maxCount →
    (match e.prevStamp with
      | none => low = s.length.runCount
      | some prev =>
        let x := min ((s.length.runCount : Int) +
          (((prev : Int) - 262144 - f.stamp + e.path) * e.ratio + 32768) / 65536).toNat maxCount
        low = if high < x then s.length.runCount else x) →
    ∃ t, exec (.frameReceived early bits) s = .next t ∧
      hasCondition .gap t.link.latched = true ∧
      t.feeds.table = s.feeds.table.set i (checkedEntry s e f) ∧
      t.feeds.badMarks = min (s.feeds.badMarks + 1) 65535 ∧
      (∃ j ∈ t.feeds.losses, ∃ h, j.high = some h ∧ j.low ≤ low ∧ high ≤ h) ∧
      (s.profile.forwarding = false → t.marks = s.marks ∧ t.port = portAfterGood s bits) ∧
      (s.profile.forwarding = true → s.port.own.length < 4 →
        forwardedOwn (lossNotice s low high) (s.withPort (portAfterGood s bits)) t) ∧
      SameOutside [.feeds, .marks, .builder, .port, .link] s t

/-- In OPEN every block that works only in RUNNING stays at its reset values and the station holds nothing; and the law
of the loss list: in order of low, at most eight intervals, each OPEN one tied to a LOST feed of its own, and no two closed
ones that overlap or touch (R55, R62, R64, R169, R175). The laws of the run count and of the mark list, which every step
keeps as well, are premises: no position lies beyond the ceiling. -/
def Obligations.OpenAndLossLawIsKept : Prop :=
  ∀ s t : State, LossLaw s → MarkLaw s → CountLaw s → step s = .next t → LossLaw t

/-! ## Lots -/

/-- LOT LOAD of a lot that is not active stores the record as given under its tag, and LOT DROP removes it, leaving
every other lot; both are refused as their tables say, in their order (R107, R109, R110, R112). -/
def Obligations.LotTableIsLoadedAndDropped : Prop :=
  ∀ (r : LotRecord) (tag fill : Nat) (s : State), s.station = .running →
    (recordInRange r = true → failedTest (completeRecord r s.profile.base) = none → r.tag ≠ s.lots.activeTag →
      (heldRecord s.lots.table r.tag ≠ none ∨ s.lots.table.length < 8) →
      ∃ t, exec (.lotLoad r fill) s = .next t ∧
        heldRecord t.lots.table r.tag = some r ∧
        (∀ x, x ≠ r.tag → heldRecord t.lots.table x = heldRecord s.lots.table x) ∧
        t.lots = { s.lots with table := t.lots.table } ∧
        Answers (28 + fill) (done [if heldRecord s.lots.table r.tag = none then 0 else 1]) s t ∧
        SameOutside [.lots, .link] s t) ∧
    (recordInRange r = false → ∃ t, exec (.lotLoad r fill) s = .next t ∧
      Answers (28 + fill) (bare .outOfRange) s t ∧ SameOutside [.link] s t) ∧
    (∀ n, recordInRange r = true → failedTest (completeRecord r s.profile.base) = some n →
      ∃ t, exec (.lotLoad r fill) s = .next t ∧
        Answers (28 + fill) { code := .inconsistent, data := be 1 n } s t ∧ SameOutside [.link] s t) ∧
    (recordInRange r = true → failedTest (completeRecord r s.profile.base) = none → r.tag = s.lots.activeTag →
      s.lots.unknown = false → ∃ t, exec (.lotLoad r fill) s = .next t ∧
        Answers (28 + fill) (bare .inUse) s t ∧ SameOutside [.link] s t) ∧
    (recordInRange r = true → failedTest (completeRecord r s.profile.base) = none →
      r.tag ≠ s.lots.activeTag ∨ s.lots.unknown = true →
      heldRecord s.lots.table r.tag = none → 8 ≤ s.lots.table.length →
      ∃ t, exec (.lotLoad r fill) s = .next t ∧
        Answers (28 + fill) (bare .full) s t ∧ SameOutside [.link] s t) ∧
    (tag ≠ 0 → heldRecord s.lots.table tag ≠ none → tag ≠ s.lots.activeTag →
      (∀ w ∈ s.marks.marks, w.kind = .lotChange → w.lotTag ≠ tag) →
      ∃ t, exec (.lotDrop tag fill) s = .next t ∧
        heldRecord t.lots.table tag = none ∧
        (∀ x, x ≠ tag → heldRecord t.lots.table x = heldRecord s.lots.table x) ∧
        t.lots = { s.lots with table := t.lots.table } ∧
        Answers (4 + fill) (done []) s t ∧ SameOutside [.lots, .link] s t) ∧
    (tag = 0 → ∃ t, exec (.lotDrop tag fill) s = .next t ∧
      Answers (4 + fill) (bare .outOfRange) s t ∧ SameOutside [.link] s t) ∧
    (tag ≠ 0 → heldRecord s.lots.table tag = none → ∃ t, exec (.lotDrop tag fill) s = .next t ∧
      Answers (4 + fill) (bare .absent) s t ∧ SameOutside [.link] s t) ∧
    (tag ≠ 0 → heldRecord s.lots.table tag ≠ none →
      (tag = s.lots.activeTag ∨ ∃ w ∈ s.marks.marks, w.kind = .lotChange ∧ w.lotTag = tag) →
      ∃ t, exec (.lotDrop tag fill) s = .next t ∧
        Answers (4 + fill) (bare .inUse) s t ∧ SameOutside [.link] s t)

/-- LOT START fires a LOT_CHANGE at the run count: a lot that is held becomes the active one, its record completed with
the base set becomes the effective set, and the monitors take it as an activation; a tag that is not held becomes the
active one with LOT_UNKNOWN set and latched, and LOT LOAD of its record then makes the activation. Tag 0 is refused as out
of range and the active lot's as SAME_LOT, and a LOT_CHANGE whose identity a waiting mark has is dropped (R32, R36, R37,
R85, R102, R108, R111, R113 to R116). -/
def Obligations.LotStartActivatesTheLot : Prop :=
  ∀ (tag fill : Nat) (r : LotRecord) (set : Params Nat) (s : State), MarkLaw s → s.station = .running →
    set = completeRecord r s.profile.base →
    (tag = 0 → ∃ t, exec (.lotStart tag fill) s = .next t ∧
      Answers (4 + fill) (bare .outOfRange) s t ∧ SameOutside [.link] s t) ∧
    (tag ≠ 0 → tag = s.lots.activeTag → ∃ t, exec (.lotStart tag fill) s = .next t ∧
      Answers (4 + fill) (bare .sameLot) s t ∧ SameOutside [.link] s t) ∧
    (tag ≠ 0 → tag ≠ s.lots.activeTag →
      (∃ w ∈ s.marks.marks, w.origin = { station := s.stationNumber, serial := s.marks.nextSerial }) →
      ∃ t, exec (.lotStart tag fill) s = .next t ∧
        t.marks = { s.marks with
          nextSerial := if s.marks.nextSerial = 65535 then 0 else s.marks.nextSerial + 1
          duplicates := min (s.marks.duplicates + 1) 65535 } ∧
        Answers (4 + fill) (done (be 2 s.marks.nextSerial ++ [2])) s t ∧ SameOutside [.marks, .link] s t) ∧
    (tag ≠ 0 → tag ≠ s.lots.activeTag →
      (∀ w ∈ s.marks.marks, w.origin ≠ { station := s.stationNumber, serial := s.marks.nextSerial }) →
      (heldRecord s.lots.table tag = some r → ∃ t, exec (.lotStart tag fill) s = .next t ∧
        t.lots = { s.lots with activeTag := tag, effective := some set, unknown := false } ∧
        (s.lay.state ≠ .off → t.lay.working = some (layWorkingSet set) ∧ t.lay.trimCorrection = 0 ∧
          t.lay.faultRun = none) ∧
        (s.knot.state ≠ .off → t.knot.state = .firstRow ∧ t.knot.cause = .lot ∧ t.knot.faultRun = none ∧
          t.knot.working = some { stopCount := set.knotStopCount, brokenRows := set.brokenTwineRows }) ∧
        (∀ w ∈ t.marks.marks, w.kind = .lotChange → w.lotTag ≠ tag) ∧
        Replies (4 + fill) (done (be 2 s.marks.nextSerial ++ [0])) s t ∧
        SameOutside [.marks, .feeds, .lay, .knot, .lots, .builder, .hold, .port, .link, .orders] s t) ∧
      (heldRecord s.lots.table tag = none → ∃ t, exec (.lotStart tag fill) s = .next t ∧
        t.lots = { s.lots with activeTag := tag, unknown := true } ∧
        hasCondition .lotUnknown t.link.latched = true ∧
        (∀ w ∈ t.marks.marks, w.kind = .lotChange → w.lotTag ≠ tag) ∧
        Replies (4 + fill) (done (be 2 s.marks.nextSerial ++ [1])) s t ∧
        SameOutside [.marks, .lots, .builder, .hold, .port, .link] s t)) ∧
    (recordInRange r = true → failedTest set = none → r.tag = s.lots.activeTag → s.lots.unknown = true →
      (heldRecord s.lots.table r.tag ≠ none ∨ s.lots.table.length < 8) →
      ∃ t, exec (.lotLoad r fill) s = .next t ∧ heldRecord t.lots.table r.tag = some r ∧
        t.lots = { s.lots with table := t.lots.table, effective := some set, unknown := false } ∧
        (s.lay.state ≠ .off → t.lay.working = some (layWorkingSet set) ∧ t.lay.trimCorrection = 0) ∧
        (s.knot.state ≠ .off → t.knot.state = .firstRow ∧ t.knot.cause = .lot) ∧
        Replies (28 + fill) (done [2]) s t ∧
        SameOutside [.marks, .feeds, .lay, .knot, .lots, .builder, .hold, .port, .link, .orders] s t)

/-! ## Packing plan and coils -/

/-- PLAN APPEND puts the entry at the tail of the plan; where it becomes the head, a coil without entry and target takes
it late where it is of the active lot or of none, and otherwise PLAN_MISMATCH is latched; it is refused as its table
says, in OPEN and with the builder OFF first of all (R121, R123, R124). -/
def Obligations.PlanAppendEntersTheTail : Prop :=
  ∀ (lotTag target count package fill : Nat) (e : PlanEntry) (s : State),
    e = { lotTag := lotTag, target := target, count := count, package := package % 16
          endFlag := decide (128 ≤ package) } →
    (s.station = .openState ∨ s.builder.state = .off →
      ∃ t, exec (.planAppend lotTag target count package fill) s = .next t ∧
        Answers (10 + fill) (bare .wrongState) s t ∧ SameOutside [.link] s t) ∧
    (s.station = .running → s.builder.state ≠ .off →
        lotTag ≤ 255 ∧ (target = 0 ∨ (1000 ≤ target ∧ target ≤ 4000000)) ∧ 1 ≤ count ∧ count ≤ 255 ∧ package ≤ 255 ∧
        package / 16 % 8 = 0 →
      ((∀ p ∈ s.builder.plan, p.endFlag = false) → s.builder.plan.length < 32 →
        ∃ t, exec (.planAppend lotTag target count package fill) s = .next t ∧
          t.builder.plan = s.builder.plan ++ [e] ∧
          Replies (10 + fill) (done [BitVec.ofNat 8 (s.builder.plan.length + 1)]) s t ∧
          SameOutside [.builder, .hold, .port, .link] s t ∧
          (s.builder.plan ≠ [] ∨ s.builder.state ≠ .building →
            t.builder = { s.builder with plan := s.builder.plan ++ [e] } ∧ SameOutside [.builder, .link] s t ∧
            t.link.latched = s.link.latched) ∧
          (∀ cur, s.builder.plan = [] → s.builder.state = .building → s.builder.current = some cur →
            cur.entryRef = false → cur.record.target = 0 →
            (lotTag = 0 ∨ lotTag = s.lots.activeTag → t.builder.current = some { cur with
              entryRef := true
              record := { cur.record with
                target := target, package := package % 16
                planned := if target = 0 then none else some (min
                  (cur.record.start + (target * (10000 + cur.reading.stretch) + 9999) / 10000) maxCount) } } ∧
              t.link.latched = s.link.latched) ∧
            (lotTag ≠ 0 → lotTag ≠ s.lots.activeTag →
              t.builder = { s.builder with plan := [e] } ∧ SameOutside [.builder, .link] s t ∧
              t.link.latched = s.link.latched ||| oneCondition .planMismatch))) ∧
      ((∃ p ∈ s.builder.plan, p.endFlag = true) →
        ∃ t, exec (.planAppend lotTag target count package fill) s = .next t ∧
          Answers (10 + fill) (bare .wrongState) s t ∧ SameOutside [.link] s t) ∧
      ((∀ p ∈ s.builder.plan, p.endFlag = false) → 32 ≤ s.builder.plan.length →
        ∃ t, exec (.planAppend lotTag target count package fill) s = .next t ∧
          Answers (10 + fill) (bare .full) s t ∧ SameOutside [.link] s t)) ∧
    (s.station = .running → s.builder.state ≠ .off →
      ¬(lotTag ≤ 255 ∧ (target = 0 ∨ (1000 ≤ target ∧ target ≤ 4000000)) ∧ 1 ≤ count ∧ count ≤ 255 ∧
        package ≤ 255 ∧ package / 16 % 8 = 0) →
      ∃ t, exec (.planAppend lotTag target count package fill) s = .next t ∧
        Answers (10 + fill) (bare .outOfRange) s t ∧ SameOutside [.link] s t)

/-- PLAN CLEAR removes every entry and the current coil's entry reference, so that its close charges no entry; PLAN
READ returns the entries in order, the head first (R122, R189). -/
def Obligations.PlanClearAndPlanRead : Prop :=
  ∀ (fill : Nat) (s : State),
    (s.station = .openState ∨ s.builder.state = .off → ∃ t, exec (.planClear fill) s = .next t ∧
      Answers (3 + fill) (bare .wrongState) s t ∧ SameOutside [.link] s t) ∧
    (s.station = .running → s.builder.state ≠ .off → ∃ t, exec (.planClear fill) s = .next t ∧
      t.builder = { s.builder with
        plan := [], current := s.builder.current.map fun cur => { cur with entryRef := false } } ∧
      Answers (3 + fill) (done []) s t ∧ SameOutside [.builder, .link] s t ∧
      ∀ (causes : CauseSet) (lateCut confirmed : Bool) (u : State), u.builder.current = t.builder.current →
        (closeCoil causes lateCut confirmed u).builder.plan = u.builder.plan) ∧
    (∃ t, exec (.planRead fill) s = .next t ∧
      Answers (3 + fill) (done (be 1 s.builder.plan.length ++ s.builder.plan.flatMap fun e =>
        be 1 e.lotTag ++ be 4 e.target ++ be 1 e.count ++ be 1 (e.package + if e.endFlag then 128 else 0))) s t ∧
      SameOutside [.link] s t)

/-- COIL TAKE returns and removes the oldest record, answering EMPTY where the log is empty; in CUT_DUE the free place
takes the builder on to CUTTING, LOG_FULL giving way to CUT as one change of the hold reason set (R119, R127, R138,
R146). -/
def Obligations.CoilTakeRemovesTheOldest : Prop :=
  ∀ (fill : Nat) (s : State),
    (s.builder.log = [] → ∃ t, exec (.coilTake fill) s = .next t ∧ Answers (3 + fill) (bare .empty) s t ∧
      SameOutside [.link] s t) ∧
    (∀ c rest, s.builder.log = c :: rest → ∃ t, exec (.coilTake fill) s = .next t ∧
      Answers (3 + fill) (done (coilBytes c false)) s t ∧
      (s.builder.state ≠ .cutDue →
        t.builder = { s.builder with log := rest } ∧ SameOutside [.builder, .link] s t) ∧
      (s.builder.state = .cutDue →
        t.builder = { s.builder with log := rest, state := .cutting, cutTimer := some s.now } ∧
        t.cutAsserted = true ∧ reasonsBecome ((s.hold.own &&& ~~~16#7) ||| 8#7) s t ∧
        SameOutside [.builder, .hold, .port, .link] s t))

/-- CUT ORDER starts a sequence whose causes are ORDERED and those found reached, claiming the qualifying mark that is
reached, and goes on by the coil log; while a sequence stands, ORDERED joins its causes (R126, R127, R130). -/
def Obligations.CutOrderStartsASequence : Prop :=
  ∀ (fill : Nat) (s : State),
    (s.station = .openState ∨ s.builder.state = .off → ∃ t, exec (.cutOrder fill) s = .next t ∧
      Answers (3 + fill) (bare .wrongState) s t ∧ SameOutside [.link] s t) ∧
    (∀ cur, s.station = .running → s.builder.state = .building → s.builder.current = some cur →
      ∃ t q, exec (.cutOrder fill) s = .next t ∧ t.builder.sequence = some q ∧ q.claimFired = false ∧
        (∀ c, hasCause c q.causes = true ↔ c = .ordered ∨
          (c = .target ∧ ∃ p, cur.record.planned = some p ∧
            p ≤ s.length.runCount + min 65535 ((max s.length.speed 0).toNat * s.profile.stopTime / 1000)) ∨
          ∃ m, boundaryReached s cur = some m ∧ c = (if m.kind = .lotChange then .lotChange else .cutRequest)) ∧
        q.claim = (boundaryReached s cur).map (fun m =>
          { origin := m.origin, kind := m.kind, lotTag := m.lotTag }) ∧
        q.boundary = (boundaryReached s cur).bind (fun m =>
          if m.kind = .lotChange then some m.position else none) ∧
        (s.builder.log.length < 8 →
          t.builder = { s.builder with state := .cutting, cutTimer := some s.now, sequence := some q } ∧
          reasonsBecome ((s.hold.own &&& ~~~16#7) ||| 8#7) s t ∧ Answers (3 + fill) (done [3]) s t) ∧
        (8 ≤ s.builder.log.length →
          t.builder = { s.builder with state := .cutDue, sequence := some q } ∧
          reasonsBecome (s.hold.own ||| 16#7) s t ∧ Answers (3 + fill) (done [2]) s t) ∧
        SameOutside [.builder, .hold, .port, .link] s t) ∧
    (∀ q, s.station = .running →
      (s.builder.state = .cutDue ∨ s.builder.state = .cutting ∨ s.builder.state = .cutFailed) →
      s.builder.sequence = some q → ∃ t, exec (.cutOrder fill) s = .next t ∧
        t.builder = { s.builder with sequence := some { q with causes := q.causes ||| 8#6 } } ∧
        Answers (3 + fill) (done (be 1 (builderCode s.builder.state))) s t ∧ SameOutside [.builder, .link] s t)

/-- The cut timer's expiry takes CUTTING to CUT_FAILED with CUT deasserted and its hold reason kept; CUT RETRY asserts
CUT again, and CUT CONFIRM closes the coil with CONFIRMED: its events are settled, those that reach beyond its end TRUNCATED
and the fault span total reduced with them, it is graded, the timer stops, the plan is charged, and the next coil opens with
the truncated faults carried into it; both are refused elsewhere (R123, R126, R129, R133, R135, R136). That the expiry has
no effect before its time is the model's choice (entry 4), and that the coil gains no LATE_CUT (entry 41) and what becomes of
an outstanding claim (entry 16) are DEDUCED. -/
def Obligations.FailedCutIsRetriedOrConfirmed : Prop :=
  ∀ (fill : Nat) (s : State),
    (∀ since, s.builder.state = .cutting → s.builder.cutTimer = some since →
      (since + s.profile.cutTimeout * 100 ≤ s.now → ∃ t, exec .cutTimerExpiry s = .next t ∧
        t.builder = { s.builder with state := .cutFailed, cutTimer := none } ∧ t.cutAsserted = false ∧
        t.link = { s.link with latched := s.link.latched ||| oneCondition .cutFailed } ∧
        SameOutside [.builder, .link] s t) ∧
      (s.now < since + s.profile.cutTimeout * 100 → exec .cutTimerExpiry s = .next s)) ∧
    (s.station = .running → s.builder.state = .cutFailed →
      (∃ t, exec (.cutRetry fill) s = .next t ∧
        t.builder = { s.builder with state := .cutting, cutTimer := some s.now } ∧ t.cutAsserted = true ∧
        Answers (3 + fill) (done []) s t ∧ SameOutside [.builder, .link] s t) ∧
      (∀ cur q, s.builder.current = some cur → s.builder.sequence = some q →
        ∃ t, exec (.cutConfirm fill) s = .next t ∧ closesCoil s t cur q.causes false true ∧
          Replies (3 + fill) (done (be 2 cur.record.serial)) s t ∧
          SameOutside [.builder, .hold, .port, .link] s t)) ∧
    ((s.station = .openState ∨ s.builder.state ≠ .cutFailed) →
      (∃ t, exec (.cutRetry fill) s = .next t ∧ Answers (3 + fill) (bare .wrongState) s t ∧
        SameOutside [.link] s t) ∧
      (∃ t, exec (.cutConfirm fill) s = .next t ∧ Answers (3 + fill) (bare .wrongState) s t ∧
        SameOutside [.link] s t))

/-- A CUT_DONE edge closes the coil with the sequence's causes in CUTTING and, with LATE_CUT, in CUT_FAILED; in BUILDING
it is a repeat at the coil's start, a MANUAL cut where the log has room, and else an unrecorded cut, as it is in
CUT_DUE; in OFF it has no effect. A close settles the events, TRUNCATED where they reach beyond the end, and takes what it
cuts off out of the fault span total, grades the coil, charges the plan, makes the claim that has not fired outstanding and
drops an older one, a MANUAL one keeping it, and the next coil opens with the truncated faults carried into it, looks at the
plan and makes the cut test, the builder being BUILDING where that is not met (R22, R123, R126, R128, R131, R133, R135,
R136; DEDUCED, entry 16). -/
def Obligations.CutDoneClosesTheCoil : Prop :=
  ∀ (i : Fin 32) (s : State), PlacesLaw s → (assignment s.profile i).service = .cutDone → edgeIsDue s i →
    ∃ t, exec (.senseFilterExpiry i) s = .next t ∧ t.sense = withInput s i (settled s i) ∧
      (s.builder.state = .off → SameOutside [.sense] s t) ∧
      (∀ cur, s.builder.current = some cur →
        (∀ q, s.builder.sequence = some q → s.builder.state = .cutting → closesCoil s t cur q.causes false false) ∧
        (∀ q, s.builder.sequence = some q → s.builder.state = .cutFailed →
          closesCoil s t cur q.causes true false) ∧
        (s.builder.state = .building → s.length.runCount = cur.record.start →
          t.builder = { s.builder with repeatedCuts := min (s.builder.repeatedCuts + 1) 65535 } ∧
          SameOutside [.sense, .builder] s t) ∧
        (s.builder.state = .building → s.length.runCount ≠ cur.record.start → s.builder.log.length < 8 →
          closesCoil s t cur 16#6 false false) ∧
        ((s.builder.state = .building ∧ s.length.runCount ≠ cur.record.start ∧ 8 ≤ s.builder.log.length) ∨
            s.builder.state = .cutDue →
          t.builder = { s.builder with
            unrecordedCuts := min (s.builder.unrecordedCuts + 1) 65535
            current := some { cur with record := { cur.record with
              flags := { cur.record.flags with incomplete := true } } } } ∧
          t.link = { s.link with latched := s.link.latched ||| oneCondition .cutFailed } ∧
          SameOutside [.sense, .builder, .link] s t)) ∧
      SameOutside [.sense, .builder, .hold, .port, .link] s t

/-- Where the next cut falls, and that it starts a sequence: a coil cut exactly at its run target, and not before it, has
its target as its relaxed length, whatever the stretch; the next cut position is the lower of the planned cut position and
the position of the first waiting mark, in list order, that is of a boundary kind, clears the spacing and, for a
LOT_CHANGE, is not of the active lot; in BUILDING the cut test starts a sequence of the points that the run count and the
lead reach, claiming that mark, and otherwise does nothing; and an advance makes that test, and adds TARGET to a sequence
that stands (R12, R120, R123, R125 to R127). -/
def Obligations.NextCutFallsAtTargetOrBoundary : Prop :=
  (∀ target stretch : Nat,
    relaxedLength (runTarget target stretch) stretch = target ∧
      ∀ shorter, shorter < runTarget target stretch → relaxedLength shorter stretch < target) ∧
  (∀ (s : State) (cur : CurrentCoil) (m : Mark), boundaryReached s cur = some m ↔
    isCutPoint s cur.record.start m ∧ m.position ≤ reachAt s s.length.runCount) ∧
  (∀ (s : State) (cur : CurrentCoil) (n : Nat), nextCutPosition s cur = some n ↔
    (cur.record.planned = some n ∨ ∃ m, isCutPoint s cur.record.start m ∧ m.position = n) ∧
    (∀ p, cur.record.planned = some p → n ≤ p) ∧ (∀ m, isCutPoint s cur.record.start m → n ≤ m.position)) ∧
  (∀ (s : State) (cur : CurrentCoil), s.builder.current = some cur →
    (s.builder.state = .building → cutIsReached s cur.record s.length.runCount →
      ∃ q, sequenceReached s cur.record s.length.runCount q ∧ goesOn s.builder.log.length q (cutTest s) ∧
        SameOutside [.builder, .hold, .port] s (cutTest s)) ∧
    (s.builder.state ≠ .building ∨ ¬cutIsReached s cur.record s.length.runCount → cutTest s = s)) ∧
  (∀ (wha whb : Bool) (s : State) (cur : CurrentCoil) (count : Nat), s.station = .running →
    s.profile.source = .wheel → turnsForward s (wha, whb) → s.length.saturated = false →
    count = min ((s.fullPosition + s.profile.wheelStep) / 65536) maxCount → s.length.runCount < count →
    s.builder.current = some cur → (∀ w ∈ s.marks.marks, count < w.position) →
    ∃ t, exec (.wheelChange wha whb) s = .next t ∧ t.length.runCount = count ∧
      (s.builder.state = .building → cutIsReached s cur.record count →
        ∃ q, sequenceReached s cur.record count q ∧ goesOn s.builder.log.length q t) ∧
      (s.builder.state = .building → ¬cutIsReached s cur.record count →
        t.builder.state = .building ∧ t.builder.sequence = s.builder.sequence) ∧
      (∀ q, s.builder.state ≠ .building → s.builder.sequence = some q → t.builder.state = s.builder.state ∧
        (targetIsReached s cur.record count →
          t.builder.sequence = some { q with causes := addCause .target q.causes }) ∧
        (¬targetIsReached s cur.record count → t.builder.sequence = some q)))

/-- What a fired boundary mark does to the coil builder, by the first case that applies: the claim of the sequence is
recorded alone; the outstanding claim becomes absent, and a LOT_CHANGE gives the coil its lot and re-seats it; a VOID
change is only recorded, as VOID; while a cut is under way the mark's kind joins the causes; in BUILDING a mark that does
not clear the spacing is ABSORBED, a LOT_CHANGE re-seating the coil, and one that does starts a sequence and is its claim.
A CUT_REQUEST placed by the host at the run count is handed on so, and the LOT_CHANGE of a LOT START after the lot unit has
acted on it (R44, R47, R116, R126, R127, R132, R134). -/
def Obligations.BoundaryMarkCutsOrIsAbsorbed : Prop :=
  (∀ (m : Mark) (answer : Option LotAnswer) (s t : State) (cur : CurrentCoil), s.builder.state ≠ .off →
    s.builder.current = some cur → (m.kind = .cutRequest ∧ answer = none) ∨ (m.kind = .lotChange ∧ answer ≠ none) →
    t = builderTakes m answer s →
    ∃ next, t.builder.current = some next ∧ SameOutside [.builder, .hold, .port, .link] s t ∧
      (∀ q, s.builder.sequence = some q → (∃ c, q.claim = some c ∧ c.origin = m.origin) →
        recordsBoundary m false false cur next ∧
        t.builder = { s.builder with
          current := some { cur with record := next.record }, sequence := some { q with claimFired := true } } ∧
        SameOutside [.builder] s t) ∧
      (¬(∃ q c, s.builder.sequence = some q ∧ q.claim = some c ∧ c.origin = m.origin) →
        ((∃ c, s.builder.outstanding = some c ∧ c.origin = m.origin) →
          recordsBoundary m false false cur next ∧ t.builder.outstanding = none ∧
          (m.kind = .lotChange → reseats s t cur next m.lotTag answer) ∧
          (m.kind = .cutRequest → t.builder = { s.builder with
            current := some { cur with record := next.record }, outstanding := none } ∧ SameOutside [.builder] s t)) ∧
        (¬(∃ c, s.builder.outstanding = some c ∧ c.origin = m.origin) →
          (answer = some .void →
            recordsBoundary m false true cur next ∧
            t.builder = { s.builder with current := some { cur with record := next.record } } ∧
            SameOutside [.builder] s t) ∧
          (∀ q, answer ≠ some .void → s.builder.state ≠ .building → s.builder.sequence = some q →
            recordsBoundary m false false cur next ∧
            t.builder = { s.builder with
              current := some { cur with record := next.record }
              sequence := some { q with
                causes := addCause (causeOf m) q.causes
                boundary := if q.boundary = none then boundaryFor m else q.boundary } } ∧
            SameOutside [.builder] s t) ∧
          (answer ≠ some .void → s.builder.state = .building →
            m.position < cur.record.start + s.profile.minimumCutSpacing ∨ m.position ≤ cur.record.start →
            recordsBoundary m true false cur next ∧
            (m.kind = .lotChange → reseats s t cur next m.lotTag answer) ∧
            (m.kind = .cutRequest →
              t.builder = { s.builder with current := some { cur with record := next.record } } ∧
              SameOutside [.builder] s t)) ∧
          (answer ≠ some .void → s.builder.state = .building →
            cur.record.start + s.profile.minimumCutSpacing ≤ m.position → cur.record.start < m.position →
            recordsBoundary m false false cur next ∧
            ∃ q, q.claim = some (claimFor m) ∧ q.claimFired = true ∧ q.boundary = boundaryFor m ∧
              (∀ c, hasCause c q.causes = true ↔ c = causeOf m ∨
                (c = .target ∧ targetIsReached s cur.record s.length.runCount)) ∧
              goesOn s.builder.log.length q t)))) ∧
  (∀ (fill : Nat) (s : State), s.station = .running → s.length.runCount ≤ maxCount → s.builder.state ≠ .off →
    (∀ w ∈ s.marks.marks, w.origin ≠ { station := s.stationNumber, serial := s.marks.nextSerial }) →
    ∃ t, exec (.markPlace 7 0 0 fill) s = .next t ∧
      Replies (10 + fill) (done (be 2 s.marks.nextSerial ++ [0])) s t ∧
      t.builder = (builderTakes
        { position := s.length.runCount, kind := .cutRequest, span := 0, lotTag := s.lots.activeTag
          origin := { station := s.stationNumber, serial := s.marks.nextSerial }, detail := 0, hops := 0
          source := .here, flags := noFlags } none s).builder) ∧
  (∀ (tag fill : Nat) (s : State), s.station = .running → tag ≠ 0 → tag ≠ s.lots.activeTag →
    s.builder.state ≠ .off → (∀ w ∈ s.marks.marks, w.kind = .lotChange → w.lotTag ≠ tag) →
    (∀ w ∈ s.marks.marks, w.origin ≠ { station := s.stationNumber, serial := s.marks.nextSerial }) →
    ∃ t, exec (.lotStart tag fill) s = .next t ∧
      t.builder = (builderTakes
        { position := s.length.runCount, kind := .lotChange, span := 0, lotTag := tag
          origin := { station := s.stationNumber, serial := s.marks.nextSerial }, detail := 0, hops := 0
          source := .here, flags := noFlags } (some (lotAnswer s tag))
        (lotChange tag (s.withMarks { s.marks with
          nextSerial := if s.marks.nextSerial = 65535 then 0 else s.marks.nextSerial + 1 }))).builder)

/-- The coil builder's laws: CUT stands in the hold reason set exactly in CUTTING and CUT_FAILED, LOG_FULL exactly in
CUT_DUE; the log holds at most eight records, and while the builder cuts it has a free place (R119, R127, R135). -/
def Obligations.CutAndLogLawIsKept : Prop :=
  ∀ s t : State, CutReasonLaw s → LogLaw s → step s = .next t → CutReasonLaw t ∧ LogLaw t

/-- The law of the run count and the law of coil records: the count stays between the floor and the ceiling, and every
record's run length is its end less its start, not below its relaxed length, with at most 12 events (R1, R7, R12,
R120). -/
def Obligations.CountAndCoilLawIsKept : Prop := ∀ s t : State, CoilLaw s → step s = .next t → CoilLaw t

/-! ## The hold wire -/

/-- HOLD gives ORDERED_HOLD, RELEASE removes it, and STOP ACK removes LAY_STOP, KNOT_STOP and BOUNDARY_LOST as one change
of the set; a change offers its one notice, no change offers none, and the reply carries the set after the command. In
OPEN all three are refused (R142, R146, R150, R151). -/
def Obligations.HoldCommandsChangeTheReasons : Prop :=
  ∀ (fill : Nat) (s : State) (c : Instr) (own : HoldSet),
    (c = .hold fill ∧ own = s.hold.own ||| 1#7) ∨ (c = .release fill ∧ own = s.hold.own &&& ~~~1#7) ∨
      (c = .stopAck fill ∧ own = s.hold.own &&& ~~~38#7) →
    (s.station = .running → ∃ t, exec c s = .next t ∧ reasonsBecome own s t ∧
      Answers (3 + fill) (done [BitVec.ofNat 8 own.toNat]) s t ∧ SameOutside [.hold, .port, .link] s t) ∧
    (s.station = .openState → ∃ t, exec c s = .next t ∧ Answers (3 + fill) (bare .wrongState) s t ∧
      SameOutside [.link] s t)

/-- A change of level on HOLDW records or cancels a pending change of the observed state, in OPEN as in RUNNING, and the
change is observed when it has stood for 2 ms: HELD suspends the lay monitor and ends the fault runs, that of the knot
monitor and that of the lay monitor with windows enough raising their marks, and RUNNING empties the holder list and lets
the lay monitor settle (R73, R81, R83, R84, R100, R101, R144, R145). That a change to the level
standing is no change, and an expiry before its time has no effect, is the model's choice (entries 4, 5). -/
def Obligations.WireIsObservedAfterItsDebounce : Prop :=
  ∀ (level : Bool) (s : State),
    (s.pins.holdw = level → exec (.holdWireChange level) s = .next s) ∧
    (s.pins.holdw ≠ level → ∃ t, exec (.holdWireChange level) s = .next t ∧
      t.pins = { s.pins with holdw := level } ∧
      t.hold = { s.hold with
        pending :=
          if (level = true ∧ s.hold.observed = .running) ∨ (level = false ∧ s.hold.observed = .held) then none
          else some { state := if level then .running else .held, since := s.now } } ∧
      SameOutside [.pins, .hold] s t) ∧
    (∀ p, s.hold.pending = some p →
      (s.now < p.since + 200 → exec .holdDebounceExpiry s = .next s) ∧
      (p.since + 200 ≤ s.now → ∃ t, exec .holdDebounceExpiry s = .next t ∧
        t.hold.observed = p.state ∧ t.hold.pending = none ∧
        (p.state = .held → t.hold.holders = s.hold.holders ∧ t.hold.uncounted = s.hold.uncounted ∧
          hasCondition .lineHeld t.link.latched = true ∧
          (s.lay.state = .settling ∨ s.lay.state = .measuring →
            t.lay = { s.lay with state := .suspended, settleCount := 0, window := none, faultRun := none }) ∧
          (s.lay.state = .off ∨ s.lay.state = .suspended → t.lay = s.lay) ∧
          (s.knot.state = .counting → t.knot = { s.knot with faultRun := none }) ∧
          (s.knot.state ≠ .counting → t.knot = s.knot) ∧
          (∀ run, s.knot.state = .counting → s.knot.faultRun = some run →
            s.lay.state = .off ∨ s.lay.state = .suspended ∨ s.lay.faultRun = none →
            run.start ≤ s.length.runCount → s.length.runCount ≤ run.start + 262144 → forwardsFreely s →
            forwardedOwn (ownNotice s .knotFault run.start (run.finish - run.start) (BitVec.ofNat 16 run.total)) s t) ∧
          (∀ run w, s.lay.state = .settling ∨ s.lay.state = .measuring → s.lay.faultRun = some run →
            s.lay.working = some w → s.knot.state ≠ .counting ∨ s.knot.faultRun = none →
            (w.faultWindows ≤ run.windows → s.length.runCount ≤ run.start + 262144 → forwardsFreely s →
              forwardedOwn (ownNotice s .layFault (min run.start s.length.runCount)
                (min 131071 (run.finish - min run.start s.length.runCount)) (BitVec.ofInt 16 run.worst)) s t) ∧
            (run.windows < w.faultWindows → SameOutside [.hold, .lay, .knot, .link] s t)) ∧
          SameOutside [.hold, .lay, .knot, .marks, .feeds, .builder, .port, .link] s t) ∧
        (p.state = .running →
          t.hold = { s.hold with observed := .running, pending := none, holders := [], uncounted := false } ∧
          t.link = { s.link with latched := s.link.latched ||| oneCondition .lineReleased } ∧
          (s.lay.state ≠ .suspended → t.lay = s.lay) ∧
          (∀ w, s.lay.state = .suspended → s.lay.working = some w → 0 < w.settleTurns →
            t.lay = { s.lay with state := .settling, settleCount := 0, window := none }) ∧
          SameOutside [.hold, .lay, .link] s t)))

/-- A HOLD notice enters its sender in the holder list, in place of what the list held of it, or sets the uncounted flag
where the list is full; a RELEASE, or a HOLD of no reason, takes the sender out (R147, R148, R163). The sender here is
no feed. -/
def Obligations.HoldNoticesKeepTheHolderList : Prop :=
  ∀ (early : Bool) (bits : List Bool) (s : State) (f : RxFrame), hearsFrame s early bits f →
    feedOf s f.station = none →
    (∀ reasons, readPayload f.kindCode f.payload = .hold reasons → reasons ≠ 0 →
      ∃ t, exec (.frameReceived early bits) s = .next t ∧ t.port = portAfterGood s bits ∧
        SameOutside [.hold, .port] s t ∧
        ((∃ h ∈ s.hold.holders, h.station = f.station) →
          t.hold = { s.hold with holders := s.hold.holders.map fun h =>
            if h.station = f.station then { station := f.station, reasons := reasons } else h }) ∧
        ((∀ h ∈ s.hold.holders, h.station ≠ f.station) → s.hold.holders.length < 16 →
          t.hold = { s.hold with holders := s.hold.holders ++ [{ station := f.station, reasons := reasons }] }) ∧
        ((∀ h ∈ s.hold.holders, h.station ≠ f.station) → 16 ≤ s.hold.holders.length →
          t.hold = { s.hold with uncounted := true })) ∧
    (readPayload f.kindCode f.payload = .release ∨ readPayload f.kindCode f.payload = .hold 0 →
      ∃ t, exec (.frameReceived early bits) s = .next t ∧ t.port = portAfterGood s bits ∧
        t.hold = { s.hold with holders := s.hold.holders.filter fun h => h.station ≠ f.station } ∧
        SameOutside [.hold, .port] s t)

/-! ## The line bus port -/

/-- An idle gap takes LISTEN to ACTIVE and is counted in MUTED, where the 64th brings the port back with its score at 0
and BUS_ACTIVE latched; SILENT counts none. At the start that follows a gap the port sends the head of the lowest class
that holds a notice, in class 2 the FIFO of the turn first, with the run count plus the notice's stamp shift as its stamp;
a port that is not ACTIVE on an idle bus, or has no notice, starts none. The end bits of a frame count toward the gap: a
gap that completes in the recessive end of a frame leaves the bus idle after it, and a dominant bit in its last 11 bits
does not; and a frame that was on the bus already when the port entered LISTEN is passed over, though the gap that makes the
port ACTIVE completes within it (R154, R155, R157, R160, R164, R174). That FRAME_START finds the bus idle only after IDLE,
with no dominant bit since, is the model's choice (entry 21), and how a frame under way is known is DEDUCED (entry 39). -/
def Obligations.FramesStartAfterAnIdleGap : Prop :=
  (∀ s : State, ∃ t, exec .idle s = .next t ∧
    (s.port.state = .silent → SameOutside [] s t) ∧
    (s.port.state = .listen → t.port = { s.port with
        state := .active, busIdle := true } ∧
      SameOutside [.port] s t) ∧
    (s.port.state = .active →
      t.port = { s.port with busIdle := true } ∧ SameOutside [.port] s t) ∧
    (s.port.state = .muted → s.port.idleGaps < 63 →
      t.port = { s.port with
        idleGaps := s.port.idleGaps + 1, busIdle := true } ∧
      SameOutside [.port] s t) ∧
    (s.port.state = .muted → s.port.idleGaps = 63 →
      t.port = { s.port with
        state := .active, score := 0, idleGaps := 0, busIdle := true } ∧
      t.link = { s.link with latched := s.link.latched ||| oneCondition .busActive } ∧
      SameOutside [.port, .link] s t)) ∧
  (∀ (s : State) (slot : Slot) (q : Queued),
    (s.port.state = .active → s.port.sending = none → s.port.busIdle = true →
      (slot = .class0 ∧ s.port.class0 = some q) ∨
      (slot = .class1 ∧ s.port.class0 = none ∧ s.port.class1.head? = some q) ∨
      (slot = .own ∧ s.port.class0 = none ∧ s.port.class1 = [] ∧ s.port.own.head? = some q ∧
        (s.port.ownTurn = true ∨ s.port.forwarded = [])) ∨
      (slot = .forwarded ∧ s.port.class0 = none ∧ s.port.class1 = [] ∧ s.port.forwarded.head? = some q ∧
        (s.port.ownTurn = false ∨ s.port.own = [])) ∨
      (slot = .class3 ∧ s.port.class0 = none ∧ s.port.class1 = [] ∧ s.port.own = [] ∧ s.port.forwarded = [] ∧
        s.port.class3 = some q) →
      ∃ t, exec .frameStart s = .next t ∧
        t.port = { s.port with
          busIdle := false, noFrameYet := false
          sending := some
            { slot := slot, superseded := false
              bits := frameBits s.stationNumber slot q (min (s.length.runCount + q.shift) maxCount) } } ∧
        SameOutside [.port] s t) ∧
    (s.port.state ≠ .active ∨ s.port.sending ≠ none ∨ s.port.busIdle = false ∨
        (s.port.class0 = none ∧ s.port.class1 = [] ∧ s.port.own = [] ∧ s.port.forwarded = [] ∧
          s.port.class3 = none) →
      exec .frameStart s = .next s)) ∧
  (∀ (s : State) (before : List Bool) (n : Nat),
    (∀ frame, s.port.sending = some frame → frame.bits = before ++ false :: List.replicate n true →
      ∃ t, exec .frameSent s = .next t ∧ t.port.busIdle = (s.port.busIdle && decide (11 ≤ n))) ∧
    (∀ early bits, s.port.sending = none → s.port.state = .active ∨ s.port.state = .muted →
      bits = before ++ false :: List.replicate n true → contentLength bits + 23 ≤ bits.length →
      ∃ t, exec (.frameReceived early bits) s = .next t ∧
        t.port.busIdle = (s.port.busIdle && decide (11 ≤ n)))) ∧
  (∀ (early : Bool) (bits : List Bool) (s : State), s.port.sending = none →
    s.port.state = .active ∨ s.port.state = .muted → wasUnderWay s early →
    ∃ t, exec (.frameReceived early bits) s = .next t ∧ t.port = portAfterFrame s bits ∧ SameOutside [.port] s t)

/-- The three ends of a frame being sent: lost arbitration leaves the notice uncharged, a bit error charges it and the
score with the third attempt dropping it, and a frame sent to its end takes the notice out of its place; the turn passes
when a class 2 notice leaves (R155, R156, R159, R160, R164). -/
def Obligations.FrameEndsSettleTheNotice : Prop :=
  ∀ (s : State) (frame : InFlight) (n : Queued) (rest : List Queued), s.port.state = .active →
    s.port.sending = some frame →
    (∃ t, exec .arbitrationLost s = .next t ∧ t.port = { s.port with sending := none, busIdle := false } ∧
      SameOutside [.port] s t) ∧
    (frame.superseded = false → fifoOf s.port frame.slot = n :: rest →
      (∃ t, exec .frameSent s = .next t ∧ t.port.sending = none ∧ t.port.score = s.port.score - 1 ∧
        t.port.state = .active ∧ fifoOf t.port frame.slot = rest ∧
        (∀ slot, slot ≠ frame.slot → fifoOf t.port slot = fifoOf s.port slot) ∧
        t.port.ownTurn = (if frame.slot = .own then false else if frame.slot = .forwarded then true
          else s.port.ownTurn) ∧
        t.port.serialCounter = s.port.serialCounter ∧ t.port.dropped = s.port.dropped ∧ SameOutside [.port] s t) ∧
      (∃ t, exec .bitError s = .next t ∧ t.port.sending = none ∧ t.port.score = min (s.port.score + 8) 255 ∧
        (192 ≤ s.port.score + 8 → t.port.state = .muted ∧ t.port.idleGaps = 0 ∧
          hasCondition .busMuted t.link.latched = true) ∧
        (s.port.score + 8 < 192 → t.port.state = .active) ∧
        (n.attempts + 1 < 3 → fifoOf t.port frame.slot = { n with attempts := n.attempts + 1 } :: rest ∧
          t.port.ownTurn = s.port.ownTurn ∧ t.port.dropped = s.port.dropped) ∧
        (3 ≤ n.attempts + 1 → fifoOf t.port frame.slot = rest ∧
          t.port.ownTurn = (if frame.slot = .own then false else if frame.slot = .forwarded then true
            else s.port.ownTurn) ∧
          t.port.dropped = min (s.port.dropped + 1) 65535 ∧
          hasCondition .noticeDropped t.link.latched = true) ∧
        (∀ slot, slot ≠ frame.slot → fifoOf t.port slot = fifoOf s.port slot) ∧
        t.port.serialCounter = s.port.serialCounter ∧ SameOutside [.port, .link] s t)) ∧
    (frame.superseded = true →
      (∃ t, exec .frameSent s = .next t ∧
        t.port = { s.port with
          sending := none, score := s.port.score - 1, busIdle := idleAfterFrame s.port.busIdle frame.bits } ∧
        SameOutside [.port] s t) ∧
      (∃ t, exec .bitError s = .next t ∧ t.port.sending = none ∧ t.port.score = min (s.port.score + 8) 255 ∧
        (∀ slot, fifoOf t.port slot = fifoOf s.port slot) ∧ t.port.dropped = s.port.dropped ∧
        SameOutside [.port, .link] s t))

/-- Each MARK notice offered takes the notice serial counter's value, queued or dropped, and the counter goes from 255
to 0; classes 0 and 3 take none and carry none; a station reset sets the counter to 0 and RESTART RUN keeps it
(R158). -/
def Obligations.MarkNoticesTakeSerials : Prop :=
  (∀ (slot : Slot) (m : MarkPayload) (s : State), slot = .class1 ∨ slot = .own ∨ slot = .forwarded →
    (offerMark slot m s).port.serialCounter = (if s.port.serialCounter = 255 then 0 else s.port.serialCounter + 1) ∧
    ((fifoOf s.port slot).length < 4 → fifoOf (offerMark slot m s).port slot = fifoOf s.port slot ++
      [{ payload := .mark m, serial := s.port.serialCounter, shift := 0, attempts := 0 }]) ∧
    (4 ≤ (fifoOf s.port slot).length → fifoOf (offerMark slot m s).port slot = fifoOf s.port slot)) ∧
  (∀ (payload : Payload) (s : State), (offerClass0 payload s).port.serialCounter = s.port.serialCounter ∧
    (offerClass3 payload s).port.serialCounter = s.port.serialCounter) ∧
  (∀ (cls station kind serial stamp : Nat) (payload : List Byte), cls = 0 ∨ cls = 3 →
    frameContent cls station kind serial stamp payload = frameContent cls station kind 0 stamp payload ∧
    (frameContent cls station kind serial stamp payload).length = 8 + 4 + 32 + 5 + 8 * payload.length) ∧
  (∀ (cls station kind serial stamp : Nat) (payload : List Byte), cls = 1 ∨ cls = 2 →
    (frameContent cls station kind serial stamp payload).length = 8 + 4 + 8 + 32 + 5 + 8 * payload.length ∧
    ((frameContent cls station kind serial stamp payload).drop 12).take 8 = bitsOf 8 serial) ∧
  (∀ s : State, ∃ t, exec .powerOnReset s = .next t ∧ t.port.serialCounter = 0) ∧
  (∀ (fill : Nat) (s : State), ∃ t, exec (.restartRun fill) s = .next t ∧
    t.port.serialCounter = s.port.serialCounter)

/-- A frame that is not taken counts: a framing error or a failed check raises the score by 1 in ACTIVE, an unfit frame
lowers it and is tallied, one of this station's own number raises it by 8 and is tallied, and a score of 192 mutes the
port; in MUTED the score stands still; in SILENT and LISTEN no frame is taken (R161, R162, R164). The frames here were not
under way at the entry to LISTEN: such a frame is passed over, and so is the first one after the entry that starts before a
gap has completed (entry 39). That a frame of this station's own number adds 8 without the 1 of a good frame taken off is
DEDUCED (entry 20). -/
def Obligations.BadFramesMoveTheScore : Prop :=
  ∀ (early : Bool) (bits : List Bool) (s : State) (rise : Nat),
    (s.port.state = .silent ∨ s.port.state = .listen → exec (.frameReceived early bits) s = .next s) ∧
    (s.port.sending = none → s.port.state = .active ∨ s.port.state = .muted → ¬wasUnderWay s early →
      (rise = 1 ∧ (judgeFrame early bits = .framingError ∨ judgeFrame early bits = .checkFailure)) ∨
        (rise = 8 ∧ ∃ f, judgeFrame early bits = .good f ∧ isFit f = true ∧ f.station = s.stationNumber) →
      ∃ t, exec (.frameReceived early bits) s = .next t ∧
        t.port.ownNumber = (if rise = 8 then min (s.port.ownNumber + 1) 65535 else s.port.ownNumber) ∧
        t.port.busIdle = idleAfterFrame s.port.busIdle (wholeFrame bits) ∧ t.port.unfit = s.port.unfit ∧
        (∀ slot, fifoOf t.port slot = fifoOf s.port slot) ∧
        (s.port.state = .muted → t.port.score = s.port.score ∧ t.port.state = .muted ∧ SameOutside [.port] s t) ∧
        (s.port.state = .active → t.port.score = min (s.port.score + rise) 255 ∧
          (s.port.score + rise < 192 → t.port.state = .active ∧ SameOutside [.port] s t) ∧
          (192 ≤ s.port.score + rise → t.port.state = .muted ∧ t.port.idleGaps = 0 ∧
            t.link = { s.link with latched := s.link.latched ||| oneCondition .busMuted } ∧
            SameOutside [.port, .link] s t))) ∧
    (∀ f, s.port.sending = none → s.port.state = .active ∨ s.port.state = .muted →
      judgeFrame early bits = .good f → isFit f = false →
      ∃ t, exec (.frameReceived early bits) s = .next t ∧
        t.port = { portAfterGood s bits with unfit := min (s.port.unfit + 1) 65535 } ∧ SameOutside [.port] s t)

/-- A notice written as a frame is read back whole: for every notice whose fields fit their widths, the bits after the
start bit judge as a good, fit frame of the sender, with its serial, its stamp and the payload it carries (R153, R157,
R161, R162, R187, R188). -/
def Obligations.NoticeFrameReadsBack : Prop :=
  ∀ (station stamp : Nat) (slot : Slot) (q : Queued), 1 ≤ station → station ≤ 62 → stamp ≤ maxCount →
    q.serial ≤ 255 →
    (slot = .class0 ∧ ((∃ r, q.payload = .hold r) ∨ q.payload = .release)) ∨
      (slot = .class3 ∧ ∃ p, q.payload = .position p ∧ -32768 ≤ p.speed ∧ p.speed ≤ 32767 ∧ p.activeLot ≤ 255) ∨
      ((slot = .class1 ∨ slot = .own ∨ slot = .forwarded) ∧ ∃ m, q.payload = .mark m ∧ m.position ≤ maxCount ∧
        m.span ≤ 16777215 ∧ m.kindCode ≤ 15 ∧ m.hops ≤ 15 ∧ m.lotTag ≤ 255 ∧ m.originStation ≤ 255 ∧
        m.originSerial ≤ 65535) →
    ∃ f, judgeFrame false (frameBits station slot q stamp).tail = .good f ∧ isFit f = true ∧
      f.station = station ∧ f.cls = slotClass slot ∧ f.stamp = stamp ∧
      f.serial = (if slot = .class0 ∨ slot = .class3 then 0 else q.serial) ∧
      readPayload f.kindCode f.payload = q.payload

/-- The check of a frame: a 16 bit register from 65,535, shifted left for each bit in the order sent, and combined with
32,773 where its top bit differed from the frame bit; a frame carries it after the last payload bit, high bit first, and
a receiver that finds another over the bits it received finds a check failure (R188). -/
def Obligations.FrameCheckFollowsItsRule : Prop :=
  frameCheck [] = 65535#16 ∧
  (∀ (bits : List Bool) (b : Bool), frameCheck (bits ++ [b]) =
    if (frameCheck bits).msb = b then frameCheck bits <<< 1 else (frameCheck bits <<< 1) ^^^ 32773#16) ∧
  frameCheck (byteBits [0#8]) = 64770#16 ∧
  (∀ (station stamp : Nat) (slot : Slot) (q : Queued) (content : List Bool),
    content = frameContent (slotClass slot) station (kindCodeOf q.payload) q.serial stamp (payloadBytes q.payload) →
    frameBits station slot q stamp = [false] ++ content ++ bitsOf 16 (frameCheck content).toNat ++
      [true, true, true, true, true, true, true]) ∧
  (∀ (cls station kind serial stamp : Nat) (payload : List Byte) (content check after : List Bool), cls ≤ 3 →
    station ≤ 63 → payload.length ≤ 16 → content = frameContent cls station kind serial stamp payload →
    check.length = 16 →
    (judgeFrame false (content ++ check ++ [true, true, true, true, true, true, true] ++ after) = .checkFailure ↔
      check ≠ bitsOf 16 (frameCheck content).toNat))

/-- The laws of the port: its queues stay within their places, no notice holds three attempts, the score stays below 192
unless MUTED, and an OPEN station's port is SILENT (R156, R158, R159, R164). -/
def Obligations.PortLawIsKept : Prop := ∀ s t : State, PortLaw s → step s = .next t → PortLaw t

/-! ## The local link -/

/-- A command frame that ends before its sum byte, does not add up to 0, or has the wrong argument length is answered
BAD_FRAME, and one whose code names no command UNKNOWN_COMMAND; either is tallied and changes nothing else (R179, R180,
R190). -/
def Obligations.BadFrameIsAnsweredAndTallied : Prop :=
  ∀ (bytes : List Byte) (s : State) (code n : Byte) (rest : List Byte) (answer : ResultCode),
    (answer = .badFrame ∧ bytes.length ≤ 1) ∨
    (bytes = code :: n :: rest ∧
      ((answer = .badFrame ∧ rest.length ≤ n.toNat) ∨
        (n.toNat < rest.length ∧
          ((answer = .badFrame ∧ byteSum (bytes.take (n.toNat + 3)) ≠ 0) ∨
            (byteSum (bytes.take (n.toNat + 3)) = 0 ∧
              ((answer = .unknownCommand ∧ (code.toNat = 0 ∨ 29 < code.toNat)) ∨
                (answer = .badFrame ∧ ∃ k, argumentLength code.toNat = some k ∧ k ≠ n.toNat))))))) →
    ∃ t, exec (.badFrame bytes) s = .next t ∧
      t.link = { s.link with
        reply := some { code := answer, data := [] }, ldo := shiftedOut bytes.length s
        badFrames := min (s.link.badFrames + 1) 65535
        lostReplies := if losesReply bytes.length s then min (s.link.lostReplies + 1) 65535 else s.link.lostReplies } ∧
      SameOutside [.link] s t

/-- ATTENTION READ reports the latched set and removes what it reports, and ATTENTION ENABLE replaces the enabled set and
reports the latched set, in OPEN and in RUNNING; a set outside the nineteen is refused; ATTN follows (R184). -/
def Obligations.AttentionIsReadAndEnabled : Prop :=
  ∀ (mask fill : Nat) (s : State),
    (∃ t, exec (.attentionRead fill) s = .next t ∧
      Replies (3 + fill) (done (be 3 s.link.latched.toNat)) s t ∧ t.link.latched = 0 ∧ t.attn = false ∧
      SameOutside [.link] s t ∧
      ∀ c, (latch c t).link.latched = oneCondition c ∧
        ((latch c t).attn = true ↔ hasCondition c s.link.enabled = true)) ∧
    (mask < 2 ^ 19 → ∃ t, exec (.attentionEnable mask fill) s = .next t ∧
      t.link = { s.link with
        reply := some (done (be 3 s.link.latched.toNat)), ldo := shiftedOut (6 + fill) s
        lostReplies := if losesReply (6 + fill) s then tally s.link.lostReplies else s.link.lostReplies
        enabled := BitVec.ofNat 19 mask } ∧
      (t.attn = true ↔ ∃ c, hasCondition c s.link.latched = true ∧ mask.testBit c.bit = true) ∧
      SameOutside [.link] s t) ∧
    (2 ^ 19 ≤ mask → ∃ t, exec (.attentionEnable mask fill) s = .next t ∧
      Answers (6 + fill) (bare .outOfRange) s t ∧ SameOutside [.link] s t)

/-- TALLIES READ reports all fifteen tallies and sets them to 0. Where its frame also loses the reply before it, that
loss falls before the command, and is reported, or after it, and stands as 1 (R180, R182); which of the two is a free
value (entries 12, 26). -/
def Obligations.TalliesAreReportedAndCleared : Prop :=
  ∀ (fill : Nat) (s : State), ∃ t, exec (.talliesRead fill) s = .next t ∧
    t.length = { s.length with reverseClamps := 0, wheelSkips := 0 } ∧
    t.marks = { s.marks with duplicates := 0, merges := 0, lost := 0, discarded := 0 } ∧
    t.feeds = { s.feeds with far := 0, badMarks := 0 } ∧
    t.builder = { s.builder with repeatedCuts := 0, unrecordedCuts := 0 } ∧
    t.port = { s.port with dropped := 0, unfit := 0, ownNumber := 0 } ∧
    t.link.badFrames = 0 ∧ t.link.latched = s.link.latched ∧ t.link.enabled = s.link.enabled ∧
    t.link.ldo = shiftedOut (3 + fill) s ∧
    (losesReply (3 + fill) s = false →
      t.link.lostReplies = 0 ∧ t.link.reply = some (done ((allTallies s).flatMap (be 2)))) ∧
    (losesReply (3 + fill) s = true →
      (t.link.lostReplies = 1 ∧ t.link.reply = some (done ((allTallies s).flatMap (be 2)))) ∨
      (t.link.lostReplies = 0 ∧ t.link.reply = some (done
        ((allTallies (s.withLink { s.link with lostReplies := min (s.link.lostReplies + 1) 65535 })).flatMap
          (be 2))))) ∧
    SameOutside [.length, .marks, .feeds, .builder, .port, .link, .orders] s t

/-- The commands that only read answer from the state standing and change nothing but the reply buffer, in OPEN and in
RUNNING, and what they answer is laid out by chapter 13; STATUS reports a hold as unattributed exactly while the wire is
seen HELD with no reason of the station's own and no holder (R48, R68, R90, R103, R104, R107, R117, R138, R149, R181, R186,
R189). Where chapter 13 lays out no reply, its layout is the model's (entry 19), and an offset that four signed bytes do not
hold is left out here (entry 42). -/
def Obligations.ReadsAnswerAndChangeNothing : Prop :=
  (∀ (index tag fill : Nat) (s : State) (c : Instr) (len : Nat) (r : Reply),
    (c = .status fill ∧ len = 3 + fill ∧ r = done (statusBytes s)) ∨
    (c = .lotRead tag fill ∧ len = 4 + fill ∧
      ((tag = 0 ∧ r = done (lotUnitBytes s)) ∨
        (tag ≠ 0 ∧ ∃ record, heldRecord s.lots.table tag = some record ∧ r = done (lotBytes record)) ∨
        (tag ≠ 0 ∧ heldRecord s.lots.table tag = none ∧
          r = { code := .absent, data := be 1 s.lots.activeTag ++ be 1 s.lots.table.length }))) ∨
    (c = .coilPeek fill ∧ len = 3 + fill ∧
      ((r = bare .absent ∧ (s.station = .openState ∨ s.builder.state = .off)) ∨
        (s.station = .running ∧ s.builder.state ≠ .off ∧ ∃ cur, s.builder.current = some cur ∧
          r = done (coilBytes cur.record s.builder.sequence.isSome ++ be 1 (builderCode s.builder.state) ++
            be 1 (sequenceCauses s).toNat ++ be 4 s.length.runCount)))) ∨
    (c = .markRead index fill ∧ len = 4 + fill ∧
      ((95 < index ∧ r = bare .outOfRange) ∨
        (index ≤ 95 ∧ s.marks.marks.length ≤ index ∧
          r = { code := .absent, data := be 1 s.marks.marks.length }) ∨
        (index ≤ 95 ∧ ∃ m, s.marks.marks[index]? = some m ∧
          r = done (be 1 s.marks.marks.length ++ markRecordBytes m)))) ∨
    (c = .lossRead fill ∧ len = 3 + fill ∧
      r = done (be 1 s.feeds.losses.length ++ s.feeds.losses.flatMap lossBytes)) ∨
    (c = .feedRead index fill ∧ len = 4 + fill ∧
      ((3 < index ∧ r = bare .outOfRange) ∨
        (index ≤ 3 ∧ s.station = .running ∧ s.feeds.table.length ≤ index ∧ r = bare .absent) ∨
        (index ≤ 3 ∧ s.station = .running ∧ ∃ e, s.feeds.table[index]? = some e ∧ r = done (feedBytes e)) ∨
        (index ≤ 3 ∧ s.station = .openState ∧ s.profile.feedCount ≤ index ∧ r = bare .absent) ∨
        (index ≤ 3 ∧ s.station = .openState ∧
          ∃ slot, (s.profile.feeds.take s.profile.feedCount)[index]? = some slot ∧
            r = done (feedBytes (freshEntry slot))))) ∨
    (c = .sectionRead fill ∧ len = 3 + fill ∧ r = done (knotBytes s.knot)) ∨
    (c = .rowRead index fill ∧ len = 4 + fill ∧
      ((15 < index ∧ r = bare .outOfRange) ∨
        (index ≤ 15 ∧ s.knot.history.length ≤ index ∧ r = { code := .absent, data := rowHeadBytes s.knot }) ∨
        (index ≤ 15 ∧ ∃ row, s.knot.history[index]? = some row ∧
          r = done (rowHeadBytes s.knot ++ summaryBytes row)))) →
    ∃ t, exec c s = .next t ∧ Answers len r s t ∧ SameOutside [.link] s t) ∧
  (∀ s : State, statusBytes s =
    be 1 (stationCode s.station) ++ be 4 s.length.runCount ++ beInt 2 s.length.speed ++ be 1 s.lots.activeTag ++
      be 1 s.hold.own.toNat ++ be 1 (wireCode s.hold.observed) ++
      be 1 s.hold.holders.length ++ s.hold.holders.flatMap (fun h => be 1 h.station ++ be 1 h.reasons.toNat) ++
      [if s.hold.uncounted then 1 else 0] ++
      [if s.hold.observed = .held ∧ s.hold.own = 0 ∧ s.hold.holders = [] then 1 else 0] ++
      be 1 (builderCode s.builder.state) ++ be 1 (portCode s.port.state) ++ be 1 s.port.score ++
      be 3 s.link.latched.toNat ++ be 3 s.link.enabled.toNat) ∧
  (∀ (s : State) (p : Params Nat), p = s.lots.effective.getD s.profile.base → lotUnitBytes s =
    be 1 s.lots.activeTag ++ [if s.lots.unknown then 1 else 0] ++
      be 1 s.lots.table.length ++ s.lots.table.flatMap (fun r => be 1 r.tag) ++
      be 2 p.nominalLay ++ be 1 p.tolerance ++ be 2 p.stopTolerance ++ be 1 p.windowTwists ++ be 1 p.faultWindows ++
      be 1 p.settleTurns ++ be 1 p.trimGain ++ be 2 p.rowPitch ++ be 1 p.knotStopCount ++ be 1 p.brokenTwineRows ++
      be 2 p.stretch ++ be 1 p.spliceLimitA ++ be 1 p.spliceLimitB ++ be 2 p.densityLimitA ++ be 2 p.densityLimitB ++
      be 1 p.shortLimit) ∧
  (∀ m : Mark, markRecordBytes m =
    be 4 m.position ++ be 3 m.span ++ be 1 (m.kind.code * 16 + m.hops) ++ be 1 m.lotTag ++
      be 1 m.origin.station ++ be 2 m.origin.serial ++ be 2 m.detail.toNat ++
      be 1 (match m.source with | .here => 0 | .feed i => i + 1) ++
      be 1 ((if m.flags.late then 1 else 0) + (if m.flags.clamped then 2 else 0) +
        (if m.flags.spanClamped then 4 else 0))) ∧
  (∀ i : LossInterval, lossBytes i =
    be 1 ((if i.high.isSome then 1 else 0) + (if i.feed.isSome then 2 else 0)) ++ be 4 i.low ++
      be 4 (i.high.getD 0) ++ be 1 (lossCode i.cause) ++ be 1 (i.feed.getD 0)) ∧
  (∀ e : FeedEntry, feedBytes e =
    be 1 ((if e.prevStamp.isSome then 1 else 0) + (if e.expectedSerial.isSome then 2 else 0)) ++ be 1 e.sender ++
      be 3 e.path ++ be 3 e.ratio ++ be 2 e.timeout ++ be 3 e.reach ++ be 1 (feedCode e.state) ++ be 4 e.lastLocal ++
      be 4 (e.prevStamp.getD 0) ++ be 1 (e.expectedSerial.getD 0) ++ be 1 e.senderLot ++ beInt 2 e.senderSpeed ++
      be 1 e.senderHold.toNat ++ [if e.silenceSince.isSome then 1 else 0]) ∧
  (∀ (c : Coil) (standing : Bool) (x : Int), x = (c.closing.bind Closing.boundaryOffset).getD 0 →
    -2147483648 ≤ x → x ≤ 2147483647 → coilBytes c standing =
    be 2 c.serial ++ be 1 c.lotTag ++ be 1 c.package ++
      be 1 ((if c.planned.isSome then 1 else 0) + (if (c.closing.bind Closing.boundaryOffset).isSome then 2 else 0) +
        (if c.closing.isSome then 4 else 0) + (if standing then 8 else 0)) ++
      be 4 c.start ++ be 4 ((c.closing.map Closing.endAt).getD 0) ++ be 4 ((c.closing.map Closing.runLength).getD 0) ++
      be 4 ((c.closing.map Closing.relaxed).getD 0) ++ be 4 c.target ++ be 4 (c.planned.getD 0) ++
      be 1 ((c.closing.map fun k => k.causes.toNat).getD 0) ++ beInt 4 x ++
      be 1 ((if c.flags.incomplete then 1 else 0) + (if c.flags.short then 2 else 0) +
        (if c.flags.lateCut then 4 else 0) + (if c.flags.confirmed then 8 else 0)) ++
      be 2 c.splices ++ be 2 c.gauges ++ be 4 c.faultTotal ++
      be 1 ((c.closing.map fun k => gradeCode k.grade).getD 0) ++ be 2 c.unlisted ++
      be 1 c.events.length ++ c.events.flatMap (fun e =>
        be 1 e.kind.code ++ be 4 e.offset ++ be 4 e.span ++ be 1 e.origin.station ++ be 2 e.origin.serial ++
          be 2 e.detail.toNat ++
          be 1 ((if e.flags.late then 1 else 0) + (if e.flags.carried then 2 else 0) +
            (if e.flags.truncated then 4 else 0) + (if e.flags.absorbed then 8 else 0) +
            (if e.flags.void then 16 else 0) + (if e.flags.clamped then 32 else 0)))) ∧
  (∀ (r : LotRecord) (p : Params (Option Nat)) (bit : Option Nat → Nat → Nat), p = r.params →
    bit = (fun v n => if v.isSome then 2 ^ n else 0) → lotBytes r =
    be 1 r.tag ++
      be 2 (bit p.nominalLay 0 + bit p.tolerance 1 + bit p.stopTolerance 2 + bit p.windowTwists 3 +
        bit p.faultWindows 4 + bit p.settleTurns 5 + bit p.trimGain 6 + bit p.rowPitch 7 + bit p.knotStopCount 8 +
        bit p.brokenTwineRows 9 + bit p.stretch 10 + bit p.spliceLimitA 11 + bit p.spliceLimitB 12 +
        bit p.densityLimitA 13 + bit p.densityLimitB 14 + bit p.shortLimit 15) ++
      be 2 (p.nominalLay.getD 0) ++ be 1 (p.tolerance.getD 0) ++ be 2 (p.stopTolerance.getD 0) ++
      be 1 (p.windowTwists.getD 0) ++ be 1 (p.faultWindows.getD 0) ++ be 1 (p.settleTurns.getD 0) ++
      be 1 (p.trimGain.getD 0) ++ be 2 (p.rowPitch.getD 0) ++ be 1 (p.knotStopCount.getD 0) ++
      be 1 (p.brokenTwineRows.getD 0) ++ be 2 (p.stretch.getD 0) ++ be 1 (p.spliceLimitA.getD 0) ++
      be 1 (p.spliceLimitB.getD 0) ++ be 2 (p.densityLimitA.getD 0) ++ be 2 (p.densityLimitB.getD 0) ++
      be 1 (p.shortLimit.getD 0)) ∧
  (∀ k : KnotMonitor, knotBytes k =
    be 1 ((if k.state = .firstRow then 1 else 0) + (if k.working.isSome then 2 else 0) +
        (if k.faultRun.isSome then 4 else 0)) ++
      be 1 (knotCode k.state) ++ be 1 (if k.state = .firstRow then firstRowCode k.cause else 0) ++
      (match k.working with
        | some w => be 1 w.stopCount ++ be 1 w.brokenRows
        | none => [0, 0]) ++
      (match k.faultRun with
        | some r => be 4 r.start ++ be 4 r.finish ++ be 1 r.rows ++ be 2 r.total ++ be 2 r.firstSerial
        | none => List.replicate 13 0) ++
      be 1 k.sections.length ++
      k.sections.flatMap (fun c => be 1 c.input ++ be 1 c.expected ++ be 1 c.count ++ be 1 c.misses ++ be 1 c.noise)) ∧
  (∀ (k : KnotMonitor) (r : RowSummary),
    rowHeadBytes k = be 1 (if k.stopRecord.isSome then 1 else 0) ++ be 1 k.history.length ++ be 2 k.rowSerial ++
      (match k.stopRecord with
        | some stop => be 1 (if stop.broken.isSome then 1 else 0) ++ be 2 stop.serial ++ be 2 stop.total ++
            [if stop.totalFailed then 1 else 0] ++ be 1 (stop.broken.getD 0)
        | none => List.replicate 7 0) ∧
    summaryBytes r = be 2 r.serial ++ be 4 r.start ++ [if r.idle then 1 else 0] ++
      be 1 r.missing.length ++ r.missing.flatMap (be 1) ++ be 2 r.total ++ be 4 r.noisy.toNat) ∧
  [StationState.openState, .running].map stationCode = [0, 1] ∧ [WireState.running, .held].map wireCode = [0, 1] ∧
  [BuilderState.off, .building, .cutDue, .cutting, .cutFailed].map builderCode = [0, 1, 2, 3, 4] ∧
  [PortState.silent, .listen, .active, .muted].map portCode = [0, 1, 2, 3] ∧
  [FeedState.unheard, .heard, .lost].map feedCode = [0, 1, 2] ∧
  [LossCause.feedLost, .gap, .refused, .evicted, .relayed].map lossCode = [0, 1, 2, 3, 4] ∧
  [KnotState.off, .firstRow, .counting].map knotCode = [0, 1, 2] ∧
  [FirstRowCause.start, .lot].map firstRowCode = [0, 1] ∧ [Grade.a, .b, .c, .hold].map gradeCode = [0, 1, 2, 3]

/-- RESTART RUN is refused in OPEN, while a cut is in progress, and with a full log and a builder at work, and otherwise
starts a new run at 0: the old coil closes by RESTART at the count found, its plan entry is charged, and the next opens at 0
with the faults carried; waiting marks are discarded and counted; a gauge run opens again at 0 where its input is active;
the loss list is emptied but for an OPEN interval at r for each LOST feed; the lay monitor settles or is suspended by the
wire; queued MARK notices keep their distance by the stamp shift, every other notice, the turn, the serials and the tallies
being kept; COUNT_LIMIT goes; and lots, hold wire, profile and the plan but for that charge stay (R17, R27, R50, R69, R88,
R105, R118, R133, R140, R152, R157, R167, R185). The layout of the reply, with the presence of the closed coil's serial
first, is the model's choice (entry 19); so is the order of intervals of equal r, of which nothing is said here
(entry 40). -/
def Obligations.RestartRunBeginsANewRun : Prop :=
  ∀ (fill : Nat) (s : State),
    (s.station = .openState ∨ s.builder.state = .cutDue ∨ s.builder.state = .cutting ∨
        s.builder.state = .cutFailed →
      ∃ t, exec (.restartRun fill) s = .next t ∧ Answers (3 + fill) (bare .wrongState) s t ∧
        SameOutside [.link] s t) ∧
    (s.station = .running → s.builder.state = .building → 8 ≤ s.builder.log.length →
      ∃ t, exec (.restartRun fill) s = .next t ∧ Answers (3 + fill) (bare .full) s t ∧
        SameOutside [.link] s t) ∧
    (s.station = .running → s.builder.state = .off ∨ (s.builder.state = .building ∧ s.builder.log.length < 8) →
      ∃ t, exec (.restartRun fill) s = .next t ∧
        t.length = { s.length with runCount := 0, fraction := 0, saturated := false, speed := 0, sampleBase := 0 } ∧
        (∀ i < 32, senseInput t i = { senseInput s i with
          gauge := if (assignment s.profile i).service = .gauge ∧
              (((assignment s.profile i).detection = .high ∧ (senseInput s i).filtered = some true) ∨
                ((assignment s.profile i).detection = .low ∧ (senseInput s i).filtered = some false))
            then some { start := 0, byCap := false } else none }) ∧
        t.sense = { s.sense with inputs := t.sense.inputs } ∧
        t.marks = { s.marks with
          marks := [], discarded := min (s.marks.discarded + s.marks.marks.length) 65535 } ∧
        t.feeds = { s.feeds with
          table := s.feeds.table.map (fun e => { e with lastLocal := 0 }), losses := t.feeds.losses } ∧
        (∀ j, j ∈ t.feeds.losses ↔ ∃ i e, s.feeds.table[i]? = some e ∧ e.state = .lost ∧
          j = { low := min e.reach maxCount, high := none, cause := .feedLost, feed := some i }) ∧
        t.feeds.losses.length = s.feeds.table.countP (fun e => decide (e.state = .lost)) ∧
        t.feeds.losses.Pairwise (fun a b => a.low ≤ b.low) ∧
        (s.lay.state = .off → t.lay = s.lay) ∧
        (s.lay.state ≠ .off → s.hold.observed = .held → t.lay = { s.lay with
          state := .suspended, settleCount := 0, window := none, faultRun := none, trimCorrection := 0 }) ∧
        (∀ w, s.lay.state ≠ .off → s.hold.observed = .running → s.lay.working = some w →
          (0 < w.settleTurns → t.lay = { s.lay with
            state := .settling, settleCount := 0, window := none, faultRun := none, trimCorrection := 0 }) ∧
          (w.settleTurns = 0 → t.lay = { s.lay with
            state := .measuring, settleCount := 0, window := some { start := 0, twists := 0 }, faultRun := none
            trimCorrection := 0 })) ∧
        (s.knot.state = .off → t.knot = s.knot) ∧
        (s.knot.state ≠ .off → t.knot = { s.knot with
          state := .firstRow, cause := .start, faultRun := none
          sections := s.knot.sections.map fun c => { c with count := 0, misses := 0 } }) ∧
        (∀ shifted : Queued → Queued,
          shifted = (fun q => { q with shift := min (q.shift + s.length.runCount) maxCount }) →
          reasonsBecome (s.hold.own &&& ~~~64#7) (s.withPort { s.port with
            class1 := s.port.class1.map shifted, own := s.port.own.map shifted
            forwarded := s.port.forwarded.map shifted }) t) ∧
        (s.builder.state = .off → s.builder.current = none → t.builder = s.builder ∧
          Answers (3 + fill) (done ([0] ++ be 4 s.length.runCount ++ be 2 0)) s t) ∧
        (∀ cur, s.builder.state = .building → s.builder.current = some cur →
          (∃ c, t.builder.log = s.builder.log ++ [c] ∧ closedAs s cur 32#6 false false c) ∧
          (∃ next, opensAfter s t cur next s.length.runCount 0 ∧ looksAtPlan s t next ∧
            t.builder = { s.builder with
              plan := planAfterClose cur 32#6 s.builder.plan, current := some next, sequence := none
              outstanding := none, log := t.builder.log
              nextSerial := if s.builder.nextSerial = 65535 then 1 else s.builder.nextSerial + 1 }) ∧
          hasCondition .coilReady t.link.latched = true ∧
          Replies (3 + fill) (done ([1] ++ be 4 s.length.runCount ++ be 2 cur.record.serial)) s t) ∧
        SameOutside [.length, .sense, .marks, .feeds, .lay, .knot, .builder, .hold, .port, .link] s t)

/-- A command frame reads back as the command it was written from, with every argument at every value its field admits,
a frame that is not taken as itself (R179, R186, R189, R190). -/
def Obligations.LinkFrameReadsBack : Prop :=
  ∀ (i : Instr) (bytes : List Byte), i.wellFormed = true → encodeLinkFrame i = some bytes →
    decodeLinkFrame bytes = i

/-- A command answered with any code but DONE changes nothing outside the reply buffer and the lost-reply tally, and in
OPEN the commands that change working state are answered WRONG_STATE (12.2, R175). -/
def Obligations.RefusedCommandsChangeNothing : Prop :=
  (∀ (c : Instr) (s t : State), isHostCommand c = true → exec c s = .next t → replyCode t ≠ some .done →
    SameOutside [.link] s t ∧ t.link.latched = s.link.latched ∧ t.link.enabled = s.link.enabled ∧
      t.link.badFrames = s.link.badFrames) ∧
  (∀ (record : LotRecord) (a b c' d fill : Nat) (c : Instr) (s : State), s.station = .openState →
    c ∈ [.lotLoad record fill, .lotDrop a fill, .lotStart a fill, .planAppend a b c' d fill, .planClear fill,
      .cutOrder fill, .cutRetry fill, .cutConfirm fill, .markPlace a b c' fill, .hold fill, .release fill,
      .stopAck fill, .restartRun fill] →
    ∃ t, exec c s = .next t ∧ replyCode t = some .wrongState ∧ SameOutside [.link] s t)

/-- The laws of the collections and of the trim: 32 inputs and 4 feed slots, the lot table in order of tag within its 8
places, the plan within 32, the holder list within 16 with no station twice, the row history within 16, and the trim
correction and high time in their ranges (R86, R87, R90, R107, R119, R147). -/
def Obligations.PlacesAndTrimLawIsKept : Prop :=
  ∀ s t : State, PlacesLaw s → TrimLaw s → step s = .next t → PlacesLaw t ∧ TrimLaw t

end
end

