-- ==== Sys2Proof/Laws/Bytes.lean ====
section
/-! SUPPORT. Bytes and bits: lengths, and that what is written is what is read (R153, R186). -/

namespace Sys2Proof.Machine

@[simp] theorem be_length (w n : Nat) : (be w n).length = w := by
  induction w with
  | zero => rfl
  | succ w ih => simp [be, ih]

@[simp] theorem bitsOf_length (w n : Nat) : (bitsOf w n).length = w := by
  induction w with
  | zero => rfl
  | succ w ih => simp [bitsOf, ih]

@[simp] theorem takeBits_length (w : Nat) (bits : List Bool) : (takeBits w bits).length = w := by
  induction w generalizing bits with
  | zero => rfl
  | succ w ih => cases bits <;> simp [takeBits, ih]

@[simp] theorem takeBytes_length (k : Nat) (bits : List Bool) : (takeBytes k bits).length = k := by
  induction k generalizing bits with
  | zero => rfl
  | succ k ih => simp [takeBytes, ih]

@[simp] theorem byteBits_length (bytes : List Byte) : (byteBits bytes).length = 8 * bytes.length := by
  induction bytes with
  | nil => rfl
  | cons b rest ih =>
    simp only [byteBits, List.flatMap_cons, List.length_append, bitsOf_length, List.length_cons] at ih ⊢
    omega

/-- Reading the whole of a written front gives it back. -/
theorem takeBits_append (front rest : List Bool) : takeBits front.length (front ++ rest) = front := by
  induction front with
  | nil => rfl
  | cons b front ih => simp [takeBits, ih]

/-- A number is its quotient and remainder by a byte's place. -/
theorem ofBe_append (front rest : List Byte) : ofBe (front ++ rest) = ofBe front * 256 ^ rest.length + ofBe rest := by
  induction rest using List.reverseRecOn with
  | nil => simp [ofBe]
  | append_singleton rest b ih =>
    rw [← List.append_assoc]
    simp only [ofBe, List.foldl_append, List.foldl_cons, List.foldl_nil, List.length_append, List.length_cons,
      List.length_nil] at ih ⊢
    rw [pow_succ, ih]
    ring

/-- The bytes of a number write it, if it fits them (R186). -/
theorem ofBe_be (w n : Nat) (h : n < 256 ^ w) : ofBe (be w n) = n := by
  induction w generalizing n with
  | zero => simp at h; simp [be, ofBe, h]
  | succ w ih =>
    have split : be (w + 1) n = [BitVec.ofNat 8 (n / 256 ^ w)] ++ be w n := rfl
    have low : be w n = be w (n % 256 ^ w) := by
      clear ih h split
      have : ∀ v ≤ w, be v n = be v (n % 256 ^ w) := by
        intro v hv
        induction v with
        | zero => rfl
        | succ v ih =>
          have place : n / 256 ^ v % 256 = n % 256 ^ w / 256 ^ v % 256 := by
            obtain ⟨d, rfl⟩ := Nat.exists_eq_add_of_le hv
            rw [show v + 1 + d = v + (d + 1) by omega, pow_add, Nat.mod_mul_right_div_self, pow_succ, Nat.mul_comm]
            exact (Nat.mod_mul_right_mod _ 256 (256 ^ d)).symm
          rw [be, be, ih (by omega)]
          congr 1
          apply BitVec.eq_of_toNat_eq
          simpa using place
      exact this w le_rfl
    have top : n / 256 ^ w < 256 := by
      rw [Nat.div_lt_iff_lt_mul (Nat.pow_pos (by decide)), ← pow_succ']
      exact h
    rw [split, ofBe_append, low, ih _ (Nat.mod_lt _ (Nat.pow_pos (by decide))), be_length]
    have digit : ofBe [BitVec.ofNat 8 (n / 256 ^ w)] = n / 256 ^ w := by
      simp [ofBe, Nat.mod_eq_of_lt top]
    rw [digit, Nat.mul_comm]
    exact Nat.div_add_mod n (256 ^ w)

/-- Bits read after others stand below them. -/
theorem ofBits_append (front rest : List Bool) : ofBits (front ++ rest) = ofBits front * 2 ^ rest.length + ofBits rest := by
  induction rest using List.reverseRecOn with
  | nil => simp [ofBits]
  | append_singleton rest b ih =>
    rw [← List.append_assoc]
    simp only [ofBits, List.foldl_append, List.foldl_cons, List.foldl_nil, List.length_append, List.length_cons,
      List.length_nil] at ih ⊢
    rw [pow_succ, ih]
    ring

/-- The bits of a number write it modulo their width (R153). -/
theorem ofBits_bitsOf (w n : Nat) : ofBits (bitsOf w n) = n % 2 ^ w := by
  induction w with
  | zero => simp [bitsOf, ofBits, Nat.mod_one]
  | succ w ih =>
    have step : bitsOf (w + 1) n = [n.testBit w] ++ bitsOf w n := rfl
    rw [step, ofBits_append, ih, bitsOf_length, Nat.mod_pow_succ, ← Nat.toNat_testBit]
    simp [ofBits]
    ring

end Sys2Proof.Machine
end

