-- ==== Sys2Proof/Laws/State.lean ====
section
/-! SUPPORT. Reading a block after another has been replaced: one lemma for each field and each update of `State`. -/

namespace Sys2Proof.Machine

@[simp] theorem State.withStation_station (s : State) (v : StationState) : (s.withStation v).station = v := rfl
@[simp] theorem State.withStation_profile (s : State) (v : StationState) : (s.withStation v).profile = s.profile := rfl
@[simp] theorem State.withStation_pins (s : State) (v : StationState) : (s.withStation v).pins = s.pins := rfl
@[simp] theorem State.withStation_now (s : State) (v : StationState) : (s.withStation v).now = s.now := rfl
@[simp] theorem State.withStation_length (s : State) (v : StationState) : (s.withStation v).length = s.length := rfl
@[simp] theorem State.withStation_sense (s : State) (v : StationState) : (s.withStation v).sense = s.sense := rfl
@[simp] theorem State.withStation_marks (s : State) (v : StationState) : (s.withStation v).marks = s.marks := rfl
@[simp] theorem State.withStation_feeds (s : State) (v : StationState) : (s.withStation v).feeds = s.feeds := rfl
@[simp] theorem State.withStation_lay (s : State) (v : StationState) : (s.withStation v).lay = s.lay := rfl
@[simp] theorem State.withStation_trim (s : State) (v : StationState) : (s.withStation v).trim = s.trim := rfl
@[simp] theorem State.withStation_knot (s : State) (v : StationState) : (s.withStation v).knot = s.knot := rfl
@[simp] theorem State.withStation_lots (s : State) (v : StationState) : (s.withStation v).lots = s.lots := rfl
@[simp] theorem State.withStation_builder (s : State) (v : StationState) : (s.withStation v).builder = s.builder := rfl
@[simp] theorem State.withStation_hold (s : State) (v : StationState) : (s.withStation v).hold = s.hold := rfl
@[simp] theorem State.withStation_port (s : State) (v : StationState) : (s.withStation v).port = s.port := rfl
@[simp] theorem State.withStation_link (s : State) (v : StationState) : (s.withStation v).link = s.link := rfl
@[simp] theorem State.withStation_orders (s : State) (v : StationState) : (s.withStation v).orders = s.orders := rfl
@[simp] theorem State.withStation_pending (s : State) (v : StationState) : (s.withStation v).pending = s.pending := rfl

@[simp] theorem State.withProfile_station (s : State) (v : Profile) : (s.withProfile v).station = s.station := rfl
@[simp] theorem State.withProfile_profile (s : State) (v : Profile) : (s.withProfile v).profile = v := rfl
@[simp] theorem State.withProfile_pins (s : State) (v : Profile) : (s.withProfile v).pins = s.pins := rfl
@[simp] theorem State.withProfile_now (s : State) (v : Profile) : (s.withProfile v).now = s.now := rfl
@[simp] theorem State.withProfile_length (s : State) (v : Profile) : (s.withProfile v).length = s.length := rfl
@[simp] theorem State.withProfile_sense (s : State) (v : Profile) : (s.withProfile v).sense = s.sense := rfl
@[simp] theorem State.withProfile_marks (s : State) (v : Profile) : (s.withProfile v).marks = s.marks := rfl
@[simp] theorem State.withProfile_feeds (s : State) (v : Profile) : (s.withProfile v).feeds = s.feeds := rfl
@[simp] theorem State.withProfile_lay (s : State) (v : Profile) : (s.withProfile v).lay = s.lay := rfl
@[simp] theorem State.withProfile_trim (s : State) (v : Profile) : (s.withProfile v).trim = s.trim := rfl
@[simp] theorem State.withProfile_knot (s : State) (v : Profile) : (s.withProfile v).knot = s.knot := rfl
@[simp] theorem State.withProfile_lots (s : State) (v : Profile) : (s.withProfile v).lots = s.lots := rfl
@[simp] theorem State.withProfile_builder (s : State) (v : Profile) : (s.withProfile v).builder = s.builder := rfl
@[simp] theorem State.withProfile_hold (s : State) (v : Profile) : (s.withProfile v).hold = s.hold := rfl
@[simp] theorem State.withProfile_port (s : State) (v : Profile) : (s.withProfile v).port = s.port := rfl
@[simp] theorem State.withProfile_link (s : State) (v : Profile) : (s.withProfile v).link = s.link := rfl
@[simp] theorem State.withProfile_orders (s : State) (v : Profile) : (s.withProfile v).orders = s.orders := rfl
@[simp] theorem State.withProfile_pending (s : State) (v : Profile) : (s.withProfile v).pending = s.pending := rfl

@[simp] theorem State.withPins_station (s : State) (v : Pins) : (s.withPins v).station = s.station := rfl
@[simp] theorem State.withPins_profile (s : State) (v : Pins) : (s.withPins v).profile = s.profile := rfl
@[simp] theorem State.withPins_pins (s : State) (v : Pins) : (s.withPins v).pins = v := rfl
@[simp] theorem State.withPins_now (s : State) (v : Pins) : (s.withPins v).now = s.now := rfl
@[simp] theorem State.withPins_length (s : State) (v : Pins) : (s.withPins v).length = s.length := rfl
@[simp] theorem State.withPins_sense (s : State) (v : Pins) : (s.withPins v).sense = s.sense := rfl
@[simp] theorem State.withPins_marks (s : State) (v : Pins) : (s.withPins v).marks = s.marks := rfl
@[simp] theorem State.withPins_feeds (s : State) (v : Pins) : (s.withPins v).feeds = s.feeds := rfl
@[simp] theorem State.withPins_lay (s : State) (v : Pins) : (s.withPins v).lay = s.lay := rfl
@[simp] theorem State.withPins_trim (s : State) (v : Pins) : (s.withPins v).trim = s.trim := rfl
@[simp] theorem State.withPins_knot (s : State) (v : Pins) : (s.withPins v).knot = s.knot := rfl
@[simp] theorem State.withPins_lots (s : State) (v : Pins) : (s.withPins v).lots = s.lots := rfl
@[simp] theorem State.withPins_builder (s : State) (v : Pins) : (s.withPins v).builder = s.builder := rfl
@[simp] theorem State.withPins_hold (s : State) (v : Pins) : (s.withPins v).hold = s.hold := rfl
@[simp] theorem State.withPins_port (s : State) (v : Pins) : (s.withPins v).port = s.port := rfl
@[simp] theorem State.withPins_link (s : State) (v : Pins) : (s.withPins v).link = s.link := rfl
@[simp] theorem State.withPins_orders (s : State) (v : Pins) : (s.withPins v).orders = s.orders := rfl
@[simp] theorem State.withPins_pending (s : State) (v : Pins) : (s.withPins v).pending = s.pending := rfl

@[simp] theorem State.withNow_station (s : State) (v : Nat) : (s.withNow v).station = s.station := rfl
@[simp] theorem State.withNow_profile (s : State) (v : Nat) : (s.withNow v).profile = s.profile := rfl
@[simp] theorem State.withNow_pins (s : State) (v : Nat) : (s.withNow v).pins = s.pins := rfl
@[simp] theorem State.withNow_now (s : State) (v : Nat) : (s.withNow v).now = v := rfl
@[simp] theorem State.withNow_length (s : State) (v : Nat) : (s.withNow v).length = s.length := rfl
@[simp] theorem State.withNow_sense (s : State) (v : Nat) : (s.withNow v).sense = s.sense := rfl
@[simp] theorem State.withNow_marks (s : State) (v : Nat) : (s.withNow v).marks = s.marks := rfl
@[simp] theorem State.withNow_feeds (s : State) (v : Nat) : (s.withNow v).feeds = s.feeds := rfl
@[simp] theorem State.withNow_lay (s : State) (v : Nat) : (s.withNow v).lay = s.lay := rfl
@[simp] theorem State.withNow_trim (s : State) (v : Nat) : (s.withNow v).trim = s.trim := rfl
@[simp] theorem State.withNow_knot (s : State) (v : Nat) : (s.withNow v).knot = s.knot := rfl
@[simp] theorem State.withNow_lots (s : State) (v : Nat) : (s.withNow v).lots = s.lots := rfl
@[simp] theorem State.withNow_builder (s : State) (v : Nat) : (s.withNow v).builder = s.builder := rfl
@[simp] theorem State.withNow_hold (s : State) (v : Nat) : (s.withNow v).hold = s.hold := rfl
@[simp] theorem State.withNow_port (s : State) (v : Nat) : (s.withNow v).port = s.port := rfl
@[simp] theorem State.withNow_link (s : State) (v : Nat) : (s.withNow v).link = s.link := rfl
@[simp] theorem State.withNow_orders (s : State) (v : Nat) : (s.withNow v).orders = s.orders := rfl
@[simp] theorem State.withNow_pending (s : State) (v : Nat) : (s.withNow v).pending = s.pending := rfl

@[simp] theorem State.withLength_station (s : State) (v : LengthUnit) : (s.withLength v).station = s.station := rfl
@[simp] theorem State.withLength_profile (s : State) (v : LengthUnit) : (s.withLength v).profile = s.profile := rfl
@[simp] theorem State.withLength_pins (s : State) (v : LengthUnit) : (s.withLength v).pins = s.pins := rfl
@[simp] theorem State.withLength_now (s : State) (v : LengthUnit) : (s.withLength v).now = s.now := rfl
@[simp] theorem State.withLength_length (s : State) (v : LengthUnit) : (s.withLength v).length = v := rfl
@[simp] theorem State.withLength_sense (s : State) (v : LengthUnit) : (s.withLength v).sense = s.sense := rfl
@[simp] theorem State.withLength_marks (s : State) (v : LengthUnit) : (s.withLength v).marks = s.marks := rfl
@[simp] theorem State.withLength_feeds (s : State) (v : LengthUnit) : (s.withLength v).feeds = s.feeds := rfl
@[simp] theorem State.withLength_lay (s : State) (v : LengthUnit) : (s.withLength v).lay = s.lay := rfl
@[simp] theorem State.withLength_trim (s : State) (v : LengthUnit) : (s.withLength v).trim = s.trim := rfl
@[simp] theorem State.withLength_knot (s : State) (v : LengthUnit) : (s.withLength v).knot = s.knot := rfl
@[simp] theorem State.withLength_lots (s : State) (v : LengthUnit) : (s.withLength v).lots = s.lots := rfl
@[simp] theorem State.withLength_builder (s : State) (v : LengthUnit) : (s.withLength v).builder = s.builder := rfl
@[simp] theorem State.withLength_hold (s : State) (v : LengthUnit) : (s.withLength v).hold = s.hold := rfl
@[simp] theorem State.withLength_port (s : State) (v : LengthUnit) : (s.withLength v).port = s.port := rfl
@[simp] theorem State.withLength_link (s : State) (v : LengthUnit) : (s.withLength v).link = s.link := rfl
@[simp] theorem State.withLength_orders (s : State) (v : LengthUnit) : (s.withLength v).orders = s.orders := rfl
@[simp] theorem State.withLength_pending (s : State) (v : LengthUnit) : (s.withLength v).pending = s.pending := rfl

@[simp] theorem State.withSense_station (s : State) (v : SenseUnit) : (s.withSense v).station = s.station := rfl
@[simp] theorem State.withSense_profile (s : State) (v : SenseUnit) : (s.withSense v).profile = s.profile := rfl
@[simp] theorem State.withSense_pins (s : State) (v : SenseUnit) : (s.withSense v).pins = s.pins := rfl
@[simp] theorem State.withSense_now (s : State) (v : SenseUnit) : (s.withSense v).now = s.now := rfl
@[simp] theorem State.withSense_length (s : State) (v : SenseUnit) : (s.withSense v).length = s.length := rfl
@[simp] theorem State.withSense_sense (s : State) (v : SenseUnit) : (s.withSense v).sense = v := rfl
@[simp] theorem State.withSense_marks (s : State) (v : SenseUnit) : (s.withSense v).marks = s.marks := rfl
@[simp] theorem State.withSense_feeds (s : State) (v : SenseUnit) : (s.withSense v).feeds = s.feeds := rfl
@[simp] theorem State.withSense_lay (s : State) (v : SenseUnit) : (s.withSense v).lay = s.lay := rfl
@[simp] theorem State.withSense_trim (s : State) (v : SenseUnit) : (s.withSense v).trim = s.trim := rfl
@[simp] theorem State.withSense_knot (s : State) (v : SenseUnit) : (s.withSense v).knot = s.knot := rfl
@[simp] theorem State.withSense_lots (s : State) (v : SenseUnit) : (s.withSense v).lots = s.lots := rfl
@[simp] theorem State.withSense_builder (s : State) (v : SenseUnit) : (s.withSense v).builder = s.builder := rfl
@[simp] theorem State.withSense_hold (s : State) (v : SenseUnit) : (s.withSense v).hold = s.hold := rfl
@[simp] theorem State.withSense_port (s : State) (v : SenseUnit) : (s.withSense v).port = s.port := rfl
@[simp] theorem State.withSense_link (s : State) (v : SenseUnit) : (s.withSense v).link = s.link := rfl
@[simp] theorem State.withSense_orders (s : State) (v : SenseUnit) : (s.withSense v).orders = s.orders := rfl
@[simp] theorem State.withSense_pending (s : State) (v : SenseUnit) : (s.withSense v).pending = s.pending := rfl

@[simp] theorem State.withMarks_station (s : State) (v : MarkList) : (s.withMarks v).station = s.station := rfl
@[simp] theorem State.withMarks_profile (s : State) (v : MarkList) : (s.withMarks v).profile = s.profile := rfl
@[simp] theorem State.withMarks_pins (s : State) (v : MarkList) : (s.withMarks v).pins = s.pins := rfl
@[simp] theorem State.withMarks_now (s : State) (v : MarkList) : (s.withMarks v).now = s.now := rfl
@[simp] theorem State.withMarks_length (s : State) (v : MarkList) : (s.withMarks v).length = s.length := rfl
@[simp] theorem State.withMarks_sense (s : State) (v : MarkList) : (s.withMarks v).sense = s.sense := rfl
@[simp] theorem State.withMarks_marks (s : State) (v : MarkList) : (s.withMarks v).marks = v := rfl
@[simp] theorem State.withMarks_feeds (s : State) (v : MarkList) : (s.withMarks v).feeds = s.feeds := rfl
@[simp] theorem State.withMarks_lay (s : State) (v : MarkList) : (s.withMarks v).lay = s.lay := rfl
@[simp] theorem State.withMarks_trim (s : State) (v : MarkList) : (s.withMarks v).trim = s.trim := rfl
@[simp] theorem State.withMarks_knot (s : State) (v : MarkList) : (s.withMarks v).knot = s.knot := rfl
@[simp] theorem State.withMarks_lots (s : State) (v : MarkList) : (s.withMarks v).lots = s.lots := rfl
@[simp] theorem State.withMarks_builder (s : State) (v : MarkList) : (s.withMarks v).builder = s.builder := rfl
@[simp] theorem State.withMarks_hold (s : State) (v : MarkList) : (s.withMarks v).hold = s.hold := rfl
@[simp] theorem State.withMarks_port (s : State) (v : MarkList) : (s.withMarks v).port = s.port := rfl
@[simp] theorem State.withMarks_link (s : State) (v : MarkList) : (s.withMarks v).link = s.link := rfl
@[simp] theorem State.withMarks_orders (s : State) (v : MarkList) : (s.withMarks v).orders = s.orders := rfl
@[simp] theorem State.withMarks_pending (s : State) (v : MarkList) : (s.withMarks v).pending = s.pending := rfl

@[simp] theorem State.withFeeds_station (s : State) (v : FeedUnit) : (s.withFeeds v).station = s.station := rfl
@[simp] theorem State.withFeeds_profile (s : State) (v : FeedUnit) : (s.withFeeds v).profile = s.profile := rfl
@[simp] theorem State.withFeeds_pins (s : State) (v : FeedUnit) : (s.withFeeds v).pins = s.pins := rfl
@[simp] theorem State.withFeeds_now (s : State) (v : FeedUnit) : (s.withFeeds v).now = s.now := rfl
@[simp] theorem State.withFeeds_length (s : State) (v : FeedUnit) : (s.withFeeds v).length = s.length := rfl
@[simp] theorem State.withFeeds_sense (s : State) (v : FeedUnit) : (s.withFeeds v).sense = s.sense := rfl
@[simp] theorem State.withFeeds_marks (s : State) (v : FeedUnit) : (s.withFeeds v).marks = s.marks := rfl
@[simp] theorem State.withFeeds_feeds (s : State) (v : FeedUnit) : (s.withFeeds v).feeds = v := rfl
@[simp] theorem State.withFeeds_lay (s : State) (v : FeedUnit) : (s.withFeeds v).lay = s.lay := rfl
@[simp] theorem State.withFeeds_trim (s : State) (v : FeedUnit) : (s.withFeeds v).trim = s.trim := rfl
@[simp] theorem State.withFeeds_knot (s : State) (v : FeedUnit) : (s.withFeeds v).knot = s.knot := rfl
@[simp] theorem State.withFeeds_lots (s : State) (v : FeedUnit) : (s.withFeeds v).lots = s.lots := rfl
@[simp] theorem State.withFeeds_builder (s : State) (v : FeedUnit) : (s.withFeeds v).builder = s.builder := rfl
@[simp] theorem State.withFeeds_hold (s : State) (v : FeedUnit) : (s.withFeeds v).hold = s.hold := rfl
@[simp] theorem State.withFeeds_port (s : State) (v : FeedUnit) : (s.withFeeds v).port = s.port := rfl
@[simp] theorem State.withFeeds_link (s : State) (v : FeedUnit) : (s.withFeeds v).link = s.link := rfl
@[simp] theorem State.withFeeds_orders (s : State) (v : FeedUnit) : (s.withFeeds v).orders = s.orders := rfl
@[simp] theorem State.withFeeds_pending (s : State) (v : FeedUnit) : (s.withFeeds v).pending = s.pending := rfl

@[simp] theorem State.withLay_station (s : State) (v : LayMonitor) : (s.withLay v).station = s.station := rfl
@[simp] theorem State.withLay_profile (s : State) (v : LayMonitor) : (s.withLay v).profile = s.profile := rfl
@[simp] theorem State.withLay_pins (s : State) (v : LayMonitor) : (s.withLay v).pins = s.pins := rfl
@[simp] theorem State.withLay_now (s : State) (v : LayMonitor) : (s.withLay v).now = s.now := rfl
@[simp] theorem State.withLay_length (s : State) (v : LayMonitor) : (s.withLay v).length = s.length := rfl
@[simp] theorem State.withLay_sense (s : State) (v : LayMonitor) : (s.withLay v).sense = s.sense := rfl
@[simp] theorem State.withLay_marks (s : State) (v : LayMonitor) : (s.withLay v).marks = s.marks := rfl
@[simp] theorem State.withLay_feeds (s : State) (v : LayMonitor) : (s.withLay v).feeds = s.feeds := rfl
@[simp] theorem State.withLay_lay (s : State) (v : LayMonitor) : (s.withLay v).lay = v := rfl
@[simp] theorem State.withLay_trim (s : State) (v : LayMonitor) : (s.withLay v).trim = s.trim := rfl
@[simp] theorem State.withLay_knot (s : State) (v : LayMonitor) : (s.withLay v).knot = s.knot := rfl
@[simp] theorem State.withLay_lots (s : State) (v : LayMonitor) : (s.withLay v).lots = s.lots := rfl
@[simp] theorem State.withLay_builder (s : State) (v : LayMonitor) : (s.withLay v).builder = s.builder := rfl
@[simp] theorem State.withLay_hold (s : State) (v : LayMonitor) : (s.withLay v).hold = s.hold := rfl
@[simp] theorem State.withLay_port (s : State) (v : LayMonitor) : (s.withLay v).port = s.port := rfl
@[simp] theorem State.withLay_link (s : State) (v : LayMonitor) : (s.withLay v).link = s.link := rfl
@[simp] theorem State.withLay_orders (s : State) (v : LayMonitor) : (s.withLay v).orders = s.orders := rfl
@[simp] theorem State.withLay_pending (s : State) (v : LayMonitor) : (s.withLay v).pending = s.pending := rfl

@[simp] theorem State.withTrim_station (s : State) (v : TrimOutput) : (s.withTrim v).station = s.station := rfl
@[simp] theorem State.withTrim_profile (s : State) (v : TrimOutput) : (s.withTrim v).profile = s.profile := rfl
@[simp] theorem State.withTrim_pins (s : State) (v : TrimOutput) : (s.withTrim v).pins = s.pins := rfl
@[simp] theorem State.withTrim_now (s : State) (v : TrimOutput) : (s.withTrim v).now = s.now := rfl
@[simp] theorem State.withTrim_length (s : State) (v : TrimOutput) : (s.withTrim v).length = s.length := rfl
@[simp] theorem State.withTrim_sense (s : State) (v : TrimOutput) : (s.withTrim v).sense = s.sense := rfl
@[simp] theorem State.withTrim_marks (s : State) (v : TrimOutput) : (s.withTrim v).marks = s.marks := rfl
@[simp] theorem State.withTrim_feeds (s : State) (v : TrimOutput) : (s.withTrim v).feeds = s.feeds := rfl
@[simp] theorem State.withTrim_lay (s : State) (v : TrimOutput) : (s.withTrim v).lay = s.lay := rfl
@[simp] theorem State.withTrim_trim (s : State) (v : TrimOutput) : (s.withTrim v).trim = v := rfl
@[simp] theorem State.withTrim_knot (s : State) (v : TrimOutput) : (s.withTrim v).knot = s.knot := rfl
@[simp] theorem State.withTrim_lots (s : State) (v : TrimOutput) : (s.withTrim v).lots = s.lots := rfl
@[simp] theorem State.withTrim_builder (s : State) (v : TrimOutput) : (s.withTrim v).builder = s.builder := rfl
@[simp] theorem State.withTrim_hold (s : State) (v : TrimOutput) : (s.withTrim v).hold = s.hold := rfl
@[simp] theorem State.withTrim_port (s : State) (v : TrimOutput) : (s.withTrim v).port = s.port := rfl
@[simp] theorem State.withTrim_link (s : State) (v : TrimOutput) : (s.withTrim v).link = s.link := rfl
@[simp] theorem State.withTrim_orders (s : State) (v : TrimOutput) : (s.withTrim v).orders = s.orders := rfl
@[simp] theorem State.withTrim_pending (s : State) (v : TrimOutput) : (s.withTrim v).pending = s.pending := rfl

@[simp] theorem State.withKnot_station (s : State) (v : KnotMonitor) : (s.withKnot v).station = s.station := rfl
@[simp] theorem State.withKnot_profile (s : State) (v : KnotMonitor) : (s.withKnot v).profile = s.profile := rfl
@[simp] theorem State.withKnot_pins (s : State) (v : KnotMonitor) : (s.withKnot v).pins = s.pins := rfl
@[simp] theorem State.withKnot_now (s : State) (v : KnotMonitor) : (s.withKnot v).now = s.now := rfl
@[simp] theorem State.withKnot_length (s : State) (v : KnotMonitor) : (s.withKnot v).length = s.length := rfl
@[simp] theorem State.withKnot_sense (s : State) (v : KnotMonitor) : (s.withKnot v).sense = s.sense := rfl
@[simp] theorem State.withKnot_marks (s : State) (v : KnotMonitor) : (s.withKnot v).marks = s.marks := rfl
@[simp] theorem State.withKnot_feeds (s : State) (v : KnotMonitor) : (s.withKnot v).feeds = s.feeds := rfl
@[simp] theorem State.withKnot_lay (s : State) (v : KnotMonitor) : (s.withKnot v).lay = s.lay := rfl
@[simp] theorem State.withKnot_trim (s : State) (v : KnotMonitor) : (s.withKnot v).trim = s.trim := rfl
@[simp] theorem State.withKnot_knot (s : State) (v : KnotMonitor) : (s.withKnot v).knot = v := rfl
@[simp] theorem State.withKnot_lots (s : State) (v : KnotMonitor) : (s.withKnot v).lots = s.lots := rfl
@[simp] theorem State.withKnot_builder (s : State) (v : KnotMonitor) : (s.withKnot v).builder = s.builder := rfl
@[simp] theorem State.withKnot_hold (s : State) (v : KnotMonitor) : (s.withKnot v).hold = s.hold := rfl
@[simp] theorem State.withKnot_port (s : State) (v : KnotMonitor) : (s.withKnot v).port = s.port := rfl
@[simp] theorem State.withKnot_link (s : State) (v : KnotMonitor) : (s.withKnot v).link = s.link := rfl
@[simp] theorem State.withKnot_orders (s : State) (v : KnotMonitor) : (s.withKnot v).orders = s.orders := rfl
@[simp] theorem State.withKnot_pending (s : State) (v : KnotMonitor) : (s.withKnot v).pending = s.pending := rfl

@[simp] theorem State.withLots_station (s : State) (v : LotUnit) : (s.withLots v).station = s.station := rfl
@[simp] theorem State.withLots_profile (s : State) (v : LotUnit) : (s.withLots v).profile = s.profile := rfl
@[simp] theorem State.withLots_pins (s : State) (v : LotUnit) : (s.withLots v).pins = s.pins := rfl
@[simp] theorem State.withLots_now (s : State) (v : LotUnit) : (s.withLots v).now = s.now := rfl
@[simp] theorem State.withLots_length (s : State) (v : LotUnit) : (s.withLots v).length = s.length := rfl
@[simp] theorem State.withLots_sense (s : State) (v : LotUnit) : (s.withLots v).sense = s.sense := rfl
@[simp] theorem State.withLots_marks (s : State) (v : LotUnit) : (s.withLots v).marks = s.marks := rfl
@[simp] theorem State.withLots_feeds (s : State) (v : LotUnit) : (s.withLots v).feeds = s.feeds := rfl
@[simp] theorem State.withLots_lay (s : State) (v : LotUnit) : (s.withLots v).lay = s.lay := rfl
@[simp] theorem State.withLots_trim (s : State) (v : LotUnit) : (s.withLots v).trim = s.trim := rfl
@[simp] theorem State.withLots_knot (s : State) (v : LotUnit) : (s.withLots v).knot = s.knot := rfl
@[simp] theorem State.withLots_lots (s : State) (v : LotUnit) : (s.withLots v).lots = v := rfl
@[simp] theorem State.withLots_builder (s : State) (v : LotUnit) : (s.withLots v).builder = s.builder := rfl
@[simp] theorem State.withLots_hold (s : State) (v : LotUnit) : (s.withLots v).hold = s.hold := rfl
@[simp] theorem State.withLots_port (s : State) (v : LotUnit) : (s.withLots v).port = s.port := rfl
@[simp] theorem State.withLots_link (s : State) (v : LotUnit) : (s.withLots v).link = s.link := rfl
@[simp] theorem State.withLots_orders (s : State) (v : LotUnit) : (s.withLots v).orders = s.orders := rfl
@[simp] theorem State.withLots_pending (s : State) (v : LotUnit) : (s.withLots v).pending = s.pending := rfl

@[simp] theorem State.withBuilder_station (s : State) (v : CoilBuilder) : (s.withBuilder v).station = s.station := rfl
@[simp] theorem State.withBuilder_profile (s : State) (v : CoilBuilder) : (s.withBuilder v).profile = s.profile := rfl
@[simp] theorem State.withBuilder_pins (s : State) (v : CoilBuilder) : (s.withBuilder v).pins = s.pins := rfl
@[simp] theorem State.withBuilder_now (s : State) (v : CoilBuilder) : (s.withBuilder v).now = s.now := rfl
@[simp] theorem State.withBuilder_length (s : State) (v : CoilBuilder) : (s.withBuilder v).length = s.length := rfl
@[simp] theorem State.withBuilder_sense (s : State) (v : CoilBuilder) : (s.withBuilder v).sense = s.sense := rfl
@[simp] theorem State.withBuilder_marks (s : State) (v : CoilBuilder) : (s.withBuilder v).marks = s.marks := rfl
@[simp] theorem State.withBuilder_feeds (s : State) (v : CoilBuilder) : (s.withBuilder v).feeds = s.feeds := rfl
@[simp] theorem State.withBuilder_lay (s : State) (v : CoilBuilder) : (s.withBuilder v).lay = s.lay := rfl
@[simp] theorem State.withBuilder_trim (s : State) (v : CoilBuilder) : (s.withBuilder v).trim = s.trim := rfl
@[simp] theorem State.withBuilder_knot (s : State) (v : CoilBuilder) : (s.withBuilder v).knot = s.knot := rfl
@[simp] theorem State.withBuilder_lots (s : State) (v : CoilBuilder) : (s.withBuilder v).lots = s.lots := rfl
@[simp] theorem State.withBuilder_builder (s : State) (v : CoilBuilder) : (s.withBuilder v).builder = v := rfl
@[simp] theorem State.withBuilder_hold (s : State) (v : CoilBuilder) : (s.withBuilder v).hold = s.hold := rfl
@[simp] theorem State.withBuilder_port (s : State) (v : CoilBuilder) : (s.withBuilder v).port = s.port := rfl
@[simp] theorem State.withBuilder_link (s : State) (v : CoilBuilder) : (s.withBuilder v).link = s.link := rfl
@[simp] theorem State.withBuilder_orders (s : State) (v : CoilBuilder) : (s.withBuilder v).orders = s.orders := rfl
@[simp] theorem State.withBuilder_pending (s : State) (v : CoilBuilder) : (s.withBuilder v).pending = s.pending := rfl

@[simp] theorem State.withHold_station (s : State) (v : HoldUnit) : (s.withHold v).station = s.station := rfl
@[simp] theorem State.withHold_profile (s : State) (v : HoldUnit) : (s.withHold v).profile = s.profile := rfl
@[simp] theorem State.withHold_pins (s : State) (v : HoldUnit) : (s.withHold v).pins = s.pins := rfl
@[simp] theorem State.withHold_now (s : State) (v : HoldUnit) : (s.withHold v).now = s.now := rfl
@[simp] theorem State.withHold_length (s : State) (v : HoldUnit) : (s.withHold v).length = s.length := rfl
@[simp] theorem State.withHold_sense (s : State) (v : HoldUnit) : (s.withHold v).sense = s.sense := rfl
@[simp] theorem State.withHold_marks (s : State) (v : HoldUnit) : (s.withHold v).marks = s.marks := rfl
@[simp] theorem State.withHold_feeds (s : State) (v : HoldUnit) : (s.withHold v).feeds = s.feeds := rfl
@[simp] theorem State.withHold_lay (s : State) (v : HoldUnit) : (s.withHold v).lay = s.lay := rfl
@[simp] theorem State.withHold_trim (s : State) (v : HoldUnit) : (s.withHold v).trim = s.trim := rfl
@[simp] theorem State.withHold_knot (s : State) (v : HoldUnit) : (s.withHold v).knot = s.knot := rfl
@[simp] theorem State.withHold_lots (s : State) (v : HoldUnit) : (s.withHold v).lots = s.lots := rfl
@[simp] theorem State.withHold_builder (s : State) (v : HoldUnit) : (s.withHold v).builder = s.builder := rfl
@[simp] theorem State.withHold_hold (s : State) (v : HoldUnit) : (s.withHold v).hold = v := rfl
@[simp] theorem State.withHold_port (s : State) (v : HoldUnit) : (s.withHold v).port = s.port := rfl
@[simp] theorem State.withHold_link (s : State) (v : HoldUnit) : (s.withHold v).link = s.link := rfl
@[simp] theorem State.withHold_orders (s : State) (v : HoldUnit) : (s.withHold v).orders = s.orders := rfl
@[simp] theorem State.withHold_pending (s : State) (v : HoldUnit) : (s.withHold v).pending = s.pending := rfl

@[simp] theorem State.withPort_station (s : State) (v : BusPort) : (s.withPort v).station = s.station := rfl
@[simp] theorem State.withPort_profile (s : State) (v : BusPort) : (s.withPort v).profile = s.profile := rfl
@[simp] theorem State.withPort_pins (s : State) (v : BusPort) : (s.withPort v).pins = s.pins := rfl
@[simp] theorem State.withPort_now (s : State) (v : BusPort) : (s.withPort v).now = s.now := rfl
@[simp] theorem State.withPort_length (s : State) (v : BusPort) : (s.withPort v).length = s.length := rfl
@[simp] theorem State.withPort_sense (s : State) (v : BusPort) : (s.withPort v).sense = s.sense := rfl
@[simp] theorem State.withPort_marks (s : State) (v : BusPort) : (s.withPort v).marks = s.marks := rfl
@[simp] theorem State.withPort_feeds (s : State) (v : BusPort) : (s.withPort v).feeds = s.feeds := rfl
@[simp] theorem State.withPort_lay (s : State) (v : BusPort) : (s.withPort v).lay = s.lay := rfl
@[simp] theorem State.withPort_trim (s : State) (v : BusPort) : (s.withPort v).trim = s.trim := rfl
@[simp] theorem State.withPort_knot (s : State) (v : BusPort) : (s.withPort v).knot = s.knot := rfl
@[simp] theorem State.withPort_lots (s : State) (v : BusPort) : (s.withPort v).lots = s.lots := rfl
@[simp] theorem State.withPort_builder (s : State) (v : BusPort) : (s.withPort v).builder = s.builder := rfl
@[simp] theorem State.withPort_hold (s : State) (v : BusPort) : (s.withPort v).hold = s.hold := rfl
@[simp] theorem State.withPort_port (s : State) (v : BusPort) : (s.withPort v).port = v := rfl
@[simp] theorem State.withPort_link (s : State) (v : BusPort) : (s.withPort v).link = s.link := rfl
@[simp] theorem State.withPort_orders (s : State) (v : BusPort) : (s.withPort v).orders = s.orders := rfl
@[simp] theorem State.withPort_pending (s : State) (v : BusPort) : (s.withPort v).pending = s.pending := rfl

@[simp] theorem State.withLink_station (s : State) (v : LocalLink) : (s.withLink v).station = s.station := rfl
@[simp] theorem State.withLink_profile (s : State) (v : LocalLink) : (s.withLink v).profile = s.profile := rfl
@[simp] theorem State.withLink_pins (s : State) (v : LocalLink) : (s.withLink v).pins = s.pins := rfl
@[simp] theorem State.withLink_now (s : State) (v : LocalLink) : (s.withLink v).now = s.now := rfl
@[simp] theorem State.withLink_length (s : State) (v : LocalLink) : (s.withLink v).length = s.length := rfl
@[simp] theorem State.withLink_sense (s : State) (v : LocalLink) : (s.withLink v).sense = s.sense := rfl
@[simp] theorem State.withLink_marks (s : State) (v : LocalLink) : (s.withLink v).marks = s.marks := rfl
@[simp] theorem State.withLink_feeds (s : State) (v : LocalLink) : (s.withLink v).feeds = s.feeds := rfl
@[simp] theorem State.withLink_lay (s : State) (v : LocalLink) : (s.withLink v).lay = s.lay := rfl
@[simp] theorem State.withLink_trim (s : State) (v : LocalLink) : (s.withLink v).trim = s.trim := rfl
@[simp] theorem State.withLink_knot (s : State) (v : LocalLink) : (s.withLink v).knot = s.knot := rfl
@[simp] theorem State.withLink_lots (s : State) (v : LocalLink) : (s.withLink v).lots = s.lots := rfl
@[simp] theorem State.withLink_builder (s : State) (v : LocalLink) : (s.withLink v).builder = s.builder := rfl
@[simp] theorem State.withLink_hold (s : State) (v : LocalLink) : (s.withLink v).hold = s.hold := rfl
@[simp] theorem State.withLink_port (s : State) (v : LocalLink) : (s.withLink v).port = s.port := rfl
@[simp] theorem State.withLink_link (s : State) (v : LocalLink) : (s.withLink v).link = v := rfl
@[simp] theorem State.withLink_orders (s : State) (v : LocalLink) : (s.withLink v).orders = s.orders := rfl
@[simp] theorem State.withLink_pending (s : State) (v : LocalLink) : (s.withLink v).pending = s.pending := rfl

@[simp] theorem State.withOrders_station (s : State) (v : Nat) : (s.withOrders v).station = s.station := rfl
@[simp] theorem State.withOrders_profile (s : State) (v : Nat) : (s.withOrders v).profile = s.profile := rfl
@[simp] theorem State.withOrders_pins (s : State) (v : Nat) : (s.withOrders v).pins = s.pins := rfl
@[simp] theorem State.withOrders_now (s : State) (v : Nat) : (s.withOrders v).now = s.now := rfl
@[simp] theorem State.withOrders_length (s : State) (v : Nat) : (s.withOrders v).length = s.length := rfl
@[simp] theorem State.withOrders_sense (s : State) (v : Nat) : (s.withOrders v).sense = s.sense := rfl
@[simp] theorem State.withOrders_marks (s : State) (v : Nat) : (s.withOrders v).marks = s.marks := rfl
@[simp] theorem State.withOrders_feeds (s : State) (v : Nat) : (s.withOrders v).feeds = s.feeds := rfl
@[simp] theorem State.withOrders_lay (s : State) (v : Nat) : (s.withOrders v).lay = s.lay := rfl
@[simp] theorem State.withOrders_trim (s : State) (v : Nat) : (s.withOrders v).trim = s.trim := rfl
@[simp] theorem State.withOrders_knot (s : State) (v : Nat) : (s.withOrders v).knot = s.knot := rfl
@[simp] theorem State.withOrders_lots (s : State) (v : Nat) : (s.withOrders v).lots = s.lots := rfl
@[simp] theorem State.withOrders_builder (s : State) (v : Nat) : (s.withOrders v).builder = s.builder := rfl
@[simp] theorem State.withOrders_hold (s : State) (v : Nat) : (s.withOrders v).hold = s.hold := rfl
@[simp] theorem State.withOrders_port (s : State) (v : Nat) : (s.withOrders v).port = s.port := rfl
@[simp] theorem State.withOrders_link (s : State) (v : Nat) : (s.withOrders v).link = s.link := rfl
@[simp] theorem State.withOrders_orders (s : State) (v : Nat) : (s.withOrders v).orders = v := rfl
@[simp] theorem State.withOrders_pending (s : State) (v : Nat) : (s.withOrders v).pending = s.pending := rfl

@[simp] theorem State.withPending_station (s : State) (v : List Instr) : (s.withPending v).station = s.station := rfl
@[simp] theorem State.withPending_profile (s : State) (v : List Instr) : (s.withPending v).profile = s.profile := rfl
@[simp] theorem State.withPending_pins (s : State) (v : List Instr) : (s.withPending v).pins = s.pins := rfl
@[simp] theorem State.withPending_now (s : State) (v : List Instr) : (s.withPending v).now = s.now := rfl
@[simp] theorem State.withPending_length (s : State) (v : List Instr) : (s.withPending v).length = s.length := rfl
@[simp] theorem State.withPending_sense (s : State) (v : List Instr) : (s.withPending v).sense = s.sense := rfl
@[simp] theorem State.withPending_marks (s : State) (v : List Instr) : (s.withPending v).marks = s.marks := rfl
@[simp] theorem State.withPending_feeds (s : State) (v : List Instr) : (s.withPending v).feeds = s.feeds := rfl
@[simp] theorem State.withPending_lay (s : State) (v : List Instr) : (s.withPending v).lay = s.lay := rfl
@[simp] theorem State.withPending_trim (s : State) (v : List Instr) : (s.withPending v).trim = s.trim := rfl
@[simp] theorem State.withPending_knot (s : State) (v : List Instr) : (s.withPending v).knot = s.knot := rfl
@[simp] theorem State.withPending_lots (s : State) (v : List Instr) : (s.withPending v).lots = s.lots := rfl
@[simp] theorem State.withPending_builder (s : State) (v : List Instr) : (s.withPending v).builder = s.builder := rfl
@[simp] theorem State.withPending_hold (s : State) (v : List Instr) : (s.withPending v).hold = s.hold := rfl
@[simp] theorem State.withPending_port (s : State) (v : List Instr) : (s.withPending v).port = s.port := rfl
@[simp] theorem State.withPending_link (s : State) (v : List Instr) : (s.withPending v).link = s.link := rfl
@[simp] theorem State.withPending_orders (s : State) (v : List Instr) : (s.withPending v).orders = s.orders := rfl
@[simp] theorem State.withPending_pending (s : State) (v : List Instr) : (s.withPending v).pending = v := rfl

end Sys2Proof.Machine
end

