-- ==== Sys2Proof/Laws/Frames.lean ====
section
/-! SUPPORT. The frame of each shared operation: the blocks outside which the part is the same after it. A frame
`X_frame` holds for every list of blocks that takes in the ones X may change. -/

namespace Sys2Proof.Machine

-- One declaration at a time: elaborated side by side, these proofs need more threads than the check's memory allows.
set_option Elab.async false

/-- Whether every block of a list is in another. -/
abbrev Within (inner outer : List Block) : Prop := ∀ b ∈ inner, b ∈ outer

namespace SameOutside

theorem refl (bs : List Block) (s : State) : SameOutside bs s s := by
  intro b _; cases b <;> rfl

theorem trans {bs : List Block} {s t u : State} (first : SameOutside bs s t) (second : SameOutside bs t u) :
    SameOutside bs s u := by
  intro b hb
  have h1 := first b hb
  have h2 := second b hb
  cases b <;> simp only [sameBlock] at * <;> rw [h2, h1]

theorem mono {bs cs : List Block} {s t : State} (h : SameOutside bs s t) (sub : Within bs cs) :
    SameOutside cs s t := fun b hb => h b fun hmem => hb (sub b hmem)

theorem ite {bs : List Block} {p : Prop} [Decidable p] {s t u : State} (yes : SameOutside bs s t)
    (no : SameOutside bs s u) : SameOutside bs s (if p then t else u) := by
  split <;> assumption

theorem withStation (s : State) (v : StationState) {bs : List Block} (h : Within [.station] bs := by decide) :
    SameOutside bs s (s.withStation v) := by
  refine mono (bs := [.station]) ?_ h; intro b hb; cases b <;> first | rfl | simp at hb
theorem withProfile (s : State) (v : Profile) {bs : List Block} (h : Within [.profile] bs := by decide) :
    SameOutside bs s (s.withProfile v) := by
  refine mono (bs := [.profile]) ?_ h; intro b hb; cases b <;> first | rfl | simp at hb
theorem withPins (s : State) (v : Pins) {bs : List Block} (h : Within [.pins] bs := by decide) :
    SameOutside bs s (s.withPins v) := by
  refine mono (bs := [.pins]) ?_ h; intro b hb; cases b <;> first | rfl | simp at hb
theorem withLength (s : State) (v : LengthUnit) {bs : List Block} (h : Within [.length] bs := by decide) :
    SameOutside bs s (s.withLength v) := by
  refine mono (bs := [.length]) ?_ h; intro b hb; cases b <;> first | rfl | simp at hb
theorem withSense (s : State) (v : SenseUnit) {bs : List Block} (h : Within [.sense] bs := by decide) :
    SameOutside bs s (s.withSense v) := by
  refine mono (bs := [.sense]) ?_ h; intro b hb; cases b <;> first | rfl | simp at hb
theorem withMarks (s : State) (v : MarkList) {bs : List Block} (h : Within [.marks] bs := by decide) :
    SameOutside bs s (s.withMarks v) := by
  refine mono (bs := [.marks]) ?_ h; intro b hb; cases b <;> first | rfl | simp at hb
theorem withFeeds (s : State) (v : FeedUnit) {bs : List Block} (h : Within [.feeds] bs := by decide) :
    SameOutside bs s (s.withFeeds v) := by
  refine mono (bs := [.feeds]) ?_ h; intro b hb; cases b <;> first | rfl | simp at hb
theorem withLay (s : State) (v : LayMonitor) {bs : List Block} (h : Within [.lay] bs := by decide) :
    SameOutside bs s (s.withLay v) := by
  refine mono (bs := [.lay]) ?_ h; intro b hb; cases b <;> first | rfl | simp at hb
theorem withTrim (s : State) (v : TrimOutput) {bs : List Block} (h : Within [.trim] bs := by decide) :
    SameOutside bs s (s.withTrim v) := by
  refine mono (bs := [.trim]) ?_ h; intro b hb; cases b <;> first | rfl | simp at hb
theorem withKnot (s : State) (v : KnotMonitor) {bs : List Block} (h : Within [.knot] bs := by decide) :
    SameOutside bs s (s.withKnot v) := by
  refine mono (bs := [.knot]) ?_ h; intro b hb; cases b <;> first | rfl | simp at hb
theorem withLots (s : State) (v : LotUnit) {bs : List Block} (h : Within [.lots] bs := by decide) :
    SameOutside bs s (s.withLots v) := by
  refine mono (bs := [.lots]) ?_ h; intro b hb; cases b <;> first | rfl | simp at hb
theorem withBuilder (s : State) (v : CoilBuilder) {bs : List Block} (h : Within [.builder] bs := by decide) :
    SameOutside bs s (s.withBuilder v) := by
  refine mono (bs := [.builder]) ?_ h; intro b hb; cases b <;> first | rfl | simp at hb
theorem withHold (s : State) (v : HoldUnit) {bs : List Block} (h : Within [.hold] bs := by decide) :
    SameOutside bs s (s.withHold v) := by
  refine mono (bs := [.hold]) ?_ h; intro b hb; cases b <;> first | rfl | simp at hb
theorem withPort (s : State) (v : BusPort) {bs : List Block} (h : Within [.port] bs := by decide) :
    SameOutside bs s (s.withPort v) := by
  refine mono (bs := [.port]) ?_ h; intro b hb; cases b <;> first | rfl | simp at hb
theorem withLink (s : State) (v : LocalLink) {bs : List Block} (h : Within [.link] bs := by decide) :
    SameOutside bs s (s.withLink v) := by
  refine mono (bs := [.link]) ?_ h; intro b hb; cases b <;> first | rfl | simp at hb
theorem withOrders (s : State) (v : Nat) {bs : List Block} (h : Within [.orders] bs := by decide) :
    SameOutside bs s (s.withOrders v) := by
  refine mono (bs := [.orders]) ?_ h; intro b hb; cases b <;> first | rfl | simp at hb

end SameOutside

open SameOutside

/-! ## Ops -/

theorem useOrder_frame (s : State) {bs : List Block} (h : Within [.orders] bs := by decide) :
    SameOutside bs s s.useOrder := mono (bs := [.orders]) (withOrders _ _) h

theorem latch_frame (c : Condition) (s : State) {bs : List Block} (h : Within [.link] bs := by decide) :
    SameOutside bs s (latch c s) := mono (bs := [.link]) (withLink _ _) h

theorem offerClass0_frame (p : Payload) (s : State) {bs : List Block} (h : Within [.port] bs := by decide) :
    SameOutside bs s (offerClass0 p s) := mono (bs := [.port]) (withPort _ _) h

theorem offerClass3_frame (p : Payload) (s : State) {bs : List Block} (h : Within [.port] bs := by decide) :
    SameOutside bs s (offerClass3 p s) := mono (bs := [.port]) (withPort _ _) h

theorem dropNotice_frame (s : State) {bs : List Block} (h : Within [.port, .link] bs := by decide) :
    SameOutside bs s (dropNotice s) :=
  mono (bs := [.port, .link]) ((withPort s _).trans (latch_frame _ _)) h

theorem offerMark_frame (slot : Slot) (m : MarkPayload) (s : State) {bs : List Block}
    (h : Within [.port, .link] bs := by decide) : SameOutside bs s (offerMark slot m s) := by
  refine mono (bs := [.port, .link]) ?_ h
  unfold offerMark
  exact ite (withPort _ _) ((withPort _ _).trans (dropNotice_frame _))

theorem setReasons_frame (own : HoldSet) (s : State) {bs : List Block}
    (h : Within [.hold, .port] bs := by decide) : SameOutside bs s (setReasons own s) := by
  refine mono (bs := [.hold, .port]) ?_ h
  unfold setReasons
  exact ite (refl _ _) ((withHold _ _).trans (offerClass0_frame _ _))

theorem giveHold_frame (r : HoldReason) (s : State) {bs : List Block}
    (h : Within [.hold, .port] bs := by decide) : SameOutside bs s (giveHold r s) := setReasons_frame _ _ h

theorem removeHold_frame (r : HoldReason) (s : State) {bs : List Block}
    (h : Within [.hold, .port] bs := by decide) : SameOutside bs s (removeHold r s) := setReasons_frame _ _ h

/-! ## Coils -/

theorem changeCoil_frame (f : CurrentCoil → CurrentCoil) (s : State) {bs : List Block}
    (h : Within [.builder] bs := by decide) : SameOutside bs s (changeCoil f s) :=
  mono (bs := [.builder]) (withBuilder _ _) h

theorem changeRecord_frame (f : Coil → Coil) (s : State) {bs : List Block}
    (h : Within [.builder] bs := by decide) : SameOutside bs s (changeRecord f s) := changeCoil_frame _ _ h

theorem enterCutting_frame (s : State) {bs : List Block} (h : Within [.builder, .hold, .port] bs := by decide) :
    SameOutside bs s (enterCutting s) :=
  mono (bs := [.builder, .hold, .port]) ((withBuilder s _).trans (setReasons_frame _ _)) h

theorem goOn_frame (s : State) {bs : List Block} (h : Within [.builder, .hold, .port] bs := by decide) :
    SameOutside bs s (goOn s) := by
  refine mono (bs := [.builder, .hold, .port]) ?_ h
  unfold goOn
  exact ite (enterCutting_frame _) ((withBuilder _ _).trans (giveHold_frame _ _))

theorem startSequence_frame (causes : CauseSet) (claim : Option Mark) (fired : Bool) (s : State) {bs : List Block}
    (h : Within [.builder, .hold, .port] bs := by decide) :
    SameOutside bs s (startSequence causes claim fired s) :=
  mono (bs := [.builder, .hold, .port]) ((withBuilder s _).trans (goOn_frame _)) h

theorem startReached_frame (given : CauseSet) (s : State) {bs : List Block}
    (h : Within [.builder, .hold, .port] bs := by decide) : SameOutside bs s (startReached given s) := by
  refine mono (bs := [.builder, .hold, .port]) ?_ h
  unfold startReached
  split
  · exact refl _ _
  · exact startSequence_frame _ _ _ _

theorem cutTest_frame (s : State) {bs : List Block} (h : Within [.builder, .hold, .port] bs := by decide) :
    SameOutside bs s (cutTest s) := by
  refine mono (bs := [.builder, .hold, .port]) ?_ h
  unfold cutTest
  split
  · split
    · exact ite (startReached_frame _ _) (refl _ _)
    · exact refl _ _
  · exact refl _ _

theorem changeCauses_frame (f : CauseSet → CauseSet) (s : State) {bs : List Block}
    (h : Within [.builder] bs := by decide) : SameOutside bs s (changeCauses f s) :=
  mono (bs := [.builder]) (withBuilder _ _) h

theorem addTarget_frame (s : State) {bs : List Block} (h : Within [.builder] bs := by decide) :
    SameOutside bs s (addTarget s) := by
  refine mono (bs := [.builder]) ?_ h
  unfold addTarget
  split
  · exact changeCauses_frame _ _
  · exact refl _ _

theorem builderAdvance_frame (s : State) {bs : List Block} (h : Within [.builder, .hold, .port] bs := by decide) :
    SameOutside bs s (builderAdvance s) :=
  mono (bs := [.builder, .hold, .port]) ((addTarget_frame s).trans (cutTest_frame _)) h

theorem markIncomplete_frame (s : State) {bs : List Block} (h : Within [.builder] bs := by decide) :
    SameOutside bs s (markIncomplete s) := changeRecord_frame _ _ h

theorem lossTest_frame (is : List LossInterval) (s : State) {bs : List Block}
    (h : Within [.builder] bs := by decide) : SameOutside bs s (lossTest is s) := by
  refine mono (bs := [.builder]) ?_ h
  unfold lossTest
  split
  · exact ite (markIncomplete_frame _) (refl _ _)
  · exact refl _ _

theorem takeHead_frame (s : State) {bs : List Block} (h : Within [.builder, .link] bs := by decide) :
    SameOutside bs s (takeHead s) := by
  refine mono (bs := [.builder, .link]) ?_ h
  unfold takeHead
  split
  · exact latch_frame _ _
  · exact ite (changeCoil_frame _ _) (ite (refl _ _) (latch_frame _ _))

theorem openCoil_frame (start : Nat) (carried : List Event) (s : State) {bs : List Block}
    (h : Within [.builder, .hold, .port, .link] bs := by decide) : SameOutside bs s (openCoil start carried s) := by
  refine mono (bs := [.builder, .hold, .port, .link]) ?_ h
  unfold openCoil
  exact ((((withBuilder s _).trans (takeHead_frame _)).trans (changeRecord_frame _ _)).trans
    (lossTest_frame _ _)).trans (cutTest_frame _)

theorem lateTake_frame (s : State) {bs : List Block} (h : Within [.builder, .hold, .port, .link] bs := by decide) :
    SameOutside bs s (lateTake s) := by
  refine mono (bs := [.builder, .hold, .port, .link]) ?_ h
  unfold lateTake
  split
  · refine ite ?_ (refl _ _)
    split
    · exact refl _ _
    · exact ite ((changeCoil_frame _ _).trans (cutTest_frame _)) (latch_frame _ _)
  · exact refl _ _

theorem closeCoil_frame (causes : CauseSet) (late confirmed : Bool) (s : State) {bs : List Block}
    (h : Within [.builder, .link] bs := by decide) : SameOutside bs s (closeCoil causes late confirmed s) := by
  refine mono (bs := [.builder, .link]) ?_ h
  unfold closeCoil
  split
  · exact refl _ _
  · exact (withBuilder _ _).trans (latch_frame _ _)

theorem closeAndOpen_frame (causes : CauseSet) (late confirmed : Bool) (s : State) {bs : List Block}
    (h : Within [.builder, .hold, .port, .link] bs := by decide) :
    SameOutside bs s (closeAndOpen causes late confirmed s) :=
  mono (bs := [.builder, .hold, .port, .link]) ((closeCoil_frame _ _ _ _).trans (openCoil_frame _ _ _)) h

theorem settleCut_frame (late confirmed : Bool) (s : State) {bs : List Block}
    (h : Within [.builder, .hold, .port, .link] bs := by decide) : SameOutside bs s (settleCut late confirmed s) :=
  mono (bs := [.builder, .hold, .port, .link])
    (((withBuilder s _).trans (removeHold_frame _ _)).trans (closeAndOpen_frame _ _ _ _)) h

theorem unrecordedCut_frame (s : State) {bs : List Block} (h : Within [.builder, .link] bs := by decide) :
    SameOutside bs s (unrecordedCut s) :=
  mono (bs := [.builder, .link]) (((markIncomplete_frame s).trans (latch_frame _ _)).trans (withBuilder _ _)) h

theorem cutDone_frame (s : State) {bs : List Block} (h : Within [.builder, .hold, .port, .link] bs := by decide) :
    SameOutside bs s (cutDone s) := by
  refine mono (bs := [.builder, .hold, .port, .link]) ?_ h
  unfold cutDone
  split
  · exact refl _ _
  · exact settleCut_frame _ _ _
  · exact settleCut_frame _ _ _
  · exact unrecordedCut_frame _
  · exact ite (withBuilder _ _) (ite (closeAndOpen_frame _ _ _ _) (unrecordedCut_frame _))

theorem reseat_frame (tag : Nat) (answer : Option LotAnswer) (s : State) {bs : List Block}
    (h : Within [.builder, .hold, .port, .link] bs := by decide) : SameOutside bs s (reseat tag answer s) :=
  mono (bs := [.builder, .hold, .port, .link])
    (((changeCoil_frame _ s).trans (lateTake_frame _)).trans (cutTest_frame _)) h

theorem joinCauses_frame (m : Mark) (s : State) {bs : List Block} (h : Within [.builder] bs := by decide) :
    SameOutside bs s (joinCauses m s) := mono (bs := [.builder]) (withBuilder _ _) h

theorem boundaryEffect_frame (m : Mark) (answer : Option LotAnswer) (s : State) {bs : List Block}
    (h : Within [.builder, .hold, .port, .link] bs := by decide) :
    SameOutside bs s (boundaryEffect m answer s).1 := by
  refine mono (bs := [.builder, .hold, .port, .link]) ?_ h
  unfold boundaryEffect
  split
  · exact withBuilder _ _
  · split
    · exact (withBuilder _ _).trans (ite (reseat_frame _ _ _) (refl _ _))
    · split
      · exact refl _ _
      · split
        · split
          · exact startSequence_frame _ _ _ _
          · exact ite (reseat_frame _ _ _) (refl _ _)
        · exact joinCauses_frame _ _

theorem builderTakes_frame (m : Mark) (answer : Option LotAnswer) (s : State) {bs : List Block}
    (h : Within [.builder, .hold, .port, .link] bs := by decide) : SameOutside bs s (builderTakes m answer s) := by
  refine mono (bs := [.builder, .hold, .port, .link]) ?_ h
  unfold builderTakes
  exact ite (refl _ _) (ite ((boundaryEffect_frame _ _ _).trans (changeRecord_frame _ _)) (changeRecord_frame _ _))

theorem builderMerges_frame (gone kept : Mark) (s : State) {bs : List Block}
    (h : Within [.builder] bs := by decide) : SameOutside bs s (builderMerges gone kept s) :=
  mono (bs := [.builder]) (withBuilder _ _) h

/-! ## Loss -/

theorem withLosses_frame (is : List LossInterval) (s : State) {bs : List Block}
    (h : Within [.feeds] bs := by decide) : SameOutside bs s (withLosses is s) :=
  mono (bs := [.feeds]) (withFeeds _ _) h

theorem retroTest_frame (low : Nat) (s : State) {bs : List Block} (h : Within [.link] bs := by decide) :
    SameOutside bs s (retroTest low s) := by
  refine mono (bs := [.link]) ?_ h
  unfold retroTest
  split
  · exact ite (latch_frame _ _) (refl _ _)
  · exact refl _ _

theorem offerBuilder_frame (i : LossInterval) (s : State) {bs : List Block}
    (h : Within [.builder] bs := by decide) : SameOutside bs s (offerBuilder i s) := lossTest_frame _ _ h

theorem offerInterval_frame (i : LossInterval) (s : State) {bs : List Block}
    (h : Within [.feeds, .builder, .link] bs := by decide) : SameOutside bs s (offerInterval i s) :=
  mono (bs := [.feeds, .builder, .link])
    (((withLosses_frame _ s).trans (offerBuilder_frame _ _)).trans (retroTest_frame _ _)) h

theorem forward_frame (m : Mark) (s : State) {bs : List Block} (h : Within [.port, .link] bs := by decide) :
    SameOutside bs s (forward m s) := by
  refine mono (bs := [.port, .link]) ?_ h
  unfold forward
  exact ite (offerMark_frame _ _ _) (refl _ _)

theorem relay_frame (m : Mark) (s : State) {bs : List Block}
    (h : Within [.feeds, .builder, .link] bs := by decide) : SameOutside bs s (relay m s) := by
  refine mono (bs := [.feeds, .builder, .link]) ?_ h
  unfold relay
  split
  · exact offerInterval_frame _ _
  · exact refl _ _

theorem fireOrdinary_frame (m : Mark) (s : State) {bs : List Block}
    (h : Within [.feeds, .builder, .hold, .port, .link] bs := by decide) : SameOutside bs s (fireOrdinary m s) :=
  mono (bs := [.feeds, .builder, .hold, .port, .link])
    (((builderTakes_frame _ _ s).trans (relay_frame _ _)).trans (forward_frame _ _)) h

theorem takeSerial_frame (s : State) {bs : List Block} (h : Within [.marks] bs := by decide) :
    SameOutside bs s (takeSerial s) := mono (bs := [.marks]) (withMarks _ _) h

theorem raiseLoss_frame (i : LossInterval) (s : State) {bs : List Block}
    (h : Within [.marks, .feeds, .builder, .hold, .port, .link] bs := by decide) :
    SameOutside bs s (raiseLoss i s) := by
  refine mono (bs := [.marks, .feeds, .builder, .hold, .port, .link]) ?_ h
  unfold raiseLoss
  exact ite ((takeSerial_frame _).trans (fireOrdinary_frame _ _)) (refl _ _)

theorem addInterval_frame (i : LossInterval) (s : State) {bs : List Block}
    (h : Within [.marks, .feeds, .builder, .hold, .port, .link] bs := by decide) :
    SameOutside bs s (addInterval i s) :=
  mono (bs := [.marks, .feeds, .builder, .hold, .port, .link])
    ((offerInterval_frame _ s).trans (raiseLoss_frame _ _)) h

/-! ## Marks -/

theorem withWaiting_frame (ms : List Mark) (s : State) {bs : List Block} (h : Within [.marks] bs := by decide) :
    SameOutside bs s (withWaiting ms s) := mono (bs := [.marks]) (withMarks _ _) h

theorem storeMark_frame (m : Mark) (s : State) {bs : List Block}
    (h : Within [.marks, .builder, .hold, .port] bs := by decide) : SameOutside bs s (storeMark m s) :=
  mono (bs := [.marks, .builder, .hold, .port]) ((withWaiting_frame _ s).trans (cutTest_frame _)) h

theorem countDuplicate_frame (s : State) {bs : List Block} (h : Within [.marks] bs := by decide) :
    SameOutside bs s (countDuplicate s) := mono (bs := [.marks]) (withMarks _ _) h

theorem loseOrdinary_frame (s : State) {bs : List Block} (h : Within [.marks, .link] bs := by decide) :
    SameOutside bs s (loseOrdinary s) := mono (bs := [.marks, .link]) ((withMarks s _).trans (latch_frame _ _)) h

theorem refuseOrdinary_frame (m : Mark) (s : State) {bs : List Block}
    (h : Within [.marks, .feeds, .builder, .hold, .port, .link] bs := by decide) :
    SameOutside bs s (refuseOrdinary m s) :=
  mono (bs := [.marks, .feeds, .builder, .hold, .port, .link])
    ((addInterval_frame _ s).trans (loseOrdinary_frame _)) h

theorem placeOrdinary_frame (m : Mark) (s : State) {bs : List Block}
    (h : Within [.marks, .feeds, .builder, .hold, .port, .link] bs := by decide) :
    SameOutside bs s (placeOrdinary m s) := by
  refine mono (bs := [.marks, .feeds, .builder, .hold, .port, .link]) ?_ h
  unfold placeOrdinary
  split
  · exact countDuplicate_frame _
  · exact fireOrdinary_frame _ _
  · exact storeMark_frame _ _
  · exact refuseOrdinary_frame _ _
  · exact refl _ _
  · exact refl _ _

theorem raiseMark_frame (r : Raising) (s : State) {bs : List Block}
    (h : Within [.marks, .feeds, .builder, .hold, .port, .link] bs := by decide) :
    SameOutside bs s (raiseMark r s) :=
  mono (bs := [.marks, .feeds, .builder, .hold, .port, .link])
    ((takeSerial_frame s).trans (placeOrdinary_frame _ _)) h

/-! ## Lay -/

theorem changeLay_frame (f : LayMonitor → LayMonitor) (s : State) {bs : List Block}
    (h : Within [.lay] bs := by decide) : SameOutside bs s (changeLay f s) :=
  mono (bs := [.lay]) (withLay _ _) h

theorem openWindow_frame (s : State) {bs : List Block} (h : Within [.lay] bs := by decide) :
    SameOutside bs s (openWindow s) := changeLay_frame _ _ h

theorem enterSettling_frame (s : State) {bs : List Block} (h : Within [.lay] bs := by decide) :
    SameOutside bs s (enterSettling s) := by
  refine mono (bs := [.lay]) ?_ h
  unfold enterSettling
  split
  · exact ite (openWindow_frame _) (changeLay_frame _ _)
  · exact refl _ _

theorem suspend_frame (s : State) {bs : List Block} (h : Within [.lay] bs := by decide) :
    SameOutside bs s (suspend s) := changeLay_frame _ _ h

theorem settleByWire_frame (s : State) {bs : List Block} (h : Within [.lay] bs := by decide) :
    SameOutside bs s (settleByWire s) := by
  refine mono (bs := [.lay]) ?_ h
  unfold settleByWire
  split
  · exact enterSettling_frame _
  · exact suspend_frame _

theorem endLayRun_frame (s : State) {bs : List Block} (h : Within [.lay] bs := by decide) :
    SameOutside bs s (endLayRun s) := changeLay_frame _ _ h

/-- The blocks that raising a mark from the lay monitor may change. -/
abbrev layBlocks : List Block := [.lay, .marks, .feeds, .builder, .hold, .port, .link]

theorem measureLayRun_frame (k : Nat) (s : State) {bs : List Block} (h : Within layBlocks bs := by decide) :
    SameOutside bs s (measureLayRun k s) := by
  refine mono (bs := layBlocks) ?_ h
  unfold measureLayRun
  split
  · exact ite ((endLayRun_frame _).trans (raiseMark_frame _ _)) (endLayRun_frame _)
  · exact refl _ _

theorem feedLayRun_frame (start finish : Nat) (dev : Int) (s : State) {bs : List Block}
    (h : Within layBlocks bs := by decide) : SameOutside bs s (feedLayRun start finish dev s) := by
  refine mono (bs := layBlocks) ?_ h
  unfold feedLayRun
  exact ite ((endLayRun_frame _).trans (raiseMark_frame _ _)) (changeLay_frame _ _)

theorem layStopTest_frame (w : LayWorkingSet) (dev : Int) (s : State) {bs : List Block}
    (h : Within [.hold, .port, .link] bs := by decide) : SameOutside bs s (layStopTest w dev s) := by
  refine mono (bs := [.hold, .port, .link]) ?_ h
  unfold layStopTest
  exact ite ((giveHold_frame _ _).trans (latch_frame _ _)) (refl _ _)

theorem layBandTest_frame (w : LayWorkingSet) (lay start finish : Nat) (dev : Int) (s : State) {bs : List Block}
    (h : Within layBlocks bs := by decide) : SameOutside bs s (layBandTest w lay start finish dev s) := by
  refine mono (bs := layBlocks) ?_ h
  unfold layBandTest
  exact ite (measureLayRun_frame _ _) (feedLayRun_frame _ _ _ _)

theorem closeWindow_frame (w : LayWorkingSet) (win : LayWindow) (s : State) {bs : List Block}
    (h : Within layBlocks bs := by decide) : SameOutside bs s (closeWindow w win s) := by
  refine mono (bs := layBlocks) ?_ h
  unfold closeWindow
  exact ((layStopTest_frame _ _ _).trans (layBandTest_frame _ _ _ _ _ _)).trans (changeLay_frame _ _)

theorem spindleEdge_frame (s : State) {bs : List Block} (h : Within layBlocks bs := by decide) :
    SameOutside bs s (spindleEdge s) := by
  refine mono (bs := layBlocks) ?_ h
  unfold spindleEdge
  split
  · exact ite (openWindow_frame _) (changeLay_frame _ _)
  · exact ite (closeWindow_frame _ _ _) (changeLay_frame _ _)
  · exact refl _ _

theorem layCapTest_frame (s : State) {bs : List Block} (h : Within layBlocks bs := by decide) :
    SameOutside bs s (layCapTest s) := by
  refine mono (bs := layBlocks) ?_ h
  unfold layCapTest
  split
  · exact ite (closeWindow_frame _ _ _) (refl _ _)
  · exact refl _ _

theorem laySeesHeld_frame (s : State) {bs : List Block} (h : Within layBlocks bs := by decide) :
    SameOutside bs s (laySeesHeld s) := by
  refine mono (bs := layBlocks) ?_ h
  unfold laySeesHeld
  split
  · exact (suspend_frame _).trans (measureLayRun_frame _ _)
  · exact (suspend_frame _).trans (measureLayRun_frame _ _)
  · exact refl _ _

theorem laySeesRunning_frame (s : State) {bs : List Block} (h : Within [.lay] bs := by decide) :
    SameOutside bs s (laySeesRunning s) := by
  refine mono (bs := [.lay]) ?_ h
  unfold laySeesRunning
  split
  · exact enterSettling_frame _
  · exact refl _ _

theorem measureAtActivation_frame (old new : Nat) (s : State) {bs : List Block}
    (h : Within (.orders :: layBlocks) bs := by decide) : SameOutside bs s (measureAtActivation old new s) := by
  refine mono (bs := .orders :: layBlocks) ?_ h
  unfold measureAtActivation
  exact ite ((useOrder_frame _).trans (measureLayRun_frame _ _)) (measureLayRun_frame _ _)

theorem layActivation_frame (s : State) {bs : List Block} (h : Within (.orders :: layBlocks) bs := by decide) :
    SameOutside bs s (layActivation s) := by
  refine mono (bs := .orders :: layBlocks) ?_ h
  unfold layActivation
  refine ite (refl _ _) (ite ?_ ?_)
  · exact (changeLay_frame _ _).trans (measureAtActivation_frame _ _ _)
  · exact ((changeLay_frame _ _).trans (measureAtActivation_frame _ _ _)).trans (enterSettling_frame _)

theorem layEntry_frame (s : State) {bs : List Block} (h : Within [.lay] bs := by decide) :
    SameOutside bs s (layEntry s) := by
  refine mono (bs := [.lay]) ?_ h
  unfold layEntry
  exact ite ((changeLay_frame _ _).trans (settleByWire_frame _)) (refl _ _)

theorem layRestart_frame (s : State) {bs : List Block} (h : Within [.lay] bs := by decide) :
    SameOutside bs s (layRestart s) := by
  refine mono (bs := [.lay]) ?_ h
  unfold layRestart
  exact ite (refl _ _) ((changeLay_frame _ _).trans (settleByWire_frame _))

/-! ## Knot -/

/-- The blocks that raising a mark from the knot monitor may change. -/
abbrev knotBlocks : List Block := [.knot, .marks, .feeds, .builder, .hold, .port, .link]

theorem changeKnot_frame (f : KnotMonitor → KnotMonitor) (s : State) {bs : List Block}
    (h : Within [.knot] bs := by decide) : SameOutside bs s (changeKnot f s) :=
  mono (bs := [.knot]) (withKnot _ _) h

theorem countKnot_frame (i : Nat) (s : State) {bs : List Block} (h : Within [.knot] bs := by decide) :
    SameOutside bs s (countKnot i s) := by
  refine mono (bs := [.knot]) ?_ h
  unfold countKnot
  exact ite (refl _ _) (changeKnot_frame _ _)

theorem knotStopTest_frame (r : RowSummary) (s : State) {bs : List Block}
    (h : Within [.knot, .hold, .port, .link] bs := by decide) : SameOutside bs s (knotStopTest r s) := by
  refine mono (bs := [.knot, .hold, .port, .link]) ?_ h
  unfold knotStopTest
  split
  · exact refl _ _
  · exact ite (((giveHold_frame _ _).trans (latch_frame _ _)).trans (changeKnot_frame _ _)) (refl _ _)

theorem closeKnotRun_frame (s : State) {bs : List Block} (h : Within knotBlocks bs := by decide) :
    SameOutside bs s (closeKnotRun s) := by
  refine mono (bs := knotBlocks) ?_ h
  unfold closeKnotRun
  split
  · exact (changeKnot_frame _ _).trans (raiseMark_frame _ _)
  · exact refl _ _

theorem feedKnotRun_frame (r : RowSummary) (s : State) {bs : List Block} (h : Within knotBlocks bs := by decide) :
    SameOutside bs s (feedKnotRun r s) := by
  refine mono (bs := knotBlocks) ?_ h
  unfold feedKnotRun
  refine ite (closeKnotRun_frame _) (ite ?_ (changeKnot_frame _ _))
  exact (changeKnot_frame _ _).trans (closeKnotRun_frame _)

theorem enterRow_frame (r : RowSummary) (s : State) {bs : List Block} (h : Within [.knot] bs := by decide) :
    SameOutside bs s (enterRow r s) := changeKnot_frame _ _ h

theorem evaluateRow_frame (s : State) {bs : List Block} (h : Within knotBlocks bs := by decide) :
    SameOutside bs s (evaluateRow s) := by
  refine mono (bs := knotBlocks) ?_ h
  unfold evaluateRow
  refine SameOutside.trans (ite (enterRow_frame _ _) ?_) (changeKnot_frame _ _)
  exact (((enterRow_frame _ _).trans (changeKnot_frame _ _)).trans (knotStopTest_frame _ _)).trans
    (feedKnotRun_frame _ _)

theorem knotRowEdge_frame (s : State) {bs : List Block} (h : Within knotBlocks bs := by decide) :
    SameOutside bs s (knotRowEdge s) := by
  refine mono (bs := knotBlocks) ?_ h
  unfold knotRowEdge
  split
  · exact refl _ _
  · exact changeKnot_frame _ _
  · exact evaluateRow_frame _

theorem knotSeesHeld_frame (s : State) {bs : List Block} (h : Within knotBlocks bs := by decide) :
    SameOutside bs s (knotSeesHeld s) := by
  refine mono (bs := knotBlocks) ?_ h
  unfold knotSeesHeld
  exact ite (closeKnotRun_frame _) (refl _ _)

theorem knotActivation_frame (s : State) {bs : List Block} (h : Within knotBlocks bs := by decide) :
    SameOutside bs s (knotActivation s) := by
  refine mono (bs := knotBlocks) ?_ h
  unfold knotActivation
  exact ite (refl _ _) (((changeKnot_frame _ _).trans (closeKnotRun_frame _)).trans (changeKnot_frame _ _))

theorem knotEntry_frame (s : State) {bs : List Block} (h : Within [.knot] bs := by decide) :
    SameOutside bs s (knotEntry s) := by
  refine mono (bs := [.knot]) ?_ h
  unfold knotEntry
  exact ite (changeKnot_frame _ _) (refl _ _)

theorem knotRestart_frame (s : State) {bs : List Block} (h : Within [.knot] bs := by decide) :
    SameOutside bs s (knotRestart s) := by
  refine mono (bs := [.knot]) ?_ h
  unfold knotRestart
  exact ite (refl _ _) (changeKnot_frame _ _)

/-! ## Lots and firing -/

/-- The blocks that a fired mark may change. -/
abbrev firingBlocks : List Block :=
  [.lots, .lay, .knot, .orders, .marks, .feeds, .builder, .hold, .port, .link]

theorem offerActivation_frame (s : State) {bs : List Block} (h : Within firingBlocks bs := by decide) :
    SameOutside bs s (offerActivation s) :=
  mono (bs := firingBlocks) ((layActivation_frame s).trans (knotActivation_frame _)) h

theorem rebuild_frame (r : LotRecord) (s : State) {bs : List Block} (h : Within firingBlocks bs := by decide) :
    SameOutside bs s (rebuild r s) :=
  mono (bs := firingBlocks) ((withLots s _).trans (offerActivation_frame _)) h

theorem lotChange_frame (tag : Nat) (s : State) {bs : List Block} (h : Within firingBlocks bs := by decide) :
    SameOutside bs s (lotChange tag s) := by
  refine mono (bs := firingBlocks) ?_ h
  unfold lotChange
  refine ite (refl _ _) ?_
  split
  · exact (withLots _ _).trans (rebuild_frame _ _)
  · exact (withLots _ _).trans (latch_frame _ _)

theorem fireMark_frame (m : Mark) (s : State) {bs : List Block} (h : Within firingBlocks bs := by decide) :
    SameOutside bs s (fireMark m s) := by
  refine mono (bs := firingBlocks) ?_ h
  unfold fireMark
  split
  · exact ((lotChange_frame _ _).trans (builderTakes_frame _ _ _)).trans (forward_frame _ _)
  · exact fireOrdinary_frame _ _

theorem fireHead_frame (m : Mark) (rest : List Mark) (s : State) {bs : List Block}
    (h : Within firingBlocks bs := by decide) : SameOutside bs s (fireHead m rest s) :=
  mono (bs := firingBlocks) (((withWaiting_frame _ s).trans (fireMark_frame _ _)).trans (cutTest_frame _)) h

theorem fireReached_frame (n : Nat) (s : State) {bs : List Block} (h : Within firingBlocks bs := by decide) :
    SameOutside bs s (fireReached n s) := by
  refine mono (bs := firingBlocks) ?_ h
  induction n generalizing s with
  | zero => exact refl _ _
  | succ n ih =>
    unfold fireReached
    split
    · exact ite ((fireHead_frame _ _ _).trans (ih _)) (refl _ _)
    · exact refl _ _

theorem evict_frame (s : State) {bs : List Block}
    (h : Within [.marks, .feeds, .builder, .hold, .port, .link] bs := by decide) : SameOutside bs s (evict s) := by
  refine mono (bs := [.marks, .feeds, .builder, .hold, .port, .link]) ?_ h
  unfold evict
  split
  · exact (((withWaiting_frame _ _).trans (cutTest_frame _)).trans (addInterval_frame _ _)).trans
      (loseOrdinary_frame _)
  · exact refl _ _

theorem refuseBoundary_frame (s : State) {bs : List Block}
    (h : Within [.marks, .hold, .port, .link] bs := by decide) : SameOutside bs s (refuseBoundary s) :=
  mono (bs := [.marks, .hold, .port, .link])
    (((giveHold_frame _ s).trans (latch_frame _ _)).trans (withMarks _ _)) h

theorem countMerge_frame (s : State) {bs : List Block} (h : Within [.marks] bs := by decide) :
    SameOutside bs s (countMerge s) := mono (bs := [.marks]) (withMarks _ _) h

theorem mergeOut_frame (m : Mark) (s : State) {bs : List Block}
    (h : Within [.marks, .builder] bs := by decide) : SameOutside bs s (mergeOut m s) := by
  refine mono (bs := [.marks, .builder]) ?_ h
  unfold mergeOut
  split
  · exact ((withWaiting_frame _ _).trans (countMerge_frame _)).trans (builderMerges_frame _ _ _)
  · exact refl _ _

theorem offerMerge_frame (m : Mark) (s t : State) {bs : List Block}
    (h : Within [.builder, .hold, .port] bs := by decide) : SameOutside bs t (offerMerge m s t) := by
  refine mono (bs := [.builder, .hold, .port]) ?_ h
  unfold offerMerge
  exact ite (cutTest_frame _) (refl _ _)

theorem placeMark_frame (m : Mark) (s : State) {bs : List Block} (h : Within firingBlocks bs := by decide) :
    SameOutside bs s (placeMark m s) := by
  refine mono (bs := firingBlocks) ?_ h
  unfold placeMark
  split
  · exact countDuplicate_frame _
  · exact countMerge_frame _
  · exact ((mergeOut_frame _ _).trans (fireMark_frame _ _)).trans (offerMerge_frame _ _ _)
  · exact (mergeOut_frame _ _).trans (storeMark_frame _ _)
  · exact ((mergeOut_frame _ _).trans (evict_frame _)).trans (storeMark_frame _ _)
  · exact ite (((mergeOut_frame _ _).trans (refuseBoundary_frame _)).trans (offerMerge_frame _ _ _))
      (refuseOrdinary_frame _ _)

theorem raiseAny_frame (r : Raising) (s : State) {bs : List Block} (h : Within firingBlocks bs := by decide) :
    SameOutside bs s (raiseAny r s) :=
  mono (bs := firingBlocks) ((takeSerial_frame s).trans (placeMark_frame _ _)) h

end Sys2Proof.Machine
end

