-- ==== Sys2Proof/Laws/EventFrames.lean ====
section
/-! SUPPORT. The frames of the operations that the events are made of: advances, the sense unit, the feeds, the hold
wire, the line bus port, the local link, the entry to RUNNING and RESTART RUN. -/

namespace Sys2Proof.Machine

-- One declaration at a time: elaborated side by side, these proofs need more threads than the check's memory allows.
set_option Elab.async false

open SameOutside

/-- A fold of operations keeps a frame that each of them keeps. -/
theorem foldl_frame {α : Type} {bs : List Block} (f : State → α → State) (h : ∀ s a, SameOutside bs s (f s a)) :
    ∀ (l : List α) (s : State), SameOutside bs s (l.foldl f s)
  | [], s => refl _ s
  | a :: l, s => (h s a).trans (foldl_frame f h l (f s a))

/-! ## Length -/

theorem changeLength_frame (f : LengthUnit → LengthUnit) (s : State) {bs : List Block}
    (h : Within [.length] bs := by decide) : SameOutside bs s (changeLength f s) :=
  mono (bs := [.length]) (withLength _ _) h

theorem changeInput_frame (i : Nat) (f : SenseInput → SenseInput) (s : State) {bs : List Block}
    (h : Within [.sense] bs := by decide) : SameOutside bs s (changeInput i f s) :=
  mono (bs := [.sense]) (withSense _ _) h

/-- The blocks that the cap of a gauge run may change. -/
abbrev gaugeBlocks : List Block := [.sense, .marks, .feeds, .builder, .hold, .port, .link]

theorem capGauge_frame (i : Nat) (s : State) {bs : List Block} (h : Within gaugeBlocks bs := by decide) :
    SameOutside bs s (capGauge i s) := by
  refine mono (bs := gaugeBlocks) ?_ h
  unfold capGauge
  split
  · exact ite ((raiseMark_frame _ _).trans (changeInput_frame _ _ _)) (refl _ _)
  · exact refl _ _

theorem capGauges_frame (s : State) {bs : List Block} (h : Within gaugeBlocks bs := by decide) :
    SameOutside bs s (capGauges s) :=
  mono (bs := gaugeBlocks) (foldl_frame _ (fun t i => capGauge_frame i t) _ s) h

/-- The blocks that an advance may change; the length unit is not one. -/
abbrev advanceBlocks : List Block := .sense :: firingBlocks

theorem advance_frame (s : State) {bs : List Block} (h : Within advanceBlocks bs := by decide) :
    SameOutside bs s (advance s) := by
  refine mono (bs := advanceBlocks) ?_ h
  unfold advance
  exact ((((fireReached_frame _ _).trans (lossTest_frame _ _)).trans (withLosses_frame _ _)).trans
    (builderAdvance_frame _)).trans (capGauges_frame _)

theorem reachCeiling_frame (s : State) {bs : List Block} (h : Within [.length, .hold, .port, .link] bs := by decide) :
    SameOutside bs s (reachCeiling s) :=
  mono (bs := [.length, .hold, .port, .link])
    (((changeLength_frame _ s).trans (giveHold_frame _ _)).trans (latch_frame _ _)) h

theorem moveForward_frame (p : Nat) (s : State) {bs : List Block}
    (h : Within [.length, .hold, .port, .link] bs := by decide) : SameOutside bs s (moveForward p s) := by
  refine mono (bs := [.length, .hold, .port, .link]) ?_ h
  unfold moveForward
  exact ite (reachCeiling_frame _) (changeLength_frame _ _)

theorem handOnRise_frame (old : Nat) (s : State) {bs : List Block} (h : Within advanceBlocks bs := by decide) :
    SameOutside bs s (handOnRise old s) := by
  refine mono (bs := advanceBlocks) ?_ h
  unfold handOnRise
  exact ite (advance_frame _) (refl _ _)

/-- The blocks that a count may change. -/
abbrev countBlocks : List Block := .length :: advanceBlocks

theorem forwardCount_frame (s : State) {bs : List Block} (h : Within countBlocks bs := by decide) :
    SameOutside bs s (forwardCount s) := by
  refine mono (bs := countBlocks) ?_ h
  unfold forwardCount
  refine ite (refl _ _) (ite (ite ?_ ?_) ?_)
  · exact (((moveForward_frame _ _).trans (useOrder_frame _)).trans (layCapTest_frame _)).trans
      (handOnRise_frame _ _)
  · exact (((moveForward_frame _ _).trans (useOrder_frame _)).trans (handOnRise_frame _ _)).trans
      (layCapTest_frame _)
  · exact (moveForward_frame _ _).trans (handOnRise_frame _ _)

theorem reverseCount_frame (s : State) {bs : List Block} (h : Within [.length] bs := by decide) :
    SameOutside bs s (reverseCount s) := by
  refine mono (bs := [.length]) ?_ h
  unfold reverseCount
  exact ite (refl _ _) (ite (changeLength_frame _ _) (changeLength_frame _ _))

theorem wheelCount_frame (forward : Bool) (s : State) {bs : List Block} (h : Within countBlocks bs := by decide) :
    SameOutside bs s (wheelCount forward s) := by
  refine mono (bs := countBlocks) ?_ h
  unfold wheelCount
  exact ite (forwardCount_frame _) (reverseCount_frame _)

theorem decodeWheel_frame (new : Bool × Bool) (s : State) {bs : List Block}
    (h : Within countBlocks bs := by decide) : SameOutside bs s (decodeWheel new s) := by
  refine mono (bs := countBlocks) ?_ h
  unfold decodeWheel
  split
  · exact refl _ _
  · dsimp only
    split
    · exact refl _ _
    · exact (changeLength_frame _ _).trans (wheelCount_frame _ _)
    · exact (changeLength_frame _ _).trans (wheelCount_frame _ _)
    · exact (changeLength_frame _ _).trans (changeLength_frame _ _)

theorem rowAdvance_frame (s : State) {bs : List Block} (h : Within countBlocks bs := by decide) :
    SameOutside bs s (rowAdvance s) := by
  refine mono (bs := countBlocks) ?_ h
  unfold rowAdvance
  refine ite (refl _ _) (ite ?_ ?_)
  · exact (reachCeiling_frame _).trans (advance_frame _)
  · exact (changeLength_frame _ _).trans (advance_frame _)

theorem rowEdge_frame (s : State) {bs : List Block} (h : Within countBlocks bs := by decide) :
    SameOutside bs s (rowEdge s) := by
  refine mono (bs := countBlocks) ?_ h
  unfold rowEdge
  exact ite ((knotRowEdge_frame _).trans (rowAdvance_frame _)) (knotRowEdge_frame _)

theorem lengthEntry_frame (s : State) {bs : List Block} (h : Within [.length] bs := by decide) :
    SameOutside bs s (lengthEntry s) := changeLength_frame _ _ h

theorem lengthRestart_frame (s : State) {bs : List Block} (h : Within [.length, .hold, .port] bs := by decide) :
    SameOutside bs s (lengthRestart s) :=
  mono (bs := [.length, .hold, .port]) ((changeLength_frame _ s).trans (removeHold_frame _ _)) h

/-! ## Sense -/

theorem gaugeActive_frame (i : Nat) (s : State) {bs : List Block} (h : Within [.sense] bs := by decide) :
    SameOutside bs s (gaugeActive i s) := by
  refine mono (bs := [.sense]) ?_ h
  unfold gaugeActive
  split
  · exact refl _ _
  · exact changeInput_frame _ _ _

theorem gaugeInactive_frame (i : Nat) (s : State) {bs : List Block} (h : Within gaugeBlocks bs := by decide) :
    SameOutside bs s (gaugeInactive i s) := by
  refine mono (bs := gaugeBlocks) ?_ h
  unfold gaugeInactive
  split
  · exact ite (changeInput_frame _ _ _) ((changeInput_frame _ _ _).trans (raiseMark_frame _ _))
  · exact refl _ _

theorem handEdge_frame (i : Nat) (s : State) {bs : List Block} (h : Within countBlocks bs := by decide) :
    SameOutside bs s (handEdge i s) := by
  refine mono (bs := countBlocks) ?_ h
  unfold handEdge
  split
  · exact countKnot_frame _ _
  · exact rowEdge_frame _
  · exact raiseMark_frame _ _
  · exact raiseMark_frame _ _
  · exact cutDone_frame _
  · exact refl _ _
  · exact refl _ _

theorem handLevel_frame (i : Nat) (active : Bool) (s : State) {bs : List Block}
    (h : Within gaugeBlocks bs := by decide) : SameOutside bs s (handLevel i active s) := by
  refine mono (bs := gaugeBlocks) ?_ h
  unfold handLevel
  exact ite (ite (gaugeActive_frame _ _) (gaugeInactive_frame _ _)) (refl _ _)

theorem handChange_frame (i : Nat) (level : Bool) (s : State) {bs : List Block}
    (h : Within countBlocks bs := by decide) : SameOutside bs s (handChange i level s) := by
  refine mono (bs := countBlocks) ?_ h
  unfold handChange
  split
  · exact ite (handEdge_frame _ _) (refl _ _)
  · exact ite (refl _ _) (handEdge_frame _ _)
  · exact handLevel_frame _ _ _
  · exact handLevel_frame _ _ _

theorem takeLevel_frame (i : Nat) (level : Bool) (s : State) {bs : List Block}
    (h : Within countBlocks bs := by decide) : SameOutside bs s (takeLevel i level s) :=
  mono (bs := countBlocks) ((changeInput_frame _ _ s).trans (handChange_frame _ _ _)) h

theorem filterRaw_frame (i : Nat) (level : Bool) (s : State) {bs : List Block}
    (h : Within countBlocks bs := by decide) : SameOutside bs s (filterRaw i level s) := by
  refine mono (bs := countBlocks) ?_ h
  unfold filterRaw
  exact ite (changeInput_frame _ _ _) (ite (takeLevel_frame _ _ _) (changeInput_frame _ _ _))

theorem rawChange_frame (i : Nat) (level : Bool) (s : State) {bs : List Block}
    (h : Within (.pins :: countBlocks) bs := by decide) : SameOutside bs s (rawChange i level s) := by
  refine mono (bs := .pins :: countBlocks) ?_ h
  unfold rawChange
  exact ite (refl _ _) (ite ((withPins _ _).trans (filterRaw_frame _ _ _)) (withPins _ _))

theorem filterExpiry_frame (i : Nat) (s : State) {bs : List Block} (h : Within countBlocks bs := by decide) :
    SameOutside bs s (filterExpiry i s) := by
  refine mono (bs := countBlocks) ?_ h
  unfold filterExpiry
  split
  · exact ite (takeLevel_frame _ _ _) (refl _ _)
  · exact refl _ _

theorem spinChange_frame (level : Bool) (s : State) {bs : List Block}
    (h : Within [.pins, .sense] bs := by decide) : SameOutside bs s (spinChange level s) := by
  refine mono (bs := [.pins, .sense]) ?_ h
  unfold spinChange
  exact ite (refl _ _) (ite ((withPins _ _).trans (withSense _ _)) (withPins _ _))

theorem spinExpiry_frame (s : State) {bs : List Block} (h : Within (.sense :: layBlocks) bs := by decide) :
    SameOutside bs s (spinExpiry s) := by
  refine mono (bs := .sense :: layBlocks) ?_ h
  unfold spinExpiry
  split
  · exact ite (ite ((withSense _ _).trans (spindleEdge_frame _)) (withSense _ _)) (refl _ _)
  · exact refl _ _

theorem openGauge_frame (i : Nat) (s : State) {bs : List Block} (h : Within [.sense] bs := by decide) :
    SameOutside bs s (openGauge i s) := changeInput_frame _ _ _ h

theorem inputEntry_frame (i : Nat) (s : State) {bs : List Block} (h : Within [.sense] bs := by decide) :
    SameOutside bs s (inputEntry i s) := by
  refine mono (bs := [.sense]) ?_ h
  unfold inputEntry
  exact ite (refl _ _) (ite ((changeInput_frame _ _ _).trans (openGauge_frame _ _)) (changeInput_frame _ _ _))

theorem senseEntry_frame (s : State) {bs : List Block} (h : Within [.sense] bs := by decide) :
    SameOutside bs s (senseEntry s) :=
  mono (bs := [.sense]) ((foldl_frame _ (fun t i => inputEntry_frame i t) _ s).trans (withSense _ _)) h

theorem senseRestart_frame (s : State) {bs : List Block} (h : Within [.sense] bs := by decide) :
    SameOutside bs s (senseRestart s) :=
  mono (bs := [.sense]) (foldl_frame _ (fun t i => changeInput_frame i _ t) _ s) h

/-! ## Feeds -/

theorem changeFeed_frame (i : Nat) (f : FeedEntry → FeedEntry) (s : State) {bs : List Block}
    (h : Within [.feeds] bs := by decide) : SameOutside bs s (changeFeed i f s) :=
  mono (bs := [.feeds]) (withFeeds _ _) h

theorem feedSilent_frame (i : Nat) (s : State) {bs : List Block}
    (h : Within [.feeds, .builder, .link] bs := by decide) : SameOutside bs s (feedSilent i s) := by
  refine mono (bs := [.feeds, .builder, .link]) ?_ h
  unfold feedSilent
  split
  · exact ite (((changeFeed_frame _ _ _).trans (latch_frame _ _)).trans (offerInterval_frame _ _)) (refl _ _)
  · exact refl _ _

/-- The blocks that a loss interval may change. -/
abbrev lossBlocks : List Block := [.marks, .feeds, .builder, .hold, .port, .link]

theorem closeInterval_frame (i high : Nat) (s : State) {bs : List Block} (h : Within lossBlocks bs := by decide) :
    SameOutside bs s (closeInterval i high s) := by
  refine mono (bs := lossBlocks) ?_ h
  unfold closeInterval
  split
  · exact ((withLosses_frame _ _).trans (offerBuilder_frame _ _)).trans (raiseLoss_frame _ _)
  · exact refl _ _

theorem feedFound_frame (i : Nat) (e : FeedEntry) (s : State) {bs : List Block}
    (h : Within lossBlocks bs := by decide) : SameOutside bs s (feedFound i e s) :=
  mono (bs := lossBlocks) (((changeFeed_frame _ _ s).trans (latch_frame _ _)).trans (closeInterval_frame _ _ _)) h

theorem feedHears_frame (i : Nat) (e : FeedEntry) (s : State) {bs : List Block}
    (h : Within lossBlocks bs := by decide) : SameOutside bs s (feedHears i e s) := by
  refine mono (bs := lossBlocks) ?_ h
  unfold feedHears
  exact (ite (feedFound_frame _ _ _) (refl _ _)).trans (changeFeed_frame _ _ _)

theorem storePosition_frame (i : Nat) (p : PositionPayload) (s : State) {bs : List Block}
    (h : Within [.feeds] bs := by decide) : SameOutside bs s (storePosition i p s) := changeFeed_frame _ _ _ h

theorem serialCheck_frame (i : Nat) (e : FeedEntry) (serial stamp : Nat) (s : State) {bs : List Block}
    (h : Within lossBlocks bs := by decide) : SameOutside bs s (serialCheck i e serial stamp s) := by
  refine mono (bs := lossBlocks) ?_ h
  unfold serialCheck
  exact (ite ((latch_frame _ _).trans (addInterval_frame _ _)) (refl _ _)).trans (changeFeed_frame _ _ _)

theorem takeMark_frame (i : Nat) (e : FeedEntry) (m : MarkPayload) (stamp : Nat) (s : State) {bs : List Block}
    (h : Within firingBlocks bs := by decide) : SameOutside bs s (takeMark i e m stamp s) := by
  refine mono (bs := firingBlocks) ?_ h
  unfold takeMark
  split
  · exact withFeeds _ _
  · split
    · exact placeMark_frame _ _
    · exact withFeeds _ _

theorem feedTakes_frame (i serial stamp : Nat) (payload : Payload) (s : State) {bs : List Block}
    (h : Within firingBlocks bs := by decide) : SameOutside bs s (feedTakes i serial stamp payload s) := by
  refine mono (bs := firingBlocks) ?_ h
  unfold feedTakes
  split
  · exact refl _ _
  · dsimp only
    split
    · exact (feedHears_frame _ _ _).trans (storePosition_frame _ _ _)
    · exact feedHears_frame _ _ _
    · exact feedHears_frame _ _ _
    · split
      · exact feedHears_frame _ _ _
      · exact ((feedHears_frame _ _ _).trans (serialCheck_frame _ _ _ _ _)).trans (takeMark_frame _ _ _ _ _)

theorem feedsEntry_frame (s : State) {bs : List Block} (h : Within [.feeds] bs := by decide) :
    SameOutside bs s (feedsEntry s) := mono (bs := [.feeds]) (withFeeds _ _) h

theorem feedsRestart_frame (s : State) {bs : List Block} (h : Within [.feeds] bs := by decide) :
    SameOutside bs s (feedsRestart s) := mono (bs := [.feeds]) (withFeeds _ _) h

/-! ## Wire -/

theorem wireChange_frame (level : Bool) (s : State) {bs : List Block} (h : Within [.pins, .hold] bs := by decide) :
    SameOutside bs s (wireChange level s) := by
  refine mono (bs := [.pins, .hold]) ?_ h
  unfold wireChange
  exact ite (refl _ _) ((withPins _ _).trans (withHold _ _))

theorem seeHeld_frame (s : State) {bs : List Block} (h : Within (.knot :: layBlocks) bs := by decide) :
    SameOutside bs s (seeHeld s) :=
  mono (bs := .knot :: layBlocks)
    ((((withHold s _).trans (latch_frame _ _)).trans (laySeesHeld_frame _)).trans (knotSeesHeld_frame _)) h

theorem seeRunning_frame (s : State) {bs : List Block} (h : Within [.hold, .lay, .link] bs := by decide) :
    SameOutside bs s (seeRunning s) :=
  mono (bs := [.hold, .lay, .link]) (((withHold s _).trans (latch_frame _ _)).trans (laySeesRunning_frame _)) h

theorem wireExpiry_frame (s : State) {bs : List Block} (h : Within (.knot :: layBlocks) bs := by decide) :
    SameOutside bs s (wireExpiry s) := by
  refine mono (bs := .knot :: layBlocks) ?_ h
  unfold wireExpiry
  split
  · refine ite ?_ (refl _ _)
    split
    · exact seeHeld_frame _
    · exact seeRunning_frame _
  · exact refl _ _

theorem holderReleases_frame (station : Nat) (s : State) {bs : List Block}
    (h : Within [.hold] bs := by decide) : SameOutside bs s (holderReleases station s) :=
  mono (bs := [.hold]) (withHold _ _) h

theorem holderHolds_frame (station : Nat) (reasons : HoldSet) (s : State) {bs : List Block}
    (h : Within [.hold] bs := by decide) : SameOutside bs s (holderHolds station reasons s) := by
  refine mono (bs := [.hold]) ?_ h
  unfold holderHolds
  exact ite (holderReleases_frame _ _) (ite (withHold _ _) (ite (withHold _ _) (withHold _ _)))

/-! ## Bus -/

theorem changePort_frame (f : BusPort → BusPort) (s : State) {bs : List Block}
    (h : Within [.port] bs := by decide) : SameOutside bs s (changePort f s) :=
  mono (bs := [.port]) (withPort _ _) h

theorem muteTest_frame (s : State) {bs : List Block} (h : Within [.port, .link] bs := by decide) :
    SameOutside bs s (muteTest s) := by
  refine mono (bs := [.port, .link]) ?_ h
  unfold muteTest
  exact ite ((changePort_frame _ _).trans (latch_frame _ _)) (refl _ _)

theorem raiseScore_frame (n : Nat) (s : State) {bs : List Block} (h : Within [.port, .link] bs := by decide) :
    SameOutside bs s (raiseScore n s) := by
  refine mono (bs := [.port, .link]) ?_ h
  unfold raiseScore
  exact ite ((changePort_frame _ _).trans (muteTest_frame _)) (refl _ _)

theorem lowerScore_frame (s : State) {bs : List Block} (h : Within [.port] bs := by decide) :
    SameOutside bs s (lowerScore s) := by
  refine mono (bs := [.port]) ?_ h
  unfold lowerScore
  exact ite (changePort_frame _ _) (refl _ _)

theorem idleGap_frame (s : State) {bs : List Block} (h : Within [.port, .link] bs := by decide) :
    SameOutside bs s (idleGap s) := by
  refine mono (bs := [.port, .link]) ?_ h
  unfold idleGap
  split
  · exact refl _ _
  · exact changePort_frame _ _
  · exact changePort_frame _ _
  · exact ite (changePort_frame _ _) ((changePort_frame _ _).trans (latch_frame _ _))

theorem startFrame_frame (s : State) {bs : List Block} (h : Within [.port] bs := by decide) :
    SameOutside bs s (startFrame s) := by
  refine mono (bs := [.port]) ?_ h
  unfold startFrame
  refine ite ?_ (refl _ _)
  split
  · exact changePort_frame _ _
  · exact refl _ _

theorem loseArbitration_frame (s : State) {bs : List Block} (h : Within [.port] bs := by decide) :
    SameOutside bs s (loseArbitration s) := by
  refine mono (bs := [.port]) ?_ h
  unfold loseArbitration
  exact ite (changePort_frame _ _) (refl _ _)

theorem frameSent_frame (s : State) {bs : List Block} (h : Within [.port] bs := by decide) :
    SameOutside bs s (frameSent s) := by
  refine mono (bs := [.port]) ?_ h
  unfold frameSent
  split
  · exact (changePort_frame _ _).trans (lowerScore_frame _)
  · exact refl _ _

theorem failAttempt_frame (slot : Slot) (s : State) {bs : List Block} (h : Within [.port, .link] bs := by decide) :
    SameOutside bs s (failAttempt slot s) := by
  refine mono (bs := [.port, .link]) ?_ h
  unfold failAttempt
  dsimp only
  split
  · exact ite (((changePort_frame _ _).trans (changePort_frame _ _)).trans (dropNotice_frame _))
      (changePort_frame _ _)
  · exact changePort_frame _ _

theorem bitError_frame (s : State) {bs : List Block} (h : Within [.port, .link] bs := by decide) :
    SameOutside bs s (bitError s) := by
  refine mono (bs := [.port, .link]) ?_ h
  unfold bitError
  split
  · exact (ite (changePort_frame _ _) ((changePort_frame _ _).trans (failAttempt_frame _ _))).trans
      (raiseScore_frame _ _)
  · exact refl _ _

theorem holdUnitTakes_frame (station : Nat) (payload : Payload) (s : State) {bs : List Block}
    (h : Within [.hold] bs := by decide) : SameOutside bs s (holdUnitTakes station payload s) := by
  refine mono (bs := [.hold]) ?_ h
  unfold holdUnitTakes
  split
  · exact holderHolds_frame _ _ _
  · exact holderReleases_frame _ _
  · exact refl _ _
  · exact refl _ _

theorem feedUnitTakes_frame (f : RxFrame) (payload : Payload) (s : State) {bs : List Block}
    (h : Within firingBlocks bs := by decide) : SameOutside bs s (feedUnitTakes f payload s) := by
  refine mono (bs := firingBlocks) ?_ h
  unfold feedUnitTakes
  split
  · exact feedTakes_frame _ _ _ _ _
  · exact refl _ _

theorem takeFrame_frame (f : RxFrame) (s : State) {bs : List Block} (h : Within firingBlocks bs := by decide) :
    SameOutside bs s (takeFrame f s) :=
  mono (bs := firingBlocks) ((holdUnitTakes_frame _ _ s).trans (feedUnitTakes_frame _ _ _)) h

theorem judgeReceived_frame (early : Bool) (bits : List Bool) (s : State) {bs : List Block}
    (h : Within firingBlocks bs := by decide) : SameOutside bs s (judgeReceived early bits s) := by
  refine mono (bs := firingBlocks) ?_ h
  unfold judgeReceived
  split
  · exact raiseScore_frame _ _
  · exact raiseScore_frame _ _
  · refine ite ?_ (ite ?_ ?_)
    · exact (changePort_frame _ _).trans (lowerScore_frame _)
    · exact (changePort_frame _ _).trans (raiseScore_frame _ _)
    · exact (lowerScore_frame _).trans (takeFrame_frame _ _)

@[simp] theorem frameOver_noFrameYet (bits : List Bool) (p : BusPort) : (frameOver bits p).noFrameYet = false := rfl
@[simp] theorem frameOver_state (bits : List Bool) (p : BusPort) : (frameOver bits p).state = p.state := rfl
@[simp] theorem frameOver_score (bits : List Bool) (p : BusPort) : (frameOver bits p).score = p.score := rfl
@[simp] theorem frameOver_sending (bits : List Bool) (p : BusPort) : (frameOver bits p).sending = p.sending := rfl

/-- A frame is passed over exactly where it was under way at the entry to LISTEN (R164, R174; entry 39). -/
theorem passesOver_iff (early : Bool) (s : State) : passesOver early s.port = true ↔ wasUnderWay s early := by
  simp [passesOver, wasUnderWay]

/-- A frame that was under way at the entry to LISTEN would not be judged good: its start came early (R161). -/
theorem not_wasUnderWay_of_good {s : State} {early : Bool} {bits : List Bool} {f : RxFrame}
    (h : judgeFrame early bits = .good f) : ¬wasUnderWay s early := by
  rintro ⟨rfl, -⟩
  simp [judgeFrame] at h

/-- What a frame on the bus can do: nothing where the port takes none, its end alone where it is passed over, and
otherwise it is judged (R161, R164, R174). -/
theorem receiveFrame_cases (early : Bool) (bits : List Bool) (s : State) :
    (takesFrames s.port = false ∧ receiveFrame early bits s = s) ∨
    (takesFrames s.port = true ∧ wasUnderWay s early ∧ receiveFrame early bits s = s.withPort (portAfterFrame s bits)) ∨
    (takesFrames s.port = true ∧ ¬wasUnderWay s early ∧
      receiveFrame early bits s = judgeReceived early bits (s.withPort (portAfterFrame s bits))) := by
  unfold receiveFrame
  rw [← passesOver_iff]
  cases takesFrames s.port <;> cases passesOver early s.port <;> simp [changePort, frameOver, portAfterFrame]

theorem receiveFrame_frame (early : Bool) (bits : List Bool) (s : State) {bs : List Block}
    (h : Within firingBlocks bs := by decide) : SameOutside bs s (receiveFrame early bits s) := by
  refine mono (bs := firingBlocks) ?_ h
  unfold receiveFrame
  exact ite (ite (changePort_frame _ _) ((changePort_frame _ _).trans (judgeReceived_frame _ _ _))) (refl _ _)

theorem positionExpiry_frame (s : State) {bs : List Block} (h : Within [.port] bs := by decide) :
    SameOutside bs s (positionExpiry s) := by
  refine mono (bs := [.port]) ?_ h
  unfold positionExpiry
  exact ite ((offerClass3_frame _ _).trans (changePort_frame _ _)) (refl _ _)

theorem portEntry_frame (s : State) {bs : List Block} (h : Within [.port] bs := by decide) :
    SameOutside bs s (portEntry s) := changePort_frame _ _ h

theorem portRestart_frame (s : State) {bs : List Block} (h : Within [.port] bs := by decide) :
    SameOutside bs s (portRestart s) := changePort_frame _ _ h

/-! ## Link -/

theorem countLost_frame (len : Nat) (s : State) {bs : List Block} (h : Within [.link] bs := by decide) :
    SameOutside bs s (countLost len s) := by
  refine mono (bs := [.link]) ?_ h
  unfold countLost
  exact ite (withLink _ _) (refl _ _)

theorem placeReply_frame (len : Nat) (r : Reply) (s : State) {bs : List Block}
    (h : Within [.link] bs := by decide) : SameOutside bs s (placeReply len r s) :=
  mono (bs := [.link]) (withLink _ _) h

theorem finishFrame_frame (len : Nat) (r : Reply) (s : State) {bs : List Block}
    (h : Within [.link] bs := by decide) : SameOutside bs s (finishFrame len r s) :=
  mono (bs := [.link]) ((countLost_frame len s).trans (placeReply_frame _ _ _)) h

theorem refuseFrame_frame (len : Nat) (code : ResultCode) (s : State) {bs : List Block}
    (h : Within [.link] bs := by decide) : SameOutside bs s (refuseFrame len code s) :=
  mono (bs := [.link]) ((withLink s _).trans (finishFrame_frame _ _ _)) h

/-! ## Entry to RUNNING and RESTART RUN -/

/-- The blocks that an entry to RUNNING may change. -/
abbrev entryBlocks : List Block :=
  [.station, .length, .sense, .feeds, .lay, .trim, .knot, .lots, .builder, .hold, .port, .link]

theorem builderEntry_frame (s : State) {bs : List Block}
    (h : Within [.builder, .hold, .port, .link] bs := by decide) : SameOutside bs s (builderEntry s) := by
  refine mono (bs := [.builder, .hold, .port, .link]) ?_ h
  unfold builderEntry
  exact ite ((withBuilder _ _).trans (openCoil_frame _ _ _)) (refl _ _)

theorem enterRunning_frame (s : State) {bs : List Block} (h : Within entryBlocks bs := by decide) :
    SameOutside bs s (enterRunning s) := by
  refine mono (bs := entryBlocks) ?_ h
  unfold enterRunning lotsEntry startTrimPeriod
  exact ((((((((withStation s _).trans (lengthEntry_frame _)).trans (senseEntry_frame _)).trans
    (withLots _ _)).trans (feedsEntry_frame _)).trans (layEntry_frame _)).trans (withTrim _ _)).trans
    (knotEntry_frame _)).trans ((builderEntry_frame _).trans (portEntry_frame _))

/-- The blocks that a RESTART RUN may change. -/
abbrev restartBlocks : List Block :=
  [.length, .sense, .marks, .feeds, .lay, .knot, .builder, .hold, .port, .link]

theorem builderEnds_frame (s : State) {bs : List Block} (h : Within [.builder, .link] bs := by decide) :
    SameOutside bs s (builderEnds s) := by
  refine mono (bs := [.builder, .link]) ?_ h
  unfold builderEnds
  exact ite (refl _ _) ((closeCoil_frame _ _ _ _).trans (withBuilder _ _))

theorem builderBegins_frame (carried : List Event) (s : State) {bs : List Block}
    (h : Within [.builder, .hold, .port, .link] bs := by decide) : SameOutside bs s (builderBegins carried s) := by
  refine mono (bs := [.builder, .hold, .port, .link]) ?_ h
  unfold builderBegins
  exact ite (refl _ _) (openCoil_frame _ _ _)

theorem restart_frame (s : State) {bs : List Block} (h : Within restartBlocks bs := by decide) :
    SameOutside bs s (restart s) := by
  refine mono (bs := restartBlocks) ?_ h
  unfold restart discardMarks
  exact ((((((((builderEnds_frame s).trans (portRestart_frame _)).trans (withMarks _ _)).trans
    (lengthRestart_frame _)).trans (senseRestart_frame _)).trans (feedsRestart_frame _)).trans
    (layRestart_frame _)).trans (knotRestart_frame _)).trans (builderBegins_frame _ _)

/-! ## The commands of the coil builder and of the lot unit -/

theorem loadRecord_frame (r : LotRecord) (s : State) {bs : List Block} (h : Within firingBlocks bs := by decide) :
    SameOutside bs s (loadRecord r s) := by
  refine mono (bs := firingBlocks) ?_ h
  unfold loadRecord storeRecord
  exact ite ((withLots _ _).trans (rebuild_frame _ _)) (withLots _ _)

theorem appendEntry_frame (e : PlanEntry) (s : State) {bs : List Block}
    (h : Within [.builder, .hold, .port, .link] bs := by decide) : SameOutside bs s (appendEntry e s) := by
  refine mono (bs := [.builder, .hold, .port, .link]) ?_ h
  unfold appendEntry
  exact ite ((withBuilder _ _).trans (lateTake_frame _)) (withBuilder _ _)

theorem clearPlan_frame (s : State) {bs : List Block} (h : Within [.builder] bs := by decide) :
    SameOutside bs s (clearPlan s) := mono (bs := [.builder]) ((withBuilder s _).trans (changeCoil_frame _ _)) h

theorem takeCoil_frame (rest : List Coil) (s : State) {bs : List Block}
    (h : Within [.builder, .hold, .port] bs := by decide) : SameOutside bs s (takeCoil rest s) := by
  refine mono (bs := [.builder, .hold, .port]) ?_ h
  unfold takeCoil
  exact ite ((withBuilder _ _).trans (enterCutting_frame _)) (withBuilder _ _)

theorem orderCut_frame (s : State) {bs : List Block} (h : Within [.builder, .hold, .port] bs := by decide) :
    SameOutside bs s (orderCut s) := by
  refine mono (bs := [.builder, .hold, .port]) ?_ h
  unfold orderCut
  exact ite (startReached_frame _ _) (changeCauses_frame _ _)

theorem clearTallies_frame (s : State) {bs : List Block}
    (h : Within [.length, .marks, .feeds, .builder, .port, .link] bs := by decide) :
    SameOutside bs s (clearTallies s) := by
  refine mono (bs := [.length, .marks, .feeds, .builder, .port, .link]) ?_ h
  unfold clearTallies
  exact (((((withLength s _).trans (withMarks _ _)).trans (withFeeds _ _)).trans (withBuilder _ _)).trans
    (withPort _ _)).trans (withLink _ _)

end Sys2Proof.Machine
end

