-- ==== Sys2Proof/Laws/Lists.lean ====
section
/-! SUPPORT. The ordered collections: what an insertion into the mark list, the loss list and the lot table holds, and
that it keeps the order. -/

namespace Sys2Proof.Machine

/-! ## Mark list (R35, R39) -/

/-- A stored mark stands after every mark at or before its position. -/
theorem insertMark_eq (m : Mark) (marks : List Mark) (sorted : marks.Pairwise (fun a b => a.position ≤ b.position)) :
    insertMark m marks = marks.filter (fun w => decide (w.position ≤ m.position)) ++
      m :: marks.filter (fun w => decide (m.position < w.position)) := by
  induction marks with
  | nil => rfl
  | cons w rest ih =>
    obtain ⟨first, later⟩ := List.pairwise_cons.1 sorted
    by_cases h : w.position ≤ m.position
    · simp [insertMark, h, ih later, Nat.not_lt.2 h]
    · have above : ∀ v ∈ rest, m.position < v.position := fun v hv => by have := first v hv; omega
      have none_low : rest.filter (fun v => decide (v.position ≤ m.position)) = [] := by
        simpa [List.filter_eq_nil_iff] using fun v hv => above v hv
      have all_high : rest.filter (fun v => decide (m.position < v.position)) = rest := by
        simpa [List.filter_eq_self] using fun v hv => above v hv
      simp [insertMark, h, none_low, all_high, Nat.not_le.1 h]

theorem mem_insertMark (m w : Mark) (marks : List Mark) : w ∈ insertMark m marks ↔ w = m ∨ w ∈ marks := by
  induction marks with
  | nil => simp [insertMark]
  | cons v rest ih =>
    unfold insertMark
    split
    · simp only [List.mem_cons, ih]; tauto
    · simp

theorem insertMark_length (m : Mark) (marks : List Mark) : (insertMark m marks).length = marks.length + 1 := by
  induction marks with
  | nil => rfl
  | cons v rest ih =>
    unfold insertMark
    split <;> simp [ih]

theorem insertMark_sorted (m : Mark) (marks : List Mark)
    (sorted : marks.Pairwise (fun a b => a.position ≤ b.position)) :
    (insertMark m marks).Pairwise (fun a b => a.position ≤ b.position) := by
  induction marks with
  | nil => simp [insertMark]
  | cons v rest ih =>
    obtain ⟨first, later⟩ := List.pairwise_cons.1 sorted
    unfold insertMark
    split
    · next h =>
      refine List.pairwise_cons.2 ⟨fun w hw => ?_, ih later⟩
      obtain rfl | hw := (mem_insertMark m w rest).1 hw
      · exact h
      · exact first w hw
    · next h =>
      refine List.pairwise_cons.2 ⟨fun w hw => ?_, sorted⟩
      obtain rfl | hw := List.mem_cons.1 hw
      · omega
      · have := first w hw; omega

/-! ## Loss list (R62) -/

theorem mem_insertInterval (i j : LossInterval) (held : List LossInterval) :
    j ∈ insertInterval i held ↔ j = i ∨ j ∈ held := by
  induction held with
  | nil => simp [insertInterval]
  | cons v rest ih =>
    unfold insertInterval
    split
    · simp only [List.mem_cons, ih]; tauto
    · simp

theorem insertInterval_length (i : LossInterval) (held : List LossInterval) :
    (insertInterval i held).length = held.length + 1 := by
  induction held with
  | nil => rfl
  | cons v rest ih =>
    unfold insertInterval
    split <;> simp [ih]

theorem insertInterval_sorted (i : LossInterval) (held : List LossInterval)
    (sorted : held.Pairwise (fun a b => a.low ≤ b.low)) :
    (insertInterval i held).Pairwise (fun a b => a.low ≤ b.low) := by
  induction held with
  | nil => simp [insertInterval]
  | cons v rest ih =>
    obtain ⟨first, later⟩ := List.pairwise_cons.1 sorted
    unfold insertInterval
    split
    · next h =>
      refine List.pairwise_cons.2 ⟨fun w hw => ?_, ih later⟩
      obtain rfl | hw := (mem_insertInterval i w rest).1 hw
      · exact h
      · exact first w hw
    · next h =>
      refine List.pairwise_cons.2 ⟨fun w hw => ?_, sorted⟩
      obtain rfl | hw := List.mem_cons.1 hw
      · omega
      · have := first w hw; omega

/-- An advance keeps an interval that is OPEN, that the run count has not passed, or that it has added itself (R65). -/
theorem mem_passed (runCount : Nat) (added held : List LossInterval) (i : LossInterval) :
    i ∈ passed runCount added held ↔
      i ∈ held ∧ ((∀ h, i.high = some h → runCount ≤ h) ∨ ∃ a ∈ added, standsFor a i = true) := by
  unfold passed
  cases hi : i.high <;> simp [List.mem_filter, hi]

/-- With nothing added, an advance removes the closed intervals that the run count has passed, and no other (R65). -/
theorem passed_nil (runCount : Nat) (held : List LossInterval) :
    passed runCount [] held = held.filter fun i => i.high.all fun h => decide (runCount ≤ h) := by simp [passed]

/-! ## Lot table (R107, R110) -/

/-- A record of the table after an insertion is the one inserted or one held before of another tag or further on. -/
theorem mem_insertRecord (r q : LotRecord) (table : List LotRecord) (h : q ∈ insertRecord r table) :
    q = r ∨ q ∈ table := by
  induction table with
  | nil => simpa [insertRecord] using h
  | cons v rest ih =>
    unfold insertRecord at h
    split at h
    · obtain rfl | h := List.mem_cons.1 h
      · exact .inr (List.mem_cons_self ..)
      · exact (ih h).imp_right (List.mem_cons_of_mem _)
    · split at h
      · exact (List.mem_cons.1 h).imp_right (List.mem_cons_of_mem _)
      · exact List.mem_cons.1 h

/-- An insertion keeps the table in order of tag, no tag twice. -/
theorem insertRecord_sorted (r : LotRecord) (table : List LotRecord)
    (sorted : table.Pairwise (fun a b => a.tag < b.tag)) :
    (insertRecord r table).Pairwise (fun a b => a.tag < b.tag) := by
  induction table with
  | nil => simp [insertRecord]
  | cons v rest ih =>
    obtain ⟨first, later⟩ := List.pairwise_cons.1 sorted
    unfold insertRecord
    split
    · next h =>
      refine List.pairwise_cons.2 ⟨fun w hw => ?_, ih later⟩
      obtain rfl | hw := mem_insertRecord r w rest hw
      · exact h
      · exact first w hw
    · split
      · next h =>
        refine List.pairwise_cons.2 ⟨fun w hw => ?_, later⟩
        have := first w hw; omega
      · next h1 h2 =>
        refine List.pairwise_cons.2 ⟨fun w hw => ?_, sorted⟩
        obtain rfl | hw := List.mem_cons.1 hw
        · omega
        · have := first w hw; omega

end Sys2Proof.Machine
end

