-- ==== Sys2Proof/Laws/Ops.lean ====
section
/-! SUPPORT. What each shared operation does, said once: latching, offers to the port, the own hold reason set, and the
end of a link frame. Proofs cite these and do not unfold the operations. -/

namespace Sys2Proof.Machine

/-! ## Sets -/

/-- A condition just latched stands. -/
theorem hasCondition_latch (c : Condition) (conditions : AttentionSet) :
    hasCondition c (conditions ||| oneCondition c) = true := by
  cases c <;> simp [hasCondition, oneCondition, Condition.bit]

/-- A condition that stands goes on standing. -/
theorem hasCondition_or (c : Condition) (a b : AttentionSet) :
    hasCondition c (a ||| b) = (hasCondition c a || hasCondition c b) := by simp [hasCondition]

/-- A reason just given stands. -/
theorem hasReason_give (r : HoldReason) (own : HoldSet) : hasReason r (giveReason r own) = true := by
  cases r <;> simp [hasReason, giveReason, oneReason, HoldReason.bit]

/-- Giving a reason leaves every other as it was. -/
theorem hasReason_give_other (r q : HoldReason) (own : HoldSet) (h : r ≠ q) :
    hasReason q (giveReason r own) = hasReason q own := by
  cases r <;> cases q <;> simp_all [hasReason, giveReason, oneReason, HoldReason.bit]

/-- A reason just removed does not stand. -/
theorem hasReason_remove (r : HoldReason) (own : HoldSet) : hasReason r (removeReason r own) = false := by
  cases r <;> simp [hasReason, removeReason, oneReason, HoldReason.bit]

/-- Removing a reason leaves every other as it was. -/
theorem hasReason_remove_other (r q : HoldReason) (own : HoldSet) (h : r ≠ q) :
    hasReason q (removeReason r own) = hasReason q own := by
  cases r <;> cases q <;> simp_all [hasReason, removeReason, oneReason, HoldReason.bit]

/-! ## Latching -/

@[simp] theorem latch_link (c : Condition) (s : State) :
    (latch c s).link = { s.link with latched := s.link.latched ||| oneCondition c } := rfl
@[simp] theorem latch_hold (c : Condition) (s : State) : (latch c s).hold = s.hold := rfl
@[simp] theorem latch_port (c : Condition) (s : State) : (latch c s).port = s.port := rfl
@[simp] theorem latch_builder (c : Condition) (s : State) : (latch c s).builder = s.builder := rfl
@[simp] theorem latch_marks (c : Condition) (s : State) : (latch c s).marks = s.marks := rfl
@[simp] theorem latch_feeds (c : Condition) (s : State) : (latch c s).feeds = s.feeds := rfl
@[simp] theorem latch_length (c : Condition) (s : State) : (latch c s).length = s.length := rfl
@[simp] theorem latch_lots (c : Condition) (s : State) : (latch c s).lots = s.lots := rfl
@[simp] theorem latch_lay (c : Condition) (s : State) : (latch c s).lay = s.lay := rfl
@[simp] theorem latch_knot (c : Condition) (s : State) : (latch c s).knot = s.knot := rfl
@[simp] theorem latch_profile (c : Condition) (s : State) : (latch c s).profile = s.profile := rfl

/-! ## Offers -/

/-- An offer to class 0 changes the port alone, and there class 0 and the mark on a superseded frame (R159). -/
theorem offerClass0_eq (payload : Payload) (s : State) : offerClass0 payload s =
    s.withPort { s.port with class0 := some (freshNotice payload 0), sending := supersede .class0 s.port.sending } := rfl

/-- The queue of a MARK notice's place after it has been replaced. -/
theorem fifoOf_withFifo_mark (p : BusPort) (slot : Slot) (q : List Queued)
    (h : slot = .class1 ∨ slot = .own ∨ slot = .forwarded) : fifoOf (withFifo p slot q) slot = q := by
  obtain rfl | rfl | rfl := h <;> rfl

/-- Replacing one place leaves the others as they were. -/
theorem fifoOf_withFifo_other (p : BusPort) (slot other : Slot) (q : List Queued) (h : other ≠ slot) :
    fifoOf (withFifo p slot q) other = fifoOf p other := by
  cases slot <;> cases other <;> first | rfl | exact absurd rfl h

/-- A MARK notice offered to a place with room stands at its tail with the serial it took (R158, R159). -/
theorem offerMark_queued (slot : Slot) (m : MarkPayload) (s : State) (h : (fifoOf s.port slot).length < fifoPlaces) :
    offerMark slot m s = s.withPort (withFifo { s.port with serialCounter := nextSerial8 s.port.serialCounter } slot
      (fifoOf s.port slot ++ [freshNotice (.mark m) s.port.serialCounter])) := by
  unfold offerMark
  exact if_pos h

/-- A MARK notice offered to a full place takes its serial and is dropped (R158, R159). -/
theorem offerMark_dropped (slot : Slot) (m : MarkPayload) (s : State)
    (h : ¬(fifoOf s.port slot).length < fifoPlaces) : offerMark slot m s =
      dropNotice (s.withPort { s.port with serialCounter := nextSerial8 s.port.serialCounter }) := by
  unfold offerMark
  exact if_neg h

/-! ## The recessive end of a frame -/

/-- A frame ends in the recessive bits that stand after its last dominant one (R154). -/
theorem recessiveEnd_eq (before : List Bool) (n : Nat) :
    recessiveEnd (before ++ false :: List.replicate n true) = n := by
  simp [recessiveEnd]

/-- After a frame the bus is idle where a gap had completed and its last 11 bits are recessive (R154; entry 21). -/
theorem idleAfterFrame_eq (gap : Bool) (before : List Bool) (n : Nat) :
    idleAfterFrame gap (before ++ false :: List.replicate n true) = (gap && decide (11 ≤ n)) := by
  rw [idleAfterFrame, recessiveEnd_eq]
  rfl

/-! ## The own hold reason set -/

/-- A request that changes nothing does nothing (R146). -/
theorem setReasons_same (s : State) : setReasons s.hold.own s = s := if_pos rfl

/-- A request that changes the set is reported by one notice to class 0 (R146). -/
theorem setReasons_change (own : HoldSet) (s : State) (h : own ≠ s.hold.own) : setReasons own s =
    offerClass0 (if own = 0 then .release else .hold own) (s.withHold { s.hold with own := own }) := if_neg h

/-- Whatever the request, the set becomes what was asked. -/
theorem setReasons_hold (own : HoldSet) (s : State) : (setReasons own s).hold = { s.hold with own := own } := by
  unfold setReasons
  split
  · next h => subst h; rfl
  · rfl

@[simp] theorem setReasons_link (own : HoldSet) (s : State) : (setReasons own s).link = s.link := by
  unfold setReasons; split <;> rfl
@[simp] theorem setReasons_builder (own : HoldSet) (s : State) : (setReasons own s).builder = s.builder := by
  unfold setReasons; split <;> rfl
@[simp] theorem setReasons_marks (own : HoldSet) (s : State) : (setReasons own s).marks = s.marks := by
  unfold setReasons; split <;> rfl
@[simp] theorem setReasons_length (own : HoldSet) (s : State) : (setReasons own s).length = s.length := by
  unfold setReasons; split <;> rfl
@[simp] theorem setReasons_serialCounter (own : HoldSet) (s : State) :
    (setReasons own s).port.serialCounter = s.port.serialCounter := by
  unfold setReasons; split <;> rfl

/-! ## The end of a link frame -/

/-- The end of a frame puts its reply into the buffer and changes no other block (R180). -/
theorem finishFrame_eq (len : Nat) (r : Reply) (s : State) : finishFrame len r s = s.withLink { s.link with
    reply := some r, ldo := shiftedOut len s
    lostReplies := if losesReply len s then tally s.link.lostReplies else s.link.lostReplies } := by
  unfold finishFrame placeReply countLost
  split <;> rfl

/-- The end of a frame leaves the latched set as it was. -/
@[simp] theorem finishFrame_latched (len : Nat) (r : Reply) (s : State) :
    (finishFrame len r s).link.latched = s.link.latched := by rw [finishFrame_eq]; rfl

/-- The end of a frame leaves the enabled set as it was. -/
@[simp] theorem finishFrame_enabled (len : Nat) (r : Reply) (s : State) :
    (finishFrame len r s).link.enabled = s.link.enabled := by rw [finishFrame_eq]; rfl

/-- After a frame its reply stands in the buffer. -/
@[simp] theorem finishFrame_reply (len : Nat) (r : Reply) (s : State) :
    (finishFrame len r s).link.reply = some r := by rw [finishFrame_eq]; rfl

end Sys2Proof.Machine
end

