-- ==== Sys2Proof/Tests/Slice0.lean ====
section
/-! SUPPORT. Tests of the model. First the well-formedness checks and the worked examples of the spec, each one step from
a small state; then, for each statement of Certificates/Slice0/Obligations.lean that has hypotheses, a state and operands
that meet them, clause by clause and at the ends of the ranges. -/

namespace Sys2Proof.Tests

open Sys2Proof Sys2Proof.Machine

-- One theorem after another: many kernel evaluations at once exceed the memory of the check.
set_option Elab.async false

/-! ## Helpers -/

/-- The state after a command. -/
def after (c : Instr) (s : State) : State :=
  match exec c s with
  | .next t => t
  | .fault _ | .refused _ => s

/-- Station 7 in RUNNING with source WHEEL and wheel step 16,000, the builder OFF, at a run count and fraction. -/
def line (count fraction : Nat) : State :=
  { State.reset with
    station := .running
    profile := { resetProfile with stationNumber := some 7, wheelStep := 16000 }
    length := { State.reset.length with
                runCount := count, fraction := fraction, reference := some (false, false) }
    lots := { State.reset.lots with effective := some resetBase } }

/-- A state with another profile. -/
def profiled (f : Profile → Profile) (s : State) : State := s.withProfile (f s.profile)

/-- Forwarding on. -/
def forwarding (s : State) : State := profiled (fun p => { p with forwarding := true }) s

/-- An input assigned, with a pending change of its level since time 0. -/
def sensed (i : Fin 32) (a : Assignment) (level : Bool) (now : Nat) (s : State) : State :=
  let input : SenseInput :=
    { filtered := some (!level), pending := some { level := level, since := 0 }, gauge := none }
  ((profiled (fun p => { p with inputs := p.inputs.set i a }) s).withSense
    { s.sense with inputs := s.sense.inputs.set i input }).withNow now

/-- An assignment of a service. -/
def serving (service : Service) (detection : Detection) : Assignment :=
  { service := service, detection := detection, filter := 20, expectedKnots := 2 }

/-- The coil builder BUILDING its coil 1 from a start, with a target. -/
def building (start target : Nat) (s : State) : State :=
  s.withBuilder { s.builder with
    state := .building, nextSerial := 2
    current := some (replan
      { record := { newCoil 1 0 start with target := target }, entryRef := false, reading := readingOf resetBase }) }

/-- A waiting mark of a kind at a position. -/
def waiting (kind : MarkKind) (position serial tag : Nat) : Mark :=
  { position := position, kind := kind, span := 0, lotTag := tag, origin := { station := 3, serial := serial }
    detail := 0, hops := 0, source := .feed 0, flags := noFlags }

/-- Marks waiting. -/
def holding (marks : List Mark) (s : State) : State := s.withMarks { s.marks with marks := marks }

/-- The port ACTIVE on an idle bus. -/
def active (s : State) : State := s.withPort { s.port with state := .active, busIdle := true }

/-- A notice as it waits. -/
def notice (payload : Payload) : Queued := { payload := payload, serial := 41, shift := 0, attempts := 0 }

/-- The bits after the start bit of a notice from a station. -/
def heardBits (station stamp : Nat) (slot : Slot) (payload : Payload) : List Bool :=
  (frameBits station slot (notice payload) stamp).tail

/-- The entry of twister 3 as feed 0 in the examples of chapter 4. -/
def twister : FeedEntry :=
  { sender := 3, path := 18500, ratio := 61440, timeout := 2000, reach := 17344, state := .heard, lastLocal := 750000
    prevStamp := some 2405000, expectedSerial := some 41, senderLot := 0, senderSpeed := 0, senderHold := 0
    silenceSince := some 0 }

/-- A feed table of one feed, with a loss list. -/
def fed (e : FeedEntry) (losses : List LossInterval) (s : State) : State :=
  s.withFeeds { s.feeds with table := [e], losses := losses }

/-- The payload of the lay fault in the example of 4.3. -/
def twisterMark : MarkPayload :=
  { position := 2401250, span := 6000, kindCode := 1, hops := 1, lotTag := 9, originStation := 3, originSerial := 1207
    detail := 45 }

/-- A lot record that gives the stretch alone. -/
def lotOf (tag : Nat) : LotRecord :=
  { tag := tag, params := { paramsFrom (fun _ => none) with stretch := some 180 } }

/-! ## Ill-formed terms are refused -/

theorem test_wellFormed_attention_set : (Instr.attentionEnable (2 ^ 24) 0).wellFormed = false := by decide +kernel
theorem test_wellFormed_profile_field : (Instr.profileSet 256 0 0 0).wellFormed = false := by decide +kernel
theorem test_wellFormed_profile_index : (Instr.profileSet 1 256 0 0).wellFormed = false := by decide +kernel
theorem test_wellFormed_profile_value : (Instr.profileSet 1 0 (2 ^ 32) 0).wellFormed = false := by decide +kernel
theorem test_wellFormed_lot_tag : (Instr.lotLoad (lotOf 256) 0).wellFormed = false := by decide +kernel
theorem test_wellFormed_lot_parameter :
    (Instr.lotLoad { tag := 9, params := { (lotOf 9).params with tolerance := some 256 } } 0).wellFormed = false := by
  decide +kernel
theorem test_wellFormed_lot_tags : (Instr.lotDrop 256 0).wellFormed = false ∧ (Instr.lotRead 256 0).wellFormed = false ∧
    (Instr.lotStart 256 0).wellFormed = false := by decide +kernel
theorem test_wellFormed_plan_entry : (Instr.planAppend 256 0 1 0 0).wellFormed = false ∧
    (Instr.planAppend 0 (2 ^ 32) 1 0 0).wellFormed = false ∧ (Instr.planAppend 0 0 256 0 0).wellFormed = false ∧
    (Instr.planAppend 0 0 1 256 0).wellFormed = false := by decide +kernel
theorem test_wellFormed_mark_place : (Instr.markPlace 256 0 0 0).wellFormed = false ∧
    (Instr.markPlace 4 (2 ^ 32) 0 0).wellFormed = false ∧ (Instr.markPlace 4 0 (2 ^ 16) 0).wellFormed = false := by
  decide +kernel
theorem test_wellFormed_indexes : (Instr.markRead 256 0).wellFormed = false ∧ (Instr.feedRead 256 0).wellFormed = false ∧
    (Instr.rowRead 256 0).wellFormed = false := by decide +kernel
/-- A frame that adds up is no BAD_FRAME (R179). -/
theorem test_wellFormed_bad_frame : (Instr.badFrame [1, 0, 255]).wellFormed = false ∧
    (Instr.badFrame [1, 0, 254]).wellFormed = true := by decide +kernel
theorem test_wellFormed_accepts : (Instr.profileSet 255 255 (2 ^ 32 - 1) 7).wellFormed = true ∧
    (Instr.lotLoad (lotOf 255) 0).wellFormed = true := by decide +kernel

/-! ## The worked examples of the spec -/

/-- 1.3: a forward count of 16,000 at 752,110 and 60,000 carries to 752,111 and 10,464. -/
theorem test_wheel_carries : (after (.wheelChange true false) (line 752110 60000)).length.runCount = 752111 ∧
    (after (.wheelChange true false) (line 752110 60000)).length.fraction = 10464 := by decide +kernel

/-- 1.3: a reverse count of 16,000 at 752,112 and 8,928 borrows to 752,111 and 58,464. -/
theorem test_wheel_borrows : (after (.wheelChange false true) (line 752112 8928)).length.runCount = 752111 ∧
    (after (.wheelChange false true) (line 752112 8928)).length.fraction = 58464 := by decide +kernel

/-- 1.4: at a coil start of 752,000 with fraction 4,000 a reverse count is clamped and counted. -/
theorem test_wheel_clamps :
    (after (.wheelChange false true) (building 752000 0 (line 752000 4000))).length.fraction = 0 ∧
      (after (.wheelChange false true) (building 752000 0 (line 752000 4000))).length.reverseClamps = 1 := by
  decide +kernel

/-- 1.5: a row advance of 85 mm from 4,294,967,250 reaches the ceiling. -/
theorem test_row_reaches_ceiling :
    (rowAdvance ((line 4294967250 0).withLots { (line 0 0).lots with
      effective := some { resetBase with rowPitch := 85 } })).length.runCount = 4294967295 := by decide +kernel

/-- 1.8: a rise from 752,110 to 752,235 in 100 ms is a speed of 1,250 mm/s. -/
theorem test_speed_sample :
    (after .speedSample ((line 752235 0).withLength { (line 752235 0).length with
      sampleBase := 752110, sampleDue := some 0 })).length.speed = 1250 := by decide +kernel

/-- 2.2: filter 20 is 2.0 ms: a level that has stood for 200 units of the time base is taken. -/
theorem test_filter_is_two_ms :
    (senseInput (after (.senseFilterExpiry 3) (sensed 3 (serving .splice .rising) true 200 (line 5 0))) 3).filtered =
        some true ∧
      (senseInput (after (.senseFilterExpiry 3) (sensed 3 (serving .splice .rising) true 199 (line 5 0))) 3).filtered =
        some false := by decide +kernel

/-- 4.3: the lay fault of twister 3 stands at 764,719 with span 5,625, and the entry expects serial 42. -/
theorem test_lay_fault_is_translated :
    ((after (.frameReceived false (heardBits 3 2406300 .own (.mark twisterMark)))
        (active (fed twister [] (line 752110 0)))).marks.marks.map fun m => (m.position, m.span, m.kind, m.hops)) =
      [(764719, 5625, .layFault, 1)] := by decide +kernel

/-- 4.3: with P = 2,380,000 the mark is LATE, and it fires at its placement. -/
theorem test_late_mark_fires :
    (after (.frameReceived false (heardBits 3 2406300 .own (.mark { twisterMark with position := 2380000 })))
      (active (fed twister [] (line 752110 0)))).marks.marks = [] := by decide +kernel

/-- 4.4: serial 44 where 42 is expected adds the GAP interval from 520,984 to 769,744. -/
theorem test_gap_interval :
    gapInterval { twister with prevStamp := some 2406300, expectedSerial := some 42 } 2409500 752400 =
      { low := 520984, high := some 769744, cause := .gap, feed := none } := by decide +kernel

/-- 5.1: N = 4,200 with a tolerance of 30 per mille gives the band 4,074 to 4,326. -/
theorem test_lay_band :
    (layWorkingSet { resetBase with nominalLay := 4200, tolerance := 30 }).bandLow = 4074 ∧
      (layWorkingSet { resetBase with nominalLay := 4200, tolerance := 30 }).bandHigh = 4326 := by decide +kernel

/-- 5.8: g = 32 and a deviation of -7 take c from 109 to 105. -/
theorem test_trim_step : trimAfter 109 (-7) 32 = 105 := by decide +kernel

/-- 8.3: a target of 220,000 with a stretch of 180 is a run target of 223,960, cut at 823,960 from 600,000. -/
theorem test_run_target : runTarget 220000 180 = 223960 ∧ plannedCut 600000 220000 180 = 823960 := by decide +kernel

/-- 8.4: 1,250 mm/s and a stop time of 1,800 ms are a lead of 2,250 mm. -/
theorem test_lead :
    lead (profiled (fun p => { p with stopTime := 1800 })
      ((line 0 0).withLength { (line 0 0).length with speed := 1250 })) = 2250 := by decide +kernel

/-- 8.7: 3,100 mm of faults in 223,960 mm are a density of 13 per mille. -/
theorem test_density : density 3100 223960 = 13 := by decide +kernel

/-- A MARK PLACE ahead of the count waits, and one at the count does not (R38, R39). -/
theorem test_mark_place_waits_ahead :
    (after (.markPlace 4 1 77 0) (line 500 0)).marks.marks.map Mark.position = [501] ∧
      (after (.markPlace 4 0 77 0) (line 500 0)).marks.marks = [] := by decide +kernel

/-- LOT START of a tag that is not held sets LOT_UNKNOWN (R115). -/
theorem test_lot_start_unknown : (after (.lotStart 12 0) (line 500 0)).lots.activeTag = 12 ∧
    (after (.lotStart 12 0) (line 500 0)).lots.unknown = true := by decide +kernel

/-- A coil of 10 mm cut on CUT_DONE by hand closes with run length 10, and the next opens at 760 (R131, R135). -/
theorem test_manual_cut :
    ((after (.senseFilterExpiry 2) (sensed 2 (serving .cutDone .rising) true 200
        (building 750 0 (line 760 0)))).builder.log.map fun c => c.closing.map Closing.runLength) = [some 10] := by
  decide +kernel

/-- A gauge fault from 755 to 765 in a coil cut at 760 is TRUNCATED to 5 mm there, and the next coil begins with the other
5 mm, CARRIED (R133). -/
theorem test_fault_is_carried :
    let run (s : State) := after (.senseFilterExpiry 2) (sensed 2 (serving .cutDone .rising) true 200
      (changeRecord (recordMark { waiting .gaugeFault 755 3 0 with span := 10 } false false) s))
    let t := run (building 750 0 (line 760 0))
    (t.builder.log.map fun c => (c.faultTotal, c.events.map fun e => (e.offset, e.span, e.flags.truncated))) =
        [(5, [(5, 5, true)])] ∧
      (t.builder.current.map fun cur => (cur.record.faultTotal, cur.record.gauges,
        cur.record.events.map fun e => (e.offset, e.span, e.flags.carried))) = some (5, 1, [(0, 5, true)]) := by
  decide +kernel

/-- The cut timer takes CUTTING to CUT_FAILED, and CUT is no longer asserted (R129). -/
theorem test_cut_timer :
    (after .cutTimerExpiry (((line 0 0).withBuilder { (building 0 0 (line 0 0)).builder with
      state := .cutting, cutTimer := some 0 }).withNow 500000)).builder.state = .cutFailed := by decide +kernel

/-- HOLD gives ORDERED_HOLD, which is bit 0 (R150, R186). -/
theorem test_hold : (after (.hold 0) (line 0 0)).hold.own = 1 ∧ (after (.hold 0) (line 0 0)).pullsWire = true := by
  decide +kernel

/-- HOLDW low for 2 ms is seen HELD (R144). -/
theorem test_wire_is_seen_held :
    (after .holdDebounceExpiry (((line 0 0).withHold { (line 0 0).hold with
      pending := some { state := .held, since := 0 } }).withNow 200)).hold.observed = .held := by decide +kernel

/-- An idle gap takes LISTEN to ACTIVE (R164). -/
theorem test_idle_activates :
    (after .idle ((line 0 0).withPort { (line 0 0).port with state := .listen })).port.state = .active := by
  decide +kernel

/-- A frame on the bus when the port enters LISTEN is passed over though a gap completes in its end and makes the port
ACTIVE; the next one, and a first one that starts after the gap, whole or cut short, is judged (R161, R164, R174). -/
theorem test_frame_under_way_is_passed_over :
    let bits := frameContent 0 9 2 0 5 [] ++ bitsOf 16 15 ++ List.replicate 7 true
    let s := after .idle (portEntry (line 5 0))
    let t := after (.frameReceived true bits) s
    s.port.state = .active ∧ t.port.score = 0 ∧ (after (.frameReceived true bits) t).port.score = 1 ∧
      (after (.frameReceived false bits) s).port.score = 1 ∧ (after (.frameReceived false []) s).port.score = 1 := by
  decide +kernel

/-- A good frame lowers the score by 1 (R161). -/
theorem test_good_frame_lowers_score :
    (after (.frameReceived false (heardBits 9 5 .class0 .release))
      ((active (line 0 0)).withPort { (active (line 0 0)).port with score := 8 })).port.score = 7 := by decide +kernel

/-- A RELEASE from station 3 at stamp 5 begins with class 0 and station 3, and kind 2 (R153, R187). -/
theorem test_release_frame_begins :
    (heardBits 3 5 .class0 .release).take 12 =
      [false, false, false, false, false, false, true, true, false, false, true, false] := by decide +kernel

/-- R188: the check of one byte 0 is 64,770. -/
theorem test_frame_check : frameCheck (byteBits [0]) = 64770 := by decide +kernel

/-- Chapter 13: PROFILE SET of field 42, index 0, value 180 is the frame 6, 6, 42, 0, 0, 0, 0, 180 and its sum byte. -/
theorem test_profile_set_frame :
    encodeLinkFrame (.profileSet 42 0 180 0) = some [6, 6, 42, 0, 0, 0, 0, 180, 22] ∧
      decodeLinkFrame [6, 6, 42, 0, 0, 0, 0, 180, 22] = .profileSet 42 0 180 0 := by decide +kernel

/-- A frame whose bytes do not add up to 0 is answered BAD_FRAME and tallied (R179). -/
theorem test_bad_frame : replyCode (after (.badFrame [1, 0, 254]) State.reset) = some .badFrame ∧
    (after (.badFrame [1, 0, 254]) State.reset).link.badFrames = 1 := by decide +kernel

/-- ATTENTION ENABLE of a twentieth condition is refused (R184). -/
theorem test_attention_enable : replyCode (after (.attentionEnable 524288 0) State.reset) = some .outOfRange ∧
    (after (.attentionEnable 524287 0) State.reset).link.enabled = 524287 := by decide +kernel

/-- PROFILE CLOSE right after a station reset fails its first check (R172). -/
theorem test_profile_close_needs_a_number :
    (after (.profileClose 0) State.reset).link.reply = some { code := .inconsistent, data := [1] } := by decide +kernel

/-- A station reset puts the profile back (R170, R176). -/
theorem test_power_on_reset : (after .powerOnReset (line 752110 5)).profile.stationNumber = none ∧
    (after .powerOnReset (line 752110 5)).length.runCount = 0 := by decide +kernel

/-! ## Witnesses: queue, profile and resets -/

theorem witness_StepTakesTheFirstCommand : ((line 5 0).withPending [.idle]).pending = [.idle] := by decide +kernel

theorem witness_EveryCommandCompletes : (line 5 0).pending = [] ∧ dueEvent (line 5 0) = none ∧
    dueEvent ((line 5 0).withLength { (line 5 0).length with sampleDue := some 0 }) = some .speedSample := by
  decide +kernel

theorem witness_ProfileIsFrozenWhileRunning :
    (∃ t, exec (.profileSet 1 0 62 0) State.reset = .next t) ∧ ¬isStationReset (.profileSet 1 0 62 0) ∧
      (∃ t, exec .idle (line 5 0) = .next t) ∧ ¬isStationReset .idle := ⟨⟨_, rfl⟩, id, ⟨_, rfl⟩, id⟩

theorem reset_places : PlacesLaw State.reset := by unfold PlacesLaw; decide +kernel

theorem line_places (count fraction : Nat) : PlacesLaw (line count fraction) :=
  ⟨rfl, rfl, rfl, rfl, Nat.zero_le _, .nil, Nat.zero_le _, Nat.zero_le _, .nil, Nat.zero_le _⟩

theorem witness_ProfileSetWritesTheFieldNamed : PlacesLaw State.reset ∧ State.reset.station = .openState ∧
    1 ≤ 62 ∧ 62 ≤ 62 ∧ 3 < 4 ∧ 2000000 ≤ 2000000 ∧ 31 < 32 ∧ 255 ≤ 255 ∧ 1000 ≤ 1000 ∧ 62 < 63 ∧
    PlacesLaw (line 5 0) ∧ (line 5 0).station = .running :=
  ⟨reset_places, rfl, by decide, by decide, by decide, by decide, by decide, by decide, by decide, by decide,
    line_places 5 0, rfl⟩

/-- A profile that passes every check of PROFILE CLOSE. -/
def closable : Profile := { resetProfile with stationNumber := some 7 }

/-- A profile that passes every check but the last: coil building without a CUT_DONE input. -/
def lastCheckFails : Profile := { closable with coilBuilding := true }

theorem closable_passes : ∀ n, 1 ≤ n → n ≤ 15 → closeCheckHolds closable n := by
  intro n h1 h2
  interval_cases n <;> simp [closeCheckHolds, closable, resetProfile, resetAssignment, resetBase]

theorem lastCheckFails_passes : ∀ n, 1 ≤ n → n < 15 → closeCheckHolds lastCheckFails n := by
  intro n h1 h2
  interval_cases n <;> simp [closeCheckHolds, lastCheckFails, closable, resetProfile, resetAssignment, resetBase]

theorem witness_ProfileCloseMakesFifteenChecks :
    ((State.reset.withProfile closable).station = .openState ∧ ∀ n, 1 ≤ n → n ≤ 15 → closeCheckHolds closable n) ∧
    ¬closeCheckHolds State.reset.profile 1 ∧
    (¬closeCheckHolds lastCheckFails 15 ∧ ∀ m, 1 ≤ m → m < 15 → closeCheckHolds lastCheckFails m) ∧
    (line 5 0).station = .running :=
  ⟨⟨rfl, closable_passes⟩, fun h => h rfl,
    ⟨by simp [closeCheckHolds, lastCheckFails, closable, resetProfile, resetAssignment], lastCheckFails_passes⟩, rfl⟩

/-- A wheel station that uses the lay monitor, the coil builder and a GAUGE input. -/
def wheelStation : Profile :=
  { closable with
    laySupervision := true, coilBuilding := true
    inputs := (closable.inputs.set 2 (serving .cutDone .rising)).set 3 (serving .gauge .low) }

/-- A knotter. -/
def rowStation : Profile :=
  { closable with
    source := .rows, knotSupervision := true, base := { resetBase with settleTurns := 0 }
    inputs := (closable.inputs.set 0 (serving .row .rising)).set 1 (serving .knotSection .falling) }

theorem wheelStation_open : OpenLaw (State.reset.withProfile wheelStation) := by unfold OpenLaw; decide +kernel
theorem wheelStation_places : PlacesLaw (State.reset.withProfile wheelStation) := by unfold PlacesLaw; decide +kernel
theorem rowStation_open : OpenLaw (State.reset.withProfile rowStation) := by unfold OpenLaw; decide +kernel
theorem rowStation_places : PlacesLaw (State.reset.withProfile rowStation) := by unfold PlacesLaw; decide +kernel

theorem witness_ProfileCloseStartsEveryBlock :
    (OpenLaw (State.reset.withProfile wheelStation) ∧ PlacesLaw (State.reset.withProfile wheelStation)) ∧
    (OpenLaw (State.reset.withProfile rowStation) ∧ PlacesLaw (State.reset.withProfile rowStation)) ∧
    (State.reset.station = .openState ∧ failedCheck wheelStation = none ∧ failedCheck rowStation = none ∧
      wheelStation.laySupervision = true ∧ wheelStation.coilBuilding = true ∧ wheelStation.knotSupervision = false ∧
      State.reset.hold.observed = .running ∧ 0 < wheelStation.base.settleTurns ∧
      (assignment wheelStation 3).service ≠ .unused ∧ (assignment wheelStation 31).service = .unused ∧
      rowStation.knotSupervision = true ∧ rowStation.laySupervision = false ∧ rowStation.coilBuilding = false) :=
  ⟨⟨wheelStation_open, wheelStation_places⟩, ⟨rowStation_open, rowStation_places⟩, by decide +kernel⟩

/-- The clauses of a lay monitor that starts suspended, and of one with settle turns 0. -/
theorem witness_ProfileCloseStartsEveryBlock_lay :
    ((State.reset.withHold { State.reset.hold with observed := .held }).hold.observed = .held ∧
      OpenLaw ((State.reset.withHold { State.reset.hold with observed := .held }).withProfile wheelStation)) ∧
    { wheelStation with base := rowStation.base }.base.settleTurns = 0 ∧
    failedCheck { wheelStation with base := rowStation.base } = none := by unfold OpenLaw; decide +kernel

/-! ## Witnesses: wheel -/

theorem witness_ForwardCountMovesOneStep :
    (line 5 0).station = .running ∧ (line 5 0).profile.source = .wheel ∧ turnsForward (line 5 0) (true, false) ∧
    (line 5 0).length.saturated = false ∧
    ((line 5 49535).fullPosition + 16000) / 65536 = (line 5 49535).length.runCount ∧ (line 5 49535).lay.window = none ∧
    ((line 4294967294 49535).fullPosition + 16000) / 65536 < maxCount ∧
    maxCount ≤ ((line 4294967294 49536).fullPosition + 16000) / 65536 :=
  ⟨rfl, rfl, ⟨(false, false), rfl, rfl⟩, rfl, by decide +kernel, rfl, by decide +kernel, by decide +kernel⟩

theorem witness_ReverseCountBorrowsOrClamps :
    (line 0 15999).station = .running ∧ (line 0 15999).profile.source = .wheel ∧
    turnsBack (line 0 15999) (false, true) ∧ (line 0 15999).length.saturated = false ∧
    (line 0 15999).fullPosition < (line 0 15999).floor * 65536 + (line 0 15999).profile.wheelStep ∧
    turnsBack (line 0 16000) (false, true) ∧
    (line 0 16000).floor * 65536 + (line 0 16000).profile.wheelStep ≤ (line 0 16000).fullPosition :=
  ⟨rfl, rfl, ⟨(false, false), rfl, rfl⟩, rfl, by decide +kernel, ⟨(false, false), rfl, rfl⟩, by decide +kernel⟩

theorem witness_WheelSkipsAndDroppedCounts :
    (line 5 0).station = .running ∧ (line 5 0).profile.source = .wheel ∧
    (line 5 0).length.reference = some (false, false) ∧ true ≠ false ∧ ¬(true ≠ false ∧ false ≠ false) ∧
    ((line 5 0).withLength { (line 5 0).length with saturated := true }).length.saturated = true ∧
    State.reset.station = .openState ∧ (profiled (fun p => { p with source := .rows }) (line 5 0)).profile.source = .rows := by
  decide +kernel

/-- A wheel of 10 mm a step: station 7 at 5 mm, whose next count reaches 15, with a mark waiting there and another
one millimetre on. -/
def reaching (kind : MarkKind) (source : MarkSource) (hops : Nat) : State :=
  profiled (fun p => { p with wheelStep := 655360 })
    (holding [{ waiting kind 15 3 9 with source := source, hops := hops }, waiting .splice 16 4 0] (line 5 0))

/-- First what the clauses share, whatever the mark, and then clause by clause: a LOT_CHANGE, a mark recorded in a coil,
marks forwarded in either class and one that is not, with the last serial, and a LOSS mark. -/
theorem witness_AdvanceFiresTheMarksItReaches :
    (∀ kind source hops, (reaching kind source hops).station = .running ∧ (reaching kind source hops).profile.source = .wheel ∧
      turnsForward (reaching kind source hops) (true, false) ∧ (reaching kind source hops).length.saturated = false ∧
      15 = min (((reaching kind source hops).fullPosition + (reaching kind source hops).profile.wheelStep) / 65536)
        maxCount ∧
      (reaching kind source hops).length.runCount < 15 ∧ (reaching kind source hops).knot.faultRun = none ∧
      (reaching kind source hops).lay.window = none ∧ (reaching kind source hops).lay.faultRun = none ∧
      (reaching kind source hops).feeds.losses.length + 1 ≤ 8 ∧
      [{ waiting kind 15 3 9 with source := source, hops := hops }] =
        (reaching kind source hops).marks.marks.filter (fun w => w.position ≤ 15)) ∧
    (MarkLaw (reaching .lotChange .here 0) ∧ MarkLaw (reaching .cutRequest (.feed 0) 7)) ∧
    (MarkLaw (reaching .splice (.feed 0) 6) ∧
      (building 0 0 (reaching .splice (.feed 0) 6)).builder.state ≠ .off ∧
      ((building 0 0 (reaching .splice (.feed 0) 6)).builder.current.any fun cur =>
        decide (cur.record.events.length + 1 ≤ 12)) = true) ∧
    ((forwarding (reaching .cutRequest (.feed 0) 7)).builder.state = .off ∧
      (forwarding (reaching .cutRequest (.feed 0) 7)).profile.forwarding = true ∧
      (forwarding (reaching .cutRequest (.feed 0) 7)).port.class1.length + 1 ≤ 4 ∧
      (forwarding (reaching .cutRequest (.feed 0) 7)).port.forwarded.length + 1 ≤ 4 ∧
      ((forwarding (reaching .cutRequest (.feed 0) 7)).port.serialCounter ≤ 255 ∧ 255 ≤ 255)) ∧
    (MarkLaw (reaching .loss (.feed 0) 0) ∧ (waiting .loss 15 3 9).kind = .loss) := by
  refine ⟨fun kind source hops => ⟨rfl, rfl, ⟨(false, false), rfl, rfl⟩, rfl, ?_, ?_, rfl, rfl, rfl, ?_, rfl⟩, ?_⟩
  · show 15 = min ((5 * 65536 + 0 + 655360) / 65536) maxCount
    decide
  · show 5 < 15
    decide
  · show 0 + 1 ≤ 8
    decide
  · refine ⟨⟨?_, ?_⟩, ⟨?_, ?_⟩, ?_, ?_, rfl⟩ <;> first | decide +kernel | (unfold MarkLaw; decide +kernel)

/-- An advance that reaches two LOT_CHANGEs goes through the first lot to the second, and forwards both in class 1 in that
order; a mark of 7 hops between them is not forwarded (R43, R46, R113). -/
theorem test_lot_changes_in_order :
    let t := after (.wheelChange true false) (forwarding (holding
      [waiting .lotChange 12 3 9, { waiting .splice 13 4 0 with hops := 7 }, waiting .lotChange 15 5 12]
        (reaching .splice .here 0)))
    (t.lots.activeTag = 12 ∧ t.lots.unknown = true ∧ t.marks.marks = [] ∧ t.port.forwarded = []) ∧
      t.port.class1.map Queued.payload =
        [.mark ⟨12, 0, 6, 1, 9, 3, 3, 0⟩, .mark ⟨15, 0, 6, 1, 12, 3, 5, 0⟩] := by decide +kernel

/-- A LOSS mark that an advance reaches and overshoots: its RELAYED interval is held over this advance, and the next
removes it (R45, R65). -/
theorem test_relayed_interval_is_held :
    let s := (after (.wheelChange true false) (holding [waiting .loss 12 3 9] (reaching .loss (.feed 0) 0)))
    s.feeds.losses = [{ low := 12, high := some 12, cause := .relayed, feed := none }] ∧
      (after (.wheelChange true true) s).feeds.losses = [] := by decide +kernel

/-! ## Witnesses: sense inputs and SPIN -/

/-- Input 31 assigned SPLICE with a pending rise, its filter time over at 200. -/
def spliceDue (now : Nat) : State := sensed 31 (serving .splice .rising) true now (forwarding (line 5 0))

theorem witness_RawChangeStartsOrCancelsTheFilter :
    PlacesLaw (spliceDue 0) ∧ pinLevel (spliceDue 0) 31 = false ∧ State.reset.station = .openState ∧
    (spliceDue 0).station = .running ∧ (assignment (spliceDue 0).profile 31).service ≠ .unused ∧
    (senseInput (spliceDue 0) 31).filtered ≠ some true ∧ 0 < (assignment (spliceDue 0).profile 31).filter ∧
    (senseInput (sensed 0 (serving .splice .rising) false 0 (line 5 0)) 0).filtered = some true ∧
    (assignment (sensed 0 { serving .splice .rising with filter := 0 } true 0 (line 5 0)).profile 0).filter = 0 := by
  unfold PlacesLaw; decide +kernel

theorem witness_FilterExpiryHandsOnTheEdge :
    PlacesLaw (spliceDue 200) ∧
    (∀ p, (senseInput (spliceDue 199) 31).pending = some p →
      (spliceDue 199).now < p.since + (assignment (spliceDue 199).profile 31).filter * 10) ∧
    (edgeIsDue (spliceDue 200) 31 ∧ forwardsFreely (spliceDue 200) ∧
      (assignment (spliceDue 200).profile 31).service = .splice) ∧
    (edgeIsDue (sensed 0 (serving .operator .falling) false 200 (forwarding (line 5 0))) 0 ∧
      forwardsFreely (sensed 0 (serving .operator .falling) false 200 (forwarding (line 5 0))) ∧
      (assignment (sensed 0 (serving .operator .falling) false 200 (forwarding (line 5 0))).profile 0).service = .operator) ∧
    (edgeIsDue (sensed 0 (serving .knotSection .rising) true 200 (line 5 0)) 0 ∧
      (assignment (sensed 0 (serving .knotSection .rising) true 200 (line 5 0)).profile 0).service = .knotSection ∧
      (sensed 0 (serving .knotSection .rising) true 200 (line 5 0)).knot.state = .off) ∧
    (assignment (sensed 0 (serving .splice .rising) false 200 (line 5 0)).profile 0).detection = .rising := by
  refine ⟨by unfold PlacesLaw; decide +kernel, ?_, ⟨⟨⟨true, 0⟩, rfl, by decide +kernel, .inl ⟨rfl, rfl⟩⟩, ?_, rfl⟩,
    ⟨⟨⟨false, 0⟩, rfl, by decide +kernel, .inr ⟨rfl, rfl⟩⟩, ?_, rfl⟩,
    ⟨⟨⟨true, 0⟩, rfl, by decide +kernel, .inl ⟨rfl, rfl⟩⟩, rfl, rfl⟩, rfl⟩
  · intro p h
    cases h
    decide +kernel
  · exact ⟨rfl, rfl, by decide +kernel, by decide +kernel⟩
  · exact ⟨rfl, rfl, by decide +kernel, by decide +kernel⟩

/-- The clause of a station whose knot monitor counts. -/
theorem witness_FilterExpiryHandsOnTheEdge_knot :
    edgeIsDue ((sensed 0 (serving .knotSection .rising) true 200 (line 5 0)).withKnot
        { State.reset.knot with state := .counting }) 0 ∧
      { State.reset.knot with state := .counting }.state ≠ .off :=
  ⟨⟨⟨true, 0⟩, rfl, by decide +kernel, .inl ⟨rfl, rfl⟩⟩, by decide +kernel⟩

/-- Input 4 assigned GAUGE, HIGH, with a change pending and an open run, if any. -/
def gauged (level : Bool) (run : Option GaugeRun) (count : Nat) : State :=
  let s := sensed 4 (serving .gauge .high) level 200 (forwarding (line count 0))
  s.withSense { s.sense with inputs := s.sense.inputs.set 4 { senseInput s 4 with gauge := run } }

theorem gauged_turn (level : Bool) (run : Option GaugeRun) (count : Nat) :
    gaugeTurnIsDue (gauged level run count) 4 level := ⟨⟨level, 0⟩, rfl, Nat.le_refl 200, .inl ⟨rfl, rfl⟩⟩

theorem witness_GaugeRunOpensAndRaisesItsMark :
    PlacesLaw (gauged true none 5) ∧ (assignment (gauged true none 5).profile 4).service = .gauge ∧
    (gaugeTurnIsDue (gauged true none 5) 4 true ∧ (senseInput (gauged true none 5) 4).gauge = none) ∧
    (gaugeTurnIsDue (gauged false (some ⟨5, true⟩) 5) 4 false ∧
      (senseInput (gauged false (some ⟨5, true⟩) 5) 4).gauge = some ⟨5, true⟩ ∧
      (5 : Nat) = (gauged false (some ⟨5, true⟩) 5).length.runCount) ∧
    (gaugeTurnIsDue (gauged false (some ⟨0, false⟩) 262144) 4 false ∧
      (senseInput (gauged false (some ⟨0, false⟩) 262144) 4).gauge = some ⟨0, false⟩ ∧
      forwardsFreely (gauged false (some ⟨0, false⟩) 262144) ∧
      (gauged false (some ⟨0, false⟩) 262144).length.runCount ≤ 0 + 262144) :=
  ⟨by unfold PlacesLaw; decide +kernel, rfl, ⟨gauged_turn _ _ _, rfl⟩, ⟨gauged_turn _ _ _, rfl, rfl⟩,
    ⟨gauged_turn _ _ _, rfl, ⟨rfl, rfl, by decide +kernel, by decide +kernel⟩, by decide +kernel⟩⟩

/-- The same station with an open run from 0, whose next wheel count comes to a run count. -/
def capping (count : Nat) : State :=
  profiled (fun p => { p with wheelStep := 655360 }) (gauged true (some ⟨0, false⟩) (count - 10))

/-- The clauses of the span cap: one millimetre below it, at it, and at the lookback bound. -/
theorem witness_GaugeRunOpensAndRaisesItsMark_cap :
    (∀ count, turnsForward (capping count) (true, false)) ∧
    (PlacesLaw (capping 131071) ∧ (capping 131071).station = .running ∧ (capping 131071).profile.source = .wheel ∧
      (capping 131071).length.saturated = false ∧ (senseInput (capping 131071) 4).gauge = some ⟨0, false⟩) ∧
    (131070 = min (((capping 131070).fullPosition + (capping 131070).profile.wheelStep) / 65536) maxCount ∧
      (capping 131070).length.runCount < 131070 ∧ 131070 < 0 + 131071) ∧
    (131071 = min (((capping 131071).fullPosition + (capping 131071).profile.wheelStep) / 65536) maxCount ∧
      0 + 131071 ≤ 131071) ∧
    (262144 = min (((capping 262144).fullPosition + (capping 262144).profile.wheelStep) / 65536) maxCount ∧
      262144 ≤ 0 + 262144 ∧ 262144 < maxCount ∧ forwardsFreely (capping 262144) ∧
      (capping 262144).marks.marks = [] ∧ (capping 262144).lay.window = none ∧
      ∀ j < 32, j ≠ 4 → (senseInput (capping 262144) j).gauge = none) := by
  refine ⟨fun _ => ⟨(false, false), rfl, rfl⟩, by unfold PlacesLaw; decide +kernel, by decide +kernel, by decide +kernel,
    by decide +kernel, by decide, by decide, ⟨rfl, rfl, by decide +kernel, by decide +kernel⟩, rfl, rfl, ?_⟩
  decide +kernel

/-- A CUT_DONE, SPLICE or other input of a coiler whose coil 1 began at 750, at a run count. -/
def coiling (a : Assignment) (count : Nat) : State := sensed 2 a true 200 (building 750 0 (line count 0))

theorem coiling_edge (a : Assignment) (count : Nat) (ha : a.detection = .rising) (hf : a.filter = 20) :
    edgeIsDue (coiling a count) 2 :=
  ⟨⟨true, 0⟩, rfl, by
    show 0 + a.filter * 10 ≤ 200
    omega, .inl ⟨ha, rfl⟩⟩

theorem witness_SpliceEdgeIsRecordedInTheCoil :
    PlacesLaw (coiling (serving .splice .rising) 760) ∧
    (assignment (coiling (serving .splice .rising) 760).profile 2).service = .splice ∧
    edgeIsDue (coiling (serving .splice .rising) 760) 2 ∧
    (coiling (serving .splice .rising) 760).profile.forwarding = false ∧
    (coiling (serving .splice .rising) 760).builder.state ≠ .off ∧
    (∃ cur, (coiling (serving .splice .rising) 760).builder.current = some cur) ∧
    (coiling (serving .splice .rising) 760).marks.marks = [] :=
  ⟨by unfold PlacesLaw; decide +kernel, rfl, coiling_edge _ _ rfl rfl, rfl, by decide +kernel, ⟨_, rfl⟩, rfl⟩

/-- A lay working set of N = 4,200 with a tolerance of 30 per mille, as in the examples of chapter 5. -/
def bandSet : LayWorkingSet :=
  layWorkingSet { resetBase with
    nominalLay := 4200, tolerance := 30, stopTolerance := 80, windowTwists := 40, trimGain := 32 }

/-- The lay monitor in a state, with a pending change of SPIN since time 0. -/
def spun (state : LayState) (window : Option LayWindow) (run : Option LayFaultRun) (level : Bool) (count : Nat) : State :=
  (((line count 0).withLay { State.reset.lay with
    state := state, working := some bandSet, window := window, faultRun := run }).withSense
      { State.reset.sense with
        spinFiltered := some (!level), spinPending := some { level := level, since := 0 } }).withNow 50

theorem witness_SpindleEdgesAreFilteredAndCounted :
    (line 5 0).pins.spin ≠ true ∧ State.reset.station = .openState ∧ (line 5 0).station = .running ∧
    (spun .off none none false 5).sense.spinPending = some ⟨false, 0⟩ ∧ 0 + 50 ≤ (spun .off none none false 5).now ∧
    (spun .settling none none true 5).lay.state = .settling ∧
    (spun .settling none none true 5).lay.working = some bandSet ∧
    (spun .measuring (some ⟨0, 38⟩) none true 5).lay.window = some ⟨0, 38⟩ ∧
    38 + (spun .measuring (some ⟨0, 38⟩) none true 5).profile.twistsPerPulse < bandSet.windowTwists := by decide +kernel

/-- A window of 40 twists from a run count that closes at another, with no fault run, or with one open. -/
def closing (start : Nat) (run : Option LayFaultRun) (count : Nat) : State :=
  spun .measuring (some ⟨start * 65536, 39⟩) run true count

/-- The window of the first case closes at 4,200, in the middle of the band; the fault run has enough windows, or not. -/
theorem witness_SpindleEdgeClosesTheWindow :
    CountLaw (closing 0 none 16800) ∧ (closing 0 none 16800).sense.spinPending = some ⟨true, 0⟩ ∧
    0 + 50 ≤ (closing 0 none 16800).now ∧ (closing 0 none 16800).lay.state = .measuring ∧
    (closing 0 none 16800).lay.working = some bandSet ∧ (closing 0 none 16800).lay.window = some ⟨0, 39⟩ ∧
    0 < bandSet.nominal ∧ 0 < (closing 0 none 16800).profile.twistsPerPulse ∧
    40 = 39 + (closing 0 none 16800).profile.twistsPerPulse ∧ bandSet.windowTwists ≤ 40 ∧
    (16800 * 65536 = ((closing 0 none 16800).fullPosition : Int) - (0 : Nat) ∧ (0 : Int) < 16800 * 65536 ∧
      ((4200 : Nat) : Int) = min 65535 ((16800 * 65536 * 10 + (40 : Nat) * 32768) / ((40 : Nat) * 65536)) ∧
      (0 : Int) = (((4200 : Nat) : Int) - (bandSet.nominal : Nat)) * 1000 ∧
      (0 : Int) = min 999 ((2 * 0 + (bandSet.nominal : Nat)) / (2 * (bandSet.nominal : Nat)))) ∧
    (bandSet.bandLow ≤ 4200 ∧ 4200 ≤ bandSet.bandHigh ∧ (0 : Int).natAbs ≤ bandSet.stopTolerance) ∧
    ((closing 0 (some ⟨0, 4, 2, 5⟩) 16800).lay.faultRun = some ⟨0, 4, 2, 5⟩ ∧ 2 < bandSet.faultWindows) ∧
    (bandSet.faultWindows ≤ 3 ∧ (16800 : Nat) ≤ 0 + 262144 ∧
      (forwarding (closing 0 (some ⟨0, 4, 3, 5⟩) 16800)).profile.forwarding = true ∧
      (forwarding (closing 0 (some ⟨0, 4, 3, 5⟩) 16800)).builder.state = .off ∧
      (forwarding (closing 0 (some ⟨0, 4, 3, 5⟩) 16800)).port.own.length < 4 ∧
      (forwarding (closing 0 (some ⟨0, 4, 3, 5⟩) 16800)).marks.marks = []) := by
  unfold CountLaw; decide +kernel

/-- The window that closes at 5,000 stops the line; the ones of 17,600 mm close at 4,400, out of band and within the stop
tolerance, where the fault run stays below its cap and where it reaches it; and one of no length has lay 0. -/
theorem witness_SpindleEdgeClosesTheWindow_band :
    (((5000 : Nat) : Int) = min 65535 ((20000 * 65536 * 10 + (40 : Nat) * 32768) / ((40 : Nat) * 65536)) ∧
      (190 : Int) = min 999 ((2 * ((5000 - 4200) * 1000) + (bandSet.nominal : Nat)) / (2 * (bandSet.nominal : Nat))) ∧
      bandSet.bandHigh < 5000 ∧ bandSet.stopTolerance < (190 : Int).natAbs ∧
      (closing 0 none 20000).lay.faultRun = none ∧
      (closing 0 none 20000).fullPosition / 65536 < 0 / 65536 + 131071) ∧
    (((4400 : Nat) : Int) = min 65535 ((17600 * 65536 * 10 + (40 : Nat) * 32768) / ((40 : Nat) * 65536)) ∧
      (48 : Int) = min 999 ((2 * ((4400 - 4200) * 1000) + (bandSet.nominal : Nat)) / (2 * (bandSet.nominal : Nat))) ∧
      bandSet.bandHigh < 4400 ∧ (48 : Int).natAbs ≤ bandSet.stopTolerance) ∧
    (((closing 113470 (some ⟨0, 4, 255, 5⟩) 131070).fullPosition : Int) - (113470 * 65536 : Nat) = 17600 * 65536 ∧
      (closing 113470 (some ⟨0, 4, 255, 5⟩) 131070).lay.faultRun = some ⟨0, 4, 255, 5⟩ ∧
      (closing 113470 (some ⟨0, 4, 255, 5⟩) 131070).fullPosition / 65536 < 0 + 131071) ∧
    (((closing 113471 (some ⟨0, 4, 255, 5⟩) 131071).fullPosition : Int) - (113471 * 65536 : Nat) = 17600 * 65536 ∧
      0 + 131071 ≤ (closing 113471 (some ⟨0, 4, 255, 5⟩) 131071).fullPosition / 65536 ∧
      (closing 113471 (some ⟨0, 4, 255, 5⟩) 131071).length.runCount ≤ 0 + 262144 ∧
      (forwarding (closing 113471 (some ⟨0, 4, 255, 5⟩) 131071)).port.own.length < 4) ∧
    (((closing 7 none 7).fullPosition : Int) - (7 * 65536 : Nat) ≤ 0 ∧ 0 < bandSet.bandLow ∧
      (-999 : Int) = max (-999) (-((2 * -(((0 : Int) - 4200) * 1000) + (bandSet.nominal : Nat)) /
        (2 * (bandSet.nominal : Nat))))) := by decide +kernel

/-- A station whose next speed sample falls due at 100. -/
def sampling (now : Nat) : State := ((line 5 0).withLength { (line 5 0).length with sampleDue := some 100 }).withNow now

/-- A TRIM period that started at 0, with a high time. -/
def trimming (level : Bool) (now : Nat) : State :=
  ((line 5 0).withTrim { periodStart := some 0, highTime := 500, level := level }).withNow now

/-- A station whose POSITION timer started at 0, at a time. -/
def positioning (now : Nat) : State :=
  ((line 5 0).withPort { (line 5 0).port with positionSince := some 0 }).withNow now

theorem witness_TimersActAtTheirTimes :
    ((sampling 100).length.sampleDue = some 100 ∧ 100 ≤ (sampling 100).now ∧ (sampling 99).now < 100) ∧
    ((trimming true 1000).trim.periodStart = some 0 ∧ 0 + 1000 ≤ (trimming true 1000).now ∧
      (trimming true 999).now < 0 + 1000 ∧
      ((trimming true 500).trim.level = true ∧ 0 + (trimming true 500).trim.highTime ≤ (trimming true 500).now) ∧
      (trimming true 499).now < 0 + (trimming true 499).trim.highTime ∧ (trimming false 500).trim.level = false) ∧
    ((positioning 50000).port.positionSince = some 0 ∧
      0 + (positioning 50000).profile.positionInterval * 100 ≤ (positioning 50000).now ∧
      (positioning 49999).now < 0 + (positioning 49999).profile.positionInterval * 100) := by decide +kernel

/-! ## Witnesses: knot monitor -/

/-- A knotter with a ROW edge due and one section of 9 expected knots that has counted some, and has missed some rows
in sequence. -/
def rowing (state : KnotState) (cause : FirstRowCause) (counted misses : Nat) : State :=
  (sensed 0 (serving .row .rising) true 200 (line 5 0)).withKnot
    { State.reset.knot with
      state := state, cause := cause, working := some { stopCount := 8, brokenRows := 3 }
      sections := [{ input := 31, expected := 9, count := counted, misses := misses, noise := 0 }] }

theorem rowing_edge (state : KnotState) (cause : FirstRowCause) (counted misses : Nat) :
    edgeIsDue (rowing state cause counted misses) 0 := ⟨⟨true, 0⟩, rfl, Nat.le_refl 200, .inl ⟨rfl, rfl⟩⟩

/-- The total test fails at 1 of 9 knots and the broken-twine test at a third row of misses; 2 of 9 knots after one row of
misses, and 9 or 10 of 9, pass. -/
theorem witness_RowEdgeEvaluatesTheRow :
    PlacesLaw (rowing .counting .start 1 0) ∧ (assignment (rowing .counting .start 1 0).profile 0).service = .row ∧
    edgeIsDue (rowing .counting .start 1 0) 0 ∧ (rowing .counting .start 1 0).knot.state = .counting ∧
    (rowing .counting .start 1 0).knot.working = some ⟨8, 3⟩ ∧
    (rowing .counting .start 1 0).length.saturated = false ∧
    (rowing .counting .start 0 0).knot.sections.all (fun c => c.count = 0) = true ∧
    (rowing .counting .start 1 0).knot.sections.all (fun c => c.count = 0) = false ∧
    8 ≤ ((rowing .counting .start 1 0).knot.sections.map (fun c => c.expected - c.count)).sum ∧
    (∃ c ∈ (rowing .counting .start 8 2).knot.sections, 3 ≤ missesAfter c) ∧
    (((rowing .counting .start 2 1).knot.sections.map (fun c => c.expected - c.count)).sum < 8 ∧
      0 < ((rowing .counting .start 2 1).knot.sections.map (fun c => c.expected - c.count)).sum ∧
      ∀ c ∈ (rowing .counting .start 2 1).knot.sections, missesAfter c < 3) ∧
    (((rowing .counting .start 10 2).knot.sections.map (fun c => c.expected - c.count)).sum = 0 ∧
      ∀ c ∈ (rowing .counting .start 10 2).knot.sections, missesAfter c < 3) ∧
    (rowing .counting .start 2 1).marks.marks = [] ∧ (rowing .counting .start 2 1).knot.faultRun = none :=
  ⟨by unfold PlacesLaw; decide +kernel, rfl, rowing_edge _ _ _ _, rfl, rfl, rfl, by decide +kernel, by decide +kernel,
    by decide +kernel, ⟨_, List.mem_singleton_self _, by decide⟩, by decide +kernel, by decide +kernel, rfl, rfl⟩

/-- The same station with a fault run from 0 to 5 of some rows, and forwarding on. -/
def rowEnding (counted rows : Nat) : State :=
  let s := forwarding (rowing .counting .start counted 0)
  s.withKnot { s.knot with
    faultRun := some { start := 0, finish := 5, rows := rows, total := 65535, firstSerial := 0 } }

/-- The clauses of a KNOT_FAULT: a row with every knot, and the 64th row with 7 missing, both at the run count and with the
length unit saturated at the lookback bound. -/
theorem witness_RowEdgeEvaluatesTheRow_fault :
    (PlacesLaw (rowEnding 9 1) ∧ edgeIsDue (rowEnding 9 1) 0 ∧ (rowEnding 9 1).knot.state = .counting ∧
      (rowEnding 9 1).knot.faultRun = some ⟨0, 5, 1, 65535, 0⟩ ∧
      ((rowEnding 9 1).knot.sections.map (fun c => c.expected - c.count)).sum = 0 ∧ 0 < 8 ∧
      (∀ c ∈ (rowEnding 9 1).knot.sections, missesAfter c < 3) ∧ forwardsFreely (rowEnding 9 1) ∧
      0 ≤ (rowEnding 9 1).length.runCount ∧ (rowEnding 9 1).length.runCount ≤ 0 + 262144) ∧
    (edgeIsDue (rowEnding 2 63) 0 ∧ (rowEnding 2 63).knot.faultRun = some ⟨0, 5, 63, 65535, 0⟩ ∧
      ((rowEnding 2 63).knot.sections.map (fun c => c.expected - c.count)).sum = 7 ∧ 7 < 8 ∧ 63 ≤ 63 ∧
      (∀ c ∈ (rowEnding 2 63).knot.sections, missesAfter c < 3) ∧ forwardsFreely (rowEnding 2 63)) ∧
    (min ((rowEnding 9 1).length.runCount + (rowEnding 9 1).effective.rowPitch) maxCount < maxCount ∧
      (rowEnding 9 1).marks.marks = [] ∧ ∀ j < 32, (senseInput (rowEnding 9 1) j).gauge = none) ∧
    (((rowEnding 9 1).withLength { (rowEnding 9 1).length with saturated := true }).length.saturated = true ∧
      262144 ≤ 0 + 262144) := by
  refine ⟨⟨by unfold PlacesLaw; decide +kernel, ⟨⟨true, 0⟩, rfl, Nat.le_refl 200, .inl ⟨rfl, rfl⟩⟩, rfl, rfl,
      by decide +kernel, by decide, by decide +kernel, ⟨rfl, rfl, by decide +kernel, by decide +kernel⟩, Nat.zero_le _,
      by decide +kernel⟩,
    ⟨⟨⟨true, 0⟩, rfl, Nat.le_refl 200, .inl ⟨rfl, rfl⟩⟩, rfl, by decide +kernel, by decide, by decide, by decide +kernel,
      ⟨rfl, rfl, by decide +kernel, by decide +kernel⟩⟩, by decide +kernel, rfl, by decide⟩

/-- A ROW edge whose advance reaches a mark: a SPLICE in COUNTING, also with knots missing, and a LOT_CHANGE in FIRST_ROW
after an activation. -/
def rowReaching (kind : MarkKind) (state : KnotState) (counted : Nat) : State :=
  holding [waiting kind 6 3 9] (rowing state .lot counted 0)

theorem witness_AdvanceFiresTheMarksItReaches_row :
    (∀ kind state counted, edgeIsDue (rowReaching kind state counted) 0 ∧
      (assignment (rowReaching kind state counted).profile 0).service = .row ∧
      (rowReaching kind state counted).length.saturated = false ∧
      (rowReaching kind state counted).knot.cause = .lot ∧ (rowReaching kind state counted).knot.faultRun = none) ∧
    (PlacesLaw (rowReaching .splice .counting 2) ∧ MarkLaw (rowReaching .splice .counting 2) ∧
      (∃ c ∈ (rowReaching .splice .counting 2).knot.sections, 0 < c.count) ∧
      105 = min ((rowReaching .splice .counting 2).length.runCount + (rowReaching .splice .counting 2).effective.rowPitch)
        maxCount ∧
      [waiting .splice 6 3 9] = (rowReaching .splice .counting 2).marks.marks.filter (fun w => w.position ≤ 105) ∧
      ∀ m ∈ [waiting .splice 6 3 9], m.kind ≠ .lotChange) ∧
    (PlacesLaw (rowReaching .lotChange .firstRow 9) ∧ MarkLaw (rowReaching .lotChange .firstRow 9) ∧
      (∃ c ∈ (rowReaching .lotChange .firstRow 9).knot.sections, 0 < c.count) ∧
      (∀ c ∈ (rowReaching .lotChange .firstRow 9).knot.sections, c.expected ≤ c.count) ∧
      [waiting .lotChange 6 3 9] =
        (rowReaching .lotChange .firstRow 9).marks.marks.filter (fun w => w.position ≤ 105)) := by
  refine ⟨fun _ _ _ => ⟨⟨⟨true, 0⟩, rfl, Nat.le_refl 200, .inl ⟨rfl, rfl⟩⟩, rfl, rfl, rfl, rfl⟩, ?_, ?_⟩
  all_goals unfold PlacesLaw MarkLaw; decide +kernel

/-- The clauses of a saturated length unit, of a fault run of 63 rows, and of a settling row. -/
theorem witness_RowEdgeEvaluatesTheRow_settling :
    ((rowing .counting .start 2 1).withLength
      { (line maxCount 0).length with saturated := true }).length.saturated = true ∧
    (63 ≤ (⟨5, 5, 63, 9, 0⟩ : KnotFaultRun).rows ∧ ¬63 ≤ (⟨5, 5, 62, 9, 0⟩ : KnotFaultRun).rows) ∧
    (PlacesLaw (rowing .firstRow .lot 1 0) ∧ edgeIsDue (rowing .firstRow .lot 1 0) 0 ∧
      (rowing .firstRow .lot 1 0).knot.state = .firstRow ∧ (rowing .firstRow .lot 1 0).knot.cause = .lot ∧
      (rowing .firstRow .lot 1 0).length.saturated = false ∧
      (∃ c ∈ (rowing .firstRow .lot 1 0).knot.sections, 0 < c.count)) ∧
    (edgeIsDue (rowing .firstRow .start 1 0) 0 ∧ (rowing .firstRow .start 1 0).knot.cause = .start) ∧
    (∀ c ∈ (rowing .firstRow .lot 0 0).knot.sections, c.count = 0) :=
  ⟨rfl, by decide, ⟨by unfold PlacesLaw; decide +kernel, rowing_edge _ _ _ _, rfl, rfl, rfl,
    ⟨_, List.mem_singleton_self _, by decide⟩⟩, ⟨rowing_edge _ _ _ _, rfl⟩, by decide +kernel⟩

/-! ## Witnesses: mark list -/

/-- A list of `n` marks of a kind at one position. -/
def manyMarks (kind : MarkKind) (n : Nat) : List Mark := (List.range n).map fun k => waiting kind 900 k 0

theorem witness_MarkPlaceFiresOrIsRefused :
    ((line 4294967295 0).station = .running ∧ (line 4294967295 0).length.runCount ≤ maxCount ∧
      forwardsFreely (forwarding (line 4294967295 0))) ∧
    State.reset.station = .openState ∧ 5 ≠ 4 ∧ 5 ≠ 7 ∧ 10000000 < 10000001 ∧
    (10000000 ≤ 10000000 ∧ (line 500 0).length.runCount + 10000000 ≤ maxCount ∧
      (∀ w ∈ (holding (manyMarks .splice 88) (line 500 0)).marks.marks,
        w.origin ≠ { station := (line 500 0).stationNumber, serial := 0 }) ∧
      88 ≤ ordinaryWaiting (holding (manyMarks .splice 88) (line 500 0)).marks.marks) ∧
    (96 ≤ (holding (manyMarks .cutRequest 96) (line 500 0)).marks.marks.length ∧
      ordinaryWaiting (holding (manyMarks .cutRequest 96) (line 500 0)).marks.marks = 0) := by
  refine ⟨⟨rfl, by decide +kernel, rfl, rfl, by decide +kernel, by decide +kernel⟩, rfl, by decide, by decide, by decide,
    ⟨by decide, by decide +kernel, by decide +kernel, by decide +kernel⟩, by decide +kernel, by decide +kernel⟩

theorem witness_MarkPlaceAheadWaitsInOrder :
    MarkLaw (holding (manyMarks .splice 87) (line 500 0)) ∧ (line 500 0).station = .running ∧
    ordinaryWaiting (manyMarks .splice 87) < 88 ∧ (manyMarks .cutRequest 95).length < 96 ∧
    MarkLaw (holding (manyMarks .cutRequest 95) (line 500 0)) ∧
    0 < 1 ∧ 10000000 ≤ 10000000 ∧ (line 500 0).length.runCount + 10000000 ≤ maxCount ∧
    (∀ w ∈ manyMarks .cutRequest 95, w.origin ≠ { station := (line 500 0).stationNumber, serial := 0 }) := by
  unfold MarkLaw; decide +kernel

/-- 96 places full: some ordinary marks, and boundary marks behind them. -/
def fullList (ordinary : Nat) : List Mark :=
  (List.range 96).map fun k => waiting (if k < ordinary then .splice else .cutRequest) 900 k 0

/-- The clause of an eviction, with one ordinary mark waiting and with the 88 there may be. -/
theorem witness_MarkPlaceAheadWaitsInOrder_eviction :
    (MarkLaw (holding (fullList 88) (line 500 0)) ∧ MarkLaw (holding (fullList 1) (line 500 0))) ∧
    ((fullList 88).length = 96 ∧
      (fullList 88).take 87 ++ waiting .splice 900 87 0 :: (fullList 88).drop 88 = fullList 88 ∧
      ∀ w ∈ (fullList 88).drop 88, w.kind = .lotChange ∨ w.kind = .cutRequest) ∧
    ([] ++ waiting .splice 900 0 0 :: (fullList 1).drop 1 = fullList 1 ∧
      ∀ w ∈ (fullList 1).drop 1, w.kind = .lotChange ∨ w.kind = .cutRequest) ∧
    (∀ w ∈ fullList 88, w.origin ≠ { station := (line 500 0).stationNumber, serial := 0 }) ∧
    (holding (fullList 88) (line 500 0)).feeds.losses.length < 8 := by
  unfold MarkLaw; decide +kernel

theorem witness_DuplicateIdentityIsDropped :
    (∃ w ∈ (holding [waiting .splice 900 3 0] (line 500 0)).marks.marks,
      w.origin.station = (waiting .cutRequest 400 3 0).origin.station ∧
      w.origin.serial = (waiting .cutRequest 400 3 0).origin.serial) ∧
    (∀ w ∈ (holding [waiting .splice 900 3 0] (line 500 0)).marks.marks,
      w.origin ≠ (waiting .splice 900 4 0).origin) := by decide +kernel

theorem witness_MarkLawIsKept :
    MarkLaw ((holding [waiting .splice 900 3 0] (line 500 0)).withPending [.lotStart 9 0]) ∧
      CountLaw ((holding [waiting .splice 900 3 0] (line 500 0)).withPending [.lotStart 9 0]) ∧
      ∃ t, step ((holding [waiting .splice 900 3 0] (line 500 0)).withPending [.lotStart 9 0]) = .next t :=
  ⟨by unfold MarkLaw; decide +kernel, by unfold CountLaw; decide +kernel, ⟨_, rfl⟩⟩

/-! ## Witnesses: feeds and losses -/

/-- The frame that a notice from a station is read back as. -/
def heard (station stamp : Nat) (slot : Slot) (payload : Payload) : RxFrame :=
  { cls := slotClass slot, station := station, kindCode := kindCodeOf payload
    serial := if carriesSerial (slotClass slot) then 41 else 0, stamp := stamp, payload := payloadBytes payload }

/-- Twister 3 as feed 0 of an ACTIVE station, at a time. -/
def feeding (e : FeedEntry) (losses : List LossInterval) (now : Nat) : State :=
  active (fed e losses (forwarding ((line 752110 0).withNow now)))

theorem witness_SilentFeedGoesLost :
    ((feeding twister [] 200000).feeds.table[(0 : Fin 4).val]? = some twister ∧ twister.state ≠ .lost ∧
      twister.silenceSince = some 0 ∧ 0 + twister.timeout * 100 ≤ (feeding twister [] 200000).now ∧
      (feeding twister [] 200000).feeds.losses.length < 8 ∧ (feeding twister [] 200000).builder.current = none) ∧
    (∃ cur, (building 769454 0 (feeding twister [] 200000)).builder.current = some cur) ∧
    (feeding twister [] 199999).now < 0 + twister.timeout * 100 ∧ { twister with state := .lost }.state = .lost :=
  ⟨by decide +kernel, ⟨_, rfl⟩, by decide +kernel, rfl⟩

/-- A POSITION payload. -/
def position : PositionPayload := { speed := -5, activeLot := 9, own := 3, observed := .held, builder := .cutting }

theorem witness_PositionNoticeIsStored :
    hearsFrame (feeding twister [] 0) false (heardBits 3 5 .class3 (.position position))
      (heard 3 5 .class3 (.position position)) ∧
    readPayload 4 (payloadBytes (.position position)) = .position position ∧
    feedOf (feeding twister [] 0) 3 = some 0 ∧ (feeding twister [] 0).feeds.table[0]? = some twister ∧
    twister.state ≠ .lost ∧
    hearsFrame (feeding twister [] 0) false (heardBits 4 5 .class3 (.position position))
      (heard 4 5 .class3 (.position position)) ∧
    feedOf (feeding twister [] 0) 4 = none := by
  refine ⟨⟨.inl rfl, rfl, ?_, ?_, ?_⟩, ?_, ?_, rfl, ?_, ⟨.inl rfl, rfl, ?_, ?_, ?_⟩, ?_⟩ <;> decide +kernel

/-- Twister 3 after it went LOST at 750,000. -/
def silent : FeedEntry := { twister with state := .lost, silenceSince := none }

/-- The OPEN interval of twister 3. -/
def openStretch : LossInterval := { low := 767344, high := none, cause := .feedLost, feed := some 0 }

theorem silent_law (on : Bool) :
    LossLaw (profiled (fun p => { p with forwarding := on }) (feeding silent [openStretch] 0)) := by
  refine ⟨(fun h => nomatch h), rfl, ?_, ?_, ?_, ?_, ?_, ?_, ?_⟩
  iterate 3 exact by cases on <;> decide +kernel
  · intro i hi _
    obtain rfl := List.mem_singleton.1 hi
    exact ⟨0, rfl, silent, rfl, rfl⟩
  iterate 3 exact by cases on <;> decide +kernel

theorem witness_NoticeFindsALostFeed :
    LossLaw (feeding silent [openStretch] 0) ∧
    hearsFrame (feeding silent [openStretch] 0) false (heardBits 3 5 .class0 .release) (heard 3 5 .class0 .release) ∧
    readPayload 2 (payloadBytes .release) = .release ∧ feedOf (feeding silent [openStretch] 0) 3 = some 0 ∧
    (feeding silent [openStretch] 0).feeds.table[0]? = some silent ∧ silent.state = .lost ∧
    openStretch ∈ (feeding silent [openStretch] 0).feeds.losses ∧ openStretch.high = none ∧
    openStretch.feed = some 0 ∧ (feeding silent [openStretch] 0).profile.forwarding = true ∧
    (feeding silent [openStretch] 0).port.own.length < 4 := by
  refine ⟨silent_law true, ⟨.inl rfl, rfl, ?_, ?_, ?_⟩, ?_, ?_, rfl, ?_, ?_, ?_, ?_, ?_, ?_⟩ <;>
    decide +kernel

/-- The clauses of a station whose forwarding is off. -/
theorem witness_NoticeFindsALostFeed_quiet :
    LossLaw (profiled (fun p => { p with forwarding := false }) (feeding silent [openStretch] 0)) ∧
    hearsFrame (profiled (fun p => { p with forwarding := false }) (feeding silent [openStretch] 0)) false
      (heardBits 3 5 .class0 .release) (heard 3 5 .class0 .release) := by
  refine ⟨silent_law false, .inl rfl, rfl, ?_, ?_, ?_⟩ <;> decide +kernel

/-- A SPLICE at a sender's position. -/
def spliceAt (position : Nat) : MarkPayload := { twisterMark with kindCode := 0, span := 0, position := position }

/-- Twister 3 as feed 0, with some marks waiting ahead of 752,110. -/
def waitingOn (marks : List Mark) : State := holding marks (feeding twister [] 0)

/-- `n` marks of a kind waiting at 752,111. -/
def crowd (kind : MarkKind) (n : Nat) : List Mark := (List.range n).map fun k => waiting kind 752111 k 0

theorem heard_mark (marks : List Mark) (m : MarkPayload)
    (hj : judgeFrame false (heardBits 3 2406300 .own (.mark m)) = .good (heard 3 2406300 .own (.mark m)))
    (hf : isFit (heard 3 2406300 .own (.mark m)) = true) :
    hearsFrame (waitingOn marks) false (heardBits 3 2406300 .own (.mark m)) (heard 3 2406300 .own (.mark m)) :=
  ⟨.inl rfl, rfl, hj, hf, (by decide : (3 : Nat) ≠ 7)⟩

/-- The sender's positions: behind, at the run count, one ahead, at the horizon and one beyond it. -/
theorem witness_MarkNoticeIsTranslated :
    MarkLaw (waitingOn []) ∧
    (∀ p ∈ [2380000, 2387800, 2387801, 13054467, 13054468],
      judgeFrame false (heardBits 3 2406300 .own (.mark (spliceAt p))) =
          .good (heard 3 2406300 .own (.mark (spliceAt p))) ∧
        isFit (heard 3 2406300 .own (.mark (spliceAt p))) = true) ∧
    readPayload 3 (payloadBytes (.mark (spliceAt 2387801))) = .mark (spliceAt 2387801) ∧
    feedOf (waitingOn []) 3 = some 0 ∧ (waitingOn []).feeds.table[0]? = some twister ∧
    twister.state ≠ .lost ∧ twister.expectedSerial = some 41 ∧ (spliceAt 0).kindCode = MarkKind.splice.code ∧
    (spliceAt 0).hops ≤ 7 ∧ (spliceAt 0).originStation = 3 ∧
    ((2387800 : Int) - 2406300 + 18500 = 0 ∧ ((0 : Int) * 61440 + 32768) / 65536 = 0 ∧
      (translatedAs (waitingOn []) 0 twister .splice (spliceAt 2387800) 0 0).position ≤
        (waitingOn []).length.runCount) ∧
    ((2387801 : Int) - 2406300 + 18500 = 1 ∧ ((1 : Int) * 61440 + 32768) / 65536 = 1 ∧
      (waitingOn []).length.runCount <
        (translatedAs (waitingOn []) 0 twister .splice (spliceAt 2387801) 1 1).position ∧ hasRoom (waitingOn []) .splice) ∧
    ((13054467 : Int) - 2406300 + 18500 = 10666667 ∧ ((10666667 : Int) * 61440 + 32768) / 65536 = 10000000) ∧
    ((13054468 : Int) - 2406300 + 18500 = 10666668 ∧ ((10666668 : Int) * 61440 + 32768) / 65536 = 10000001) ∧
    (2380000 : Int) - 2406300 + 18500 < 0 ∧
    (waitingOn []).builder.state = .off ∧ (waitingOn []).profile.forwarding = true ∧
    (spliceAt 0).hops < 7 ∧ (waitingOn []).port.class1.length < 4 ∧ (waitingOn []).port.forwarded.length < 4 ∧
    (waitingOn []).feeds.losses.length < 8 := by
  unfold MarkLaw hasRoom; decide +kernel

/-- A mark of a kind one ahead of the run count, of lot 9. -/
def aheadOf (kind : MarkKind) : MarkPayload := { spliceAt 2387801 with kindCode := kind.code, span := 16777215 }

/-- The clauses of no room and of a lot merge: 88 ordinary marks waiting, 96 boundary marks, and a LOT_CHANGE of the lot that
waits at the same place, or beyond it; and the spans cut to their caps. -/
theorem witness_MarkNoticeIsTranslated_refused :
    (∀ kind ∈ [MarkKind.gaugeFault, .loss, .lotChange, .cutRequest],
      judgeFrame false (heardBits 3 2406300 .own (.mark (aheadOf kind))) =
          .good (heard 3 2406300 .own (.mark (aheadOf kind))) ∧
        isFit (heard 3 2406300 .own (.mark (aheadOf kind))) = true ∧
        readPayload 3 (payloadBytes (.mark (aheadOf kind))) = .mark (aheadOf kind) ∧ (aheadOf kind).lotTag ≠ 0 ∧
        (translatedAs (waitingOn []) 0 twister kind (aheadOf kind) 1 1).position = 752111) ∧
    (translatedAs (waitingOn []) 0 twister .gaugeFault (aheadOf .gaugeFault) 1 1).span = 131071 ∧
    (MarkLaw (waitingOn (crowd .splice 88)) ∧ ¬hasRoom (waitingOn (crowd .splice 88)) .gaugeFault ∧
      ∀ w ∈ crowd .splice 88, w.origin ≠ { station := 3, serial := 1207 }) ∧
    (MarkLaw (waitingOn (crowd .cutRequest 96)) ∧ ¬hasRoom (waitingOn (crowd .cutRequest 96)) .lotChange ∧
      ordinaryWaiting (waitingOn (crowd .cutRequest 96)).marks.marks = 0 ∧
      (∀ w ∈ crowd .cutRequest 96, w.kind = .lotChange → w.lotTag ≠ 9) ∧
      ∀ w ∈ crowd .cutRequest 96, w.origin ≠ { station := 3, serial := 1207 }) ∧
    (MarkLaw (waitingOn [waiting .lotChange 752111 0 9]) ∧ MarkLaw (waitingOn [waiting .lotChange 752112 0 9]) ∧
      (waiting .lotChange 752111 0 9).lotTag = (aheadOf .lotChange).lotTag) ∧
    { (waitingOn []).profile with forwarding := false }.forwarding = false ∧
    { spliceAt 0 with hops := 7 }.hops = 7 := by
  unfold hasRoom
  refine ⟨?_, ?_, ⟨?_, ?_⟩, ⟨?_, ?_⟩, ⟨?_, ?_, rfl⟩, rfl, rfl⟩ <;>
    first | decide +kernel | (unfold MarkLaw; decide +kernel)

/-- A mark that cannot be read. -/
def unreadable : MarkPayload := { twisterMark with kindCode := 8 }

theorem witness_SerialGapCoversTheLostStretch :
    CountLaw (feeding { twister with expectedSerial := some 40 } [] 0) ∧
    hearsFrame (feeding { twister with expectedSerial := some 40 } [] 0) false
      (heardBits 3 2409500 .own (.mark unreadable)) (heard 3 2409500 .own (.mark unreadable)) ∧
    readPayload 3 (payloadBytes (.mark unreadable)) = .mark unreadable ∧
    (40 : Nat) ≠ (heard 3 2409500 .own (.mark unreadable)).serial ∧ 8 ≤ unreadable.kindCode ∧
    feedOf (feeding { twister with expectedSerial := some 40 } [] 0) 3 = some 0 ∧
    ({ twister with prevStamp := none } : FeedEntry).prevStamp = none ∧ twister.prevStamp = some 2405000 ∧
    (feeding twister [] 0).profile.forwarding = true ∧ (feeding twister [] 0).port.own.length < 4 ∧
    (profiled (fun p => { p with forwarding := false }) (feeding twister [] 0)).profile.forwarding = false := by
  refine ⟨by unfold CountLaw; decide +kernel, ⟨.inl rfl, rfl, ?_, ?_, ?_⟩, ?_, ?_, ?_, ?_, rfl, rfl, ?_, ?_, rfl⟩ <;> decide +kernel

theorem witness_OpenAndLossLawIsKept :
    LossLaw ((feeding silent [openStretch] 0).withPending [.feedTimeout 0]) ∧
      MarkLaw ((feeding silent [openStretch] 0).withPending [.feedTimeout 0]) ∧
      CountLaw ((feeding silent [openStretch] 0).withPending [.feedTimeout 0]) ∧
      ∃ t, step ((feeding silent [openStretch] 0).withPending [.feedTimeout 0]) = .next t :=
  ⟨silent_law true, by unfold MarkLaw; decide +kernel, by unfold CountLaw; decide +kernel, ⟨_, rfl⟩⟩

/-! ## Witnesses: lots -/

/-- Lot 9 active and lots held. -/
def lotted (held : List LotRecord) (tag : Nat) (unknown : Bool) : State :=
  (line 500 0).withLots { (line 500 0).lots with table := held, activeTag := tag, unknown := unknown }

/-- A lot record whose stop tolerance lies below its tolerance. -/
def brokenLot : LotRecord :=
  { tag := 2, params := { (lotOf 2).params with tolerance := some 50, stopTolerance := some 49 } }

theorem witness_LotTableIsLoadedAndDropped :
    (lotted [] 9 false).station = .running ∧ recordInRange (lotOf 255) = true ∧
    failedTest (completeRecord (lotOf 255) (lotted [] 9 false).profile.base) = none ∧
    (lotOf 255).tag ≠ (lotted [] 9 false).lots.activeTag ∧
    (lotted ((List.range' 1 7).map lotOf) 9 false).lots.table.length < 8 ∧
    heldRecord ((List.range' 1 7).map lotOf) 7 ≠ none ∧ recordInRange (lotOf 0) = false ∧
    (recordInRange brokenLot = true ∧ failedTest (completeRecord brokenLot resetBase) = some 1) ∧
    ((lotOf 9).tag = (lotted [] 9 false).lots.activeTag ∧ (lotted [] 9 false).lots.unknown = false) ∧
    (heldRecord ((List.range' 1 8).map lotOf) 255 = none ∧ 8 ≤ (lotted ((List.range' 1 8).map lotOf) 9 false).lots.table.length) ∧
    (heldRecord (lotted [lotOf 1] 9 false).lots.table 1 ≠ none ∧ (lotted [lotOf 1] 9 false).marks.marks = []) ∧
    heldRecord (lotted [lotOf 1] 9 false).lots.table 2 = none ∧
    (heldRecord ((List.range' 1 8).map lotOf) 9 = none ∧
      (lotted ((List.range' 1 8).map lotOf) 9 true).lots.unknown = true) ∧
    (heldRecord (lotted [lotOf 1] 1 false).lots.table 1 ≠ none ∧
      ∃ w ∈ (holding [waiting .lotChange 900 3 1] (lotted [lotOf 1] 9 false)).marks.marks,
        w.kind = .lotChange ∧ w.lotTag = 1) := by decide +kernel

theorem witness_LotStartActivatesTheLot :
    MarkLaw (lotted [lotOf 255] 9 true) ∧ (lotted [lotOf 255] 9 true).station = .running ∧
    255 ≠ 0 ∧ 255 ≠ (lotted [lotOf 255] 9 true).lots.activeTag ∧ 9 = (lotted [lotOf 255] 9 true).lots.activeTag ∧
    (∃ w ∈ (holding [{ waiting .splice 900 0 0 with origin := { station := 7, serial := 0 } }]
        (lotted [lotOf 255] 9 true)).marks.marks,
      w.origin = { station := (lotted [lotOf 255] 9 true).stationNumber, serial := 0 }) ∧
    heldRecord (lotted [lotOf 255] 9 true).lots.table 255 = some (lotOf 255) ∧
    heldRecord (lotted [lotOf 255] 9 true).lots.table 1 = none ∧
    (recordInRange (lotOf 9) = true ∧ failedTest (completeRecord (lotOf 9) resetBase) = none ∧
      (lotOf 9).tag = (lotted [lotOf 255] 9 true).lots.activeTag ∧ (lotted [lotOf 255] 9 true).lots.unknown = true ∧
      (lotted [lotOf 255] 9 true).lots.table.length < 8) ∧
    { (lotted [lotOf 255] 9 true).lay with state := .suspended }.state ≠ .off ∧
    { (lotted [lotOf 255] 9 true).knot with state := .counting }.state ≠ .off := by
  unfold MarkLaw; decide +kernel

/-! ## Witnesses: plan and coils -/

/-- A plan entry. -/
def entry (tag : Nat) (last : Bool) : PlanEntry :=
  { lotTag := tag, target := 1000, count := 2, package := 3, endFlag := last }

/-- A coiler with a builder state, a plan, a log and a sequence. -/
def coiler (state : BuilderState) (plan : List PlanEntry) (log : List Coil) (sequence : Option CutSequence)
    (timer : Option Nat) (now : Nat) : State :=
  let s := building 750 0 (line 760 0)
  (s.withBuilder { s.builder with
    state := state, plan := plan, log := log, sequence := sequence, cutTimer := timer }).withNow now

/-- A cut sequence that was ordered. -/
def ordered : CutSequence := { causes := 8, claim := none, claimFired := false, boundary := none }

/-- A log of `n` records. -/
def logged (n : Nat) : List Coil := (List.range n).map fun k => newCoil (k + 1) 0 0

theorem witness_PlanAppendEntersTheTail :
    (coiler .building [] [] none none 0).station = .running ∧ (coiler .building [] [] none none 0).builder.state ≠ .off ∧
    (255 ≤ 255 ∧ 1000 ≤ 1000 ∧ 4000000 ≤ 4000000 ∧ 1 ≤ 1 ∧ 255 ≤ 255 ∧ 143 ≤ 255 ∧ 143 / 16 % 8 = 0) ∧
    (∃ cur, (coiler .building [] [] none none 0).builder.current = some cur ∧ cur.entryRef = false ∧
      cur.record.target = 0) ∧
    (coiler .building [] [] none none 0).lots.activeTag = 0 ∧ 1 ≠ (coiler .building [] [] none none 0).lots.activeTag ∧
    ((∀ p ∈ List.replicate 31 (entry 0 false), p.endFlag = false) ∧ (List.replicate 31 (entry 0 false)).length < 32 ∧
      List.replicate 31 (entry 0 false) ≠ []) ∧
    (∃ p ∈ [entry 0 true], p.endFlag = true) ∧ 32 ≤ (List.replicate 32 (entry 0 false)).length ∧
    ¬(999 = 0 ∨ (1000 ≤ 999 ∧ 999 ≤ 4000000)) ∧ State.reset.station = .openState ∧ (line 5 0).builder.state = .off :=
  ⟨rfl, by decide +kernel, by decide, ⟨_, rfl, rfl, rfl⟩, rfl, by decide +kernel, by decide +kernel,
    ⟨_, List.mem_singleton_self _, rfl⟩, by decide +kernel, by decide, rfl, rfl⟩

theorem witness_PlanClearAndPlanRead :
    State.reset.station = .openState ∧ (line 5 0).builder.state = .off ∧
    (coiler .building [entry 0 true] [] none none 0).station = .running ∧
    (coiler .building [entry 0 true] [] none none 0).builder.state ≠ .off ∧
    (coiler .building [entry 0 true] [] none none 0).builder.current =
      (after (.planClear 0) (coiler .building [entry 0 true] [] none none 0)).builder.current := by decide +kernel

theorem witness_CoilTakeRemovesTheOldest :
    (coiler .building [] [] none none 0).builder.log = [] ∧
    ((coiler .building [] (logged 8) none none 0).builder.log = newCoil 1 0 0 :: (logged 8).tail ∧
      (coiler .building [] (logged 8) none none 0).builder.state ≠ .cutDue) ∧
    (coiler .cutDue [] (logged 8) (some ordered) none 0).builder.state = .cutDue := by decide +kernel

theorem witness_CutOrderStartsASequence :
    State.reset.station = .openState ∧ (line 5 0).builder.state = .off ∧
    ((coiler .building [] (logged 7) none none 0).station = .running ∧
      (coiler .building [] (logged 7) none none 0).builder.state = .building ∧
      (coiler .building [] (logged 7) none none 0).builder.log.length < 8) ∧
    (∃ cur, (coiler .building [] (logged 7) none none 0).builder.current = some cur) ∧
    8 ≤ (coiler .building [] (logged 8) none none 0).builder.log.length ∧
    ((coiler .cutFailed [] [] (some ordered) none 0).builder.state = .cutFailed ∧
      (coiler .cutFailed [] [] (some ordered) none 0).builder.sequence = some ordered) :=
  ⟨rfl, rfl, by decide +kernel, ⟨_, rfl⟩, by decide +kernel, rfl, rfl⟩

theorem witness_FailedCutIsRetriedOrConfirmed :
    ((coiler .cutting [] [] (some ordered) (some 0) 500000).builder.state = .cutting ∧
      (coiler .cutting [] [] (some ordered) (some 0) 500000).builder.cutTimer = some 0 ∧
      0 + (coiler .cutting [] [] (some ordered) (some 0) 500000).profile.cutTimeout * 100 ≤
        (coiler .cutting [] [] (some ordered) (some 0) 500000).now) ∧
    (coiler .cutting [] [] (some ordered) (some 0) 499999).now <
      0 + (coiler .cutting [] [] (some ordered) (some 0) 499999).profile.cutTimeout * 100 ∧
    ((coiler .cutFailed [] [] (some ordered) none 0).station = .running ∧
      (coiler .cutFailed [] [] (some ordered) none 0).builder.state = .cutFailed ∧
      (coiler .cutFailed [] [] (some ordered) none 0).builder.sequence = some ordered) ∧
    (∃ cur, (coiler .cutFailed [] [] (some ordered) none 0).builder.current = some cur) ∧
    State.reset.station = .openState ∧ (coiler .cutting [] [] (some ordered) (some 0) 0).builder.state ≠ .cutFailed :=
  ⟨by decide +kernel, by decide +kernel, by decide +kernel, ⟨_, rfl⟩, rfl, by decide +kernel⟩

/-- A coiler with a CUT_DONE edge due. -/
def cutSeen (state : BuilderState) (log : List Coil) (sequence : Option CutSequence) (count : Nat) : State :=
  let s := coiling (serving .cutDone .rising) count
  s.withBuilder { s.builder with state := state, log := log, sequence := sequence }

theorem cutSeen_edge (state : BuilderState) (log : List Coil) (sequence : Option CutSequence) (count : Nat) :
    edgeIsDue (cutSeen state log sequence count) 2 := coiling_edge _ _ rfl rfl

theorem witness_CutDoneClosesTheCoil :
    PlacesLaw (cutSeen .cutting [] (some ordered) 760) ∧
    (assignment (cutSeen .cutting [] (some ordered) 760).profile 2).service = .cutDone ∧
    edgeIsDue (cutSeen .cutting [] (some ordered) 760) 2 ∧
    (cutSeen .cutting [] (some ordered) 760).builder.sequence = some ordered ∧
    (∃ cur, (cutSeen .cutting [] (some ordered) 760).builder.current = some cur ∧ cur.record.start = 750) ∧
    (edgeIsDue (cutSeen .cutFailed [] (some ordered) 760) 2 ∧
      (cutSeen .cutFailed [] (some ordered) 760).builder.state = .cutFailed) ∧
    (edgeIsDue (cutSeen .building [] none 750) 2 ∧ (cutSeen .building [] none 750).length.runCount = 750) ∧
    (edgeIsDue (cutSeen .building (logged 7) none 751) 2 ∧ (751 : Nat) ≠ 750 ∧
      (cutSeen .building (logged 7) none 751).builder.log.length < 8) ∧
    (edgeIsDue (cutSeen .building (logged 8) none 751) 2 ∧
      8 ≤ (cutSeen .building (logged 8) none 751).builder.log.length) ∧
    (edgeIsDue (cutSeen .cutDue (logged 8) (some ordered) 760) 2 ∧
      (cutSeen .cutDue (logged 8) (some ordered) 760).builder.state = .cutDue) ∧
    (edgeIsDue (cutSeen .off [] none 760) 2 ∧ (cutSeen .off [] none 760).builder.state = .off) :=
  ⟨by unfold PlacesLaw; decide +kernel, rfl, cutSeen_edge _ _ _ _, rfl, ⟨_, rfl, rfl⟩, ⟨cutSeen_edge _ _ _ _, rfl⟩,
    ⟨cutSeen_edge _ _ _ _, rfl⟩, ⟨cutSeen_edge _ _ _ _, by decide, by decide +kernel⟩,
    ⟨cutSeen_edge _ _ _ _, by decide +kernel⟩, ⟨cutSeen_edge _ _ _ _, rfl⟩, ⟨cutSeen_edge _ _ _ _, rfl⟩⟩

/-- A builder whose coil, from 750 at 760, has a target or none, with a boundary mark waiting; its next wheel count is an
advance to 770. -/
def nearing (state : BuilderState) (target : Nat) (sequence : Option CutSequence) (mark : Nat) : State :=
  let s := building 750 target (profiled (fun p => { p with wheelStep := 655360 }) (line 760 0))
  holding [waiting .cutRequest mark 3 0]
    (s.withBuilder { s.builder with state := state, sequence := sequence })

theorem nearing_point (state : BuilderState) (target : Nat) (sequence : Option CutSequence) (mark : Nat)
    (h : 750 < mark) : isCutPoint (nearing state target sequence mark) 750 (waiting .cutRequest mark 3 0) :=
  ⟨[], [], rfl, ⟨.inl rfl, Nat.le_of_lt h, h⟩, fun _ hw => nomatch hw⟩

theorem witness_NextCutFallsAtTargetOrBoundary :
    (runTarget 220000 180 = 223960 ∧ 223959 < runTarget 220000 180) ∧
    (isCutPoint (nearing .building 0 none 760) 750 (waiting .cutRequest 760 3 0) ∧
      reachAt (nearing .building 0 none 760) 760 = 760) ∧
    (∃ cur, (nearing .building 11 none 900).builder.current = some cur ∧ cur.record.planned = some 761 ∧
      reachAt (nearing .building 11 none 900) 760 = 760 ∧ reachAt (nearing .building 11 none 900) 770 = 770) ∧
    ((nearing .building 0 none 771).station = .running ∧ (nearing .building 0 none 771).profile.source = .wheel ∧
      turnsForward (nearing .building 0 none 771) (true, false) ∧
      (nearing .building 0 none 771).length.saturated = false ∧
      770 = min (((nearing .building 0 none 771).fullPosition + (nearing .building 0 none 771).profile.wheelStep) /
        65536) maxCount ∧
      (nearing .building 0 none 771).length.runCount < 770 ∧
      (∀ w ∈ (nearing .building 0 none 771).marks.marks, 770 < w.position)) ∧
    ((nearing .cutting 11 (some ordered) 771).builder.state ≠ .building ∧
      (nearing .cutting 11 (some ordered) 771).builder.sequence = some ordered) := by
  refine ⟨by decide +kernel, ⟨nearing_point _ _ _ _ (by decide), rfl⟩,
    ⟨_, rfl, by decide +kernel, by decide +kernel, by decide +kernel⟩,
    ⟨rfl, rfl, ⟨(false, false), rfl, rfl⟩, rfl, by decide +kernel, by decide, by decide +kernel⟩, by decide, rfl⟩

/-- The clause of a cut test that is not met: a mark one millimetre beyond the run count, with no lead and no target. -/
theorem witness_NextCutFallsAtTargetOrBoundary_ahead :
    ∃ cur, (nearing .building 0 none 761).builder.current = some cur ∧
      ¬cutIsReached (nearing .building 0 none 761) cur.record 760 ∧
      cutIsReached (nearing .building 0 none 761) cur.record 761 := by
  refine ⟨_, rfl, ?_, .inr ⟨_, nearing_point .building 0 none 761 (by decide), Nat.le_refl _⟩⟩
  rintro (⟨p, hp, -⟩ | ⟨m, ⟨before, after, hm, -, -⟩, hle⟩)
  · exact nomatch hp
  · have : m ∈ (nearing .building 0 none 761).marks.marks := hm ▸ by simp
    obtain rfl := List.mem_singleton.1 this
    exact absurd hle (by decide +kernel)

/-- A coiler with an outstanding claim. -/
def owing (c : Claim) : State :=
  let s := coiler .building [] [] none none 0
  s.withBuilder { s.builder with outstanding := some c }

/-- A fired boundary mark at the run count. -/
def boundaryMark (kind : MarkKind) : Mark := waiting kind 760 3 9

theorem witness_BoundaryMarkCutsOrIsAbsorbed :
    ((coiler .building [] [] none none 0).builder.state ≠ .off ∧
      (∃ cur, (coiler .building [] [] none none 0).builder.current = some cur ∧
        cur.record.start + (coiler .building [] [] none none 0).profile.minimumCutSpacing ≤ 760 ∧
        cur.record.start < 760 ∧ 750 ≤ cur.record.start)) ∧
    ((boundaryMark .cutRequest).kind = .cutRequest ∧ (boundaryMark .lotChange).kind = .lotChange) ∧
    (∃ q, (coiler .cutting [] [] (some { ordered with claim := some (claimFor (boundaryMark .lotChange)) })
        (some 0) 0).builder.sequence = some q ∧ ∃ c, q.claim = some c ∧ c.origin = (boundaryMark .lotChange).origin) ∧
    (∃ c, (owing (claimFor (boundaryMark .lotChange))).builder.outstanding = some c ∧
      c.origin = (boundaryMark .lotChange).origin) ∧
    ((coiler .building [] [] none none 0).builder.sequence = none ∧
      (coiler .building [] [] none none 0).builder.outstanding = none ∧ (some LotAnswer.activated ≠ some .void)) ∧
    ((coiler .cutFailed [] [] (some ordered) none 0).builder.state ≠ .building ∧
      (coiler .cutFailed [] [] (some ordered) none 0).builder.sequence = some ordered ∧ ordered.claim = none) ∧
    ((line maxCount 0).length.runCount ≤ maxCount ∧ (coiler .building [] [] none none 0).station = .running ∧
      (coiler .building [] [] none none 0).marks.marks = [] ∧ 255 ≠ 0 ∧
      255 ≠ (coiler .building [] [] none none 0).lots.activeTag) :=
  ⟨⟨by decide, _, rfl, by decide +kernel, by decide, by decide⟩, ⟨rfl, rfl⟩, ⟨_, rfl, _, rfl, rfl⟩, ⟨_, rfl, rfl⟩,
    ⟨rfl, rfl, by decide⟩, ⟨by decide, rfl, rfl⟩, by decide +kernel⟩

/-- A close with a sequence whose claim has fired leaves no claim outstanding, an older one being dropped; a close by hand
keeps it (R131, R135). -/
theorem test_older_claim_is_dropped :
    let old : Claim := claimFor (boundaryMark .lotChange)
    let cutting := cutSeen .cutting [] (some { ordered with claim := some old, claimFired := true }) 760
    let byHand := cutSeen .building [] none 760
    (after (.senseFilterExpiry 2)
        (cutting.withBuilder { cutting.builder with outstanding := some old })).builder.outstanding = none ∧
      (after (.senseFilterExpiry 2)
        (byHand.withBuilder { byHand.builder with outstanding := some old })).builder.outstanding = some old := by
  decide +kernel

/-- A coiler in CUTTING with CUT among its hold reasons. -/
def cutter : State :=
  let s := coiler .cutting [] (logged 7) (some ordered) (some 0) 0
  (s.withHold { s.hold with own := 8 }).withPending [.cutOrder 0]

theorem witness_CutAndLogLawIsKept : CutReasonLaw cutter ∧ LogLaw cutter ∧ ∃ t, step cutter = .next t :=
  ⟨by unfold CutReasonLaw; decide +kernel, by unfold LogLaw; decide +kernel, ⟨_, rfl⟩⟩

theorem witness_CountAndCoilLawIsKept : CoilLaw cutter ∧ ∃ t, step cutter = .next t := by
  refine ⟨⟨by unfold CountLaw; decide +kernel, ?_, ?_⟩, ⟨_, rfl⟩⟩
  · intro c hc
    obtain ⟨k, -, rfl⟩ := List.mem_map.1 hc
    exact ⟨Nat.zero_le _, (fun k h => nomatch h)⟩
  · intro cur h
    cases h
    exact ⟨rfl, Nat.zero_le _, (fun k h => nomatch h)⟩

/-! ## Witnesses: hold wire -/

theorem witness_HoldCommandsChangeTheReasons :
    (line 5 0).station = .running ∧ State.reset.station = .openState ∧
    (127#7 : HoldSet) = (line 5 0).hold.own ||| 127#7 ∧ (Instr.stopAck 0 = .stopAck 0 ∧ 89#7 = 127#7 &&& ~~~38#7) ∧
    (1#7 : HoldSet) = (line 5 0).hold.own ||| 1#7 ∧ 126#7 = 127#7 &&& ~~~1#7 := by decide +kernel

/-- A pending change of the observed wire since 0, with the lay and knot monitors in a state. -/
def wiring (state : WireState) (lay : LayState) (knot : KnotState) (now : Nat) : State :=
  ((((line 5 0).withHold { State.reset.hold with pending := some { state := state, since := 0 } }).withLay
    { State.reset.lay with state := lay, working := some bandSet }).withKnot
      { State.reset.knot with state := knot }).withNow now

theorem witness_WireIsObservedAfterItsDebounce :
    (line 5 0).pins.holdw = true ∧ (line 5 0).pins.holdw ≠ false ∧
    (wiring .held .measuring .counting 199).hold.pending = some ⟨.held, 0⟩ ∧
    (wiring .held .measuring .counting 199).now < 0 + 200 ∧ 0 + 200 ≤ (wiring .held .measuring .counting 200).now ∧
    (wiring .held .measuring .counting 200).lay.state = .measuring ∧
    (wiring .held .measuring .counting 200).knot.state = .counting ∧
    (wiring .held .off .off 200).lay.state = .off ∧ (wiring .held .off .off 200).knot.state ≠ .counting ∧
    (wiring .running .off .off 200).hold.pending = some ⟨.running, 0⟩ ∧
    (wiring .running .off .off 200).lay.state ≠ .suspended ∧
    ((wiring .running .suspended .off 200).lay.state = .suspended ∧
      (wiring .running .suspended .off 200).lay.working = some bandSet ∧ 0 < bandSet.settleTurns) := by decide +kernel

/-- The same station seen HELD, with a lay fault run of some windows and a knot fault run, and forwarding on. -/
def wiringFaults (lay : LayState) (windows : Nat) (knot : KnotState) : State :=
  let s := forwarding (wiring .held lay knot 200)
  (s.withLay { s.lay with faultRun := some ⟨0, 4, windows, 5⟩ }).withKnot
    { s.knot with faultRun := some ⟨5, 5, 1, 9, 0⟩ }

/-- The clauses of the marks raised: the knot monitor's with the lay monitor suspended, and the lay monitor's with windows
enough and one short, with the knot monitor not counting. -/
theorem witness_WireIsObservedAfterItsDebounce_faults :
    ((wiringFaults .suspended 2 .counting).hold.pending = some ⟨.held, 0⟩ ∧
      (wiringFaults .suspended 2 .counting).knot.state = .counting ∧
      (wiringFaults .suspended 2 .counting).knot.faultRun = some ⟨5, 5, 1, 9, 0⟩ ∧
      (wiringFaults .suspended 2 .counting).lay.state = .suspended ∧
      5 ≤ (wiringFaults .suspended 2 .counting).length.runCount ∧
      (wiringFaults .suspended 2 .counting).length.runCount ≤ 5 + 262144 ∧
      forwardsFreely (wiringFaults .suspended 2 .counting)) ∧
    ((wiringFaults .measuring 3 .firstRow).lay.state = .measuring ∧
      (wiringFaults .measuring 3 .firstRow).lay.faultRun = some ⟨0, 4, 3, 5⟩ ∧
      (wiringFaults .measuring 3 .firstRow).lay.working = some bandSet ∧
      (wiringFaults .measuring 3 .firstRow).knot.state ≠ .counting ∧ bandSet.faultWindows ≤ 3 ∧
      (wiringFaults .measuring 3 .firstRow).length.runCount ≤ 0 + 262144 ∧
      forwardsFreely (wiringFaults .measuring 3 .firstRow)) ∧
    ((wiringFaults .settling 2 .off).lay.state = .settling ∧ (wiringFaults .settling 2 .off).knot.state ≠ .counting ∧
      2 < bandSet.faultWindows) :=
  ⟨⟨rfl, rfl, rfl, rfl, by decide +kernel, by decide +kernel, rfl, rfl, by decide +kernel, by decide +kernel⟩,
    ⟨rfl, rfl, rfl, by decide +kernel, by decide +kernel, by decide +kernel, rfl, rfl, by decide +kernel,
      by decide +kernel⟩, rfl, by decide +kernel, by decide +kernel⟩

/-- An ACTIVE station that lists holders of some stations. -/
def held (stations : List Nat) : State :=
  let s := active (line 5 0)
  s.withHold { s.hold with holders := stations.map fun n => { station := n, reasons := 1 } }

theorem heard_hold (stations : List Nat) (payload : Payload) (h : payload = .hold 127 ∨ payload = .hold 0 ∨
    payload = .release) : hearsFrame (held stations) false (heardBits 62 5 .class0 payload)
      (heard 62 5 .class0 payload) := by
  obtain rfl | rfl | rfl := h <;> refine ⟨.inl rfl, rfl, ?_, ?_, (by decide : (62 : Nat) ≠ 7)⟩ <;> decide +kernel

theorem witness_HoldNoticesKeepTheHolderList :
    (∀ stations payload, payload = .hold 127 ∨ payload = .hold 0 ∨ payload = .release →
      hearsFrame (held stations) false (heardBits 62 5 .class0 payload) (heard 62 5 .class0 payload)) ∧
    feedOf (held []) 62 = none ∧
    (readPayload 1 (payloadBytes (.hold 127)) = .hold 127 ∧ (127#7 : HoldSet) ≠ 0) ∧
    (∃ h ∈ (held [62]).hold.holders, h.station = 62) ∧
    ((∀ h ∈ (held (List.range 15)).hold.holders, h.station ≠ 62) ∧ (held (List.range 15)).hold.holders.length < 16) ∧
    ((∀ h ∈ (held (List.range 16)).hold.holders, h.station ≠ 62) ∧ 16 ≤ (held (List.range 16)).hold.holders.length) ∧
    readPayload 2 (payloadBytes .release) = .release ∧ readPayload 1 (payloadBytes (.hold 0)) = .hold 0 := by
  refine ⟨heard_hold, ?_⟩
  decide +kernel

/-! ## Witnesses: line bus port -/

/-- A port with another state. -/
def ported (f : BusPort → BusPort) : State := (line 5 0).withPort (f (active (line 5 0)).port)

/-- A MARK notice that waits. -/
def marked : Queued := notice (.mark twisterMark)

theorem witness_FramesStartAfterAnIdleGap :
    (line 5 0).port.sending = none ∧ (line 5 0).port.state = .silent ∧
    (ported fun p => { p with state := .listen }).port.state = .listen ∧ (ported id).port.state = .active ∧
    ((ported fun p => { p with state := .muted, idleGaps := 62 }).port.idleGaps < 63 ∧
      (ported fun p => { p with state := .muted, idleGaps := 63 }).port.idleGaps = 63) ∧
    ((ported id).port.sending = none ∧ (ported id).port.busIdle = true) ∧
    (ported fun p => { p with class0 := some marked }).port.class0 = some marked ∧
    ((ported fun p => { p with class1 := [marked] }).port.class0 = none ∧
      (ported fun p => { p with class1 := [marked] }).port.class1.head? = some marked) ∧
    ((ported fun p => { p with own := [marked], forwarded := [marked] }).port.ownTurn = true ∧
      (ported fun p => { p with own := [marked], forwarded := [marked] }).port.own.head? = some marked) ∧
    ((ported fun p => { p with ownTurn := false, own := [marked], forwarded := [marked] }).port.ownTurn = false ∧
      (ported fun p => { p with ownTurn := false, own := [marked], forwarded := [marked] }).port.forwarded.head? =
        some marked) ∧
    (ported fun p => { p with class3 := some marked }).port.class3 = some marked ∧
    ((ported id).port.class0 = none ∧ (ported id).port.class1 = [] ∧ (ported id).port.own = [] ∧
      (ported id).port.forwarded = [] ∧ (ported id).port.class3 = none) := by decide +kernel

/-- A port that sends the head of its own-origin FIFO, which has failed some attempts. -/
def sending (superseded : Bool) (attempts score : Nat) : State :=
  ported fun p => { p with
    own := [{ marked with attempts := attempts }, marked], score := score
    sending := some { slot := .own, superseded := superseded, bits := [] } }

/-- A frame received from station 9 whose check is `check`, read or not. -/
def checked (check : Nat) : List Bool :=
  frameContent 0 9 2 0 5 [] ++ bitsOf 16 check ++ List.replicate 7 true

/-- The clauses of the recessive end: 10 and 11 bits of it, and an end that is all of a check and its end bits. -/
theorem witness_FramesStartAfterAnIdleGap_end :
    (∃ before, checked 65519 = before ++ false :: List.replicate 11 true) ∧
    (∃ before, checked 65527 = before ++ false :: List.replicate 10 true) ∧
    contentLength (checked 65519) + 23 ≤ (checked 65519).length ∧
    contentLength (checked 65535) + 23 = (checked 65535).length ∧
    (sending false 0 0).port.sending ≠ none ∧ (ported id).port.sending = none ∧ (ported id).port.state = .active :=
  ⟨⟨(checked 65519).take 60, by decide +kernel⟩, ⟨(checked 65527).take 61, by decide +kernel⟩, by decide +kernel⟩

/-- The clause of a frame under way, and a frame that it does not hold of: the first to start after a gap. -/
theorem witness_FramesStartAfterAnIdleGap_underWay :
    (wasUnderWay (ported fun p => { p with noFrameYet := true }) true ∧
      (ported fun p => { p with noFrameYet := true }).port.sending = none ∧
      (ported fun p => { p with noFrameYet := true }).port.state = .active) ∧
    ¬wasUnderWay (ported fun p => { p with noFrameYet := true }) false ∧ ¬wasUnderWay (ported id) true := by
  unfold wasUnderWay; decide +kernel

/-- An idle gap that completes in the last 11 recessive bits of a frame leaves the bus idle, and 10 are not enough
(R154). -/
theorem test_gap_within_end_bits :
    (after (.frameReceived false (checked 65519)) (ported id)).port.busIdle = true ∧
      (after (.frameReceived false (checked 65527)) (ported id)).port.busIdle = false := by decide +kernel

theorem witness_FrameEndsSettleTheNotice :
    ((sending false 1 183).port.state = .active ∧
      (sending false 1 183).port.sending = some ⟨.own, false, []⟩ ∧
      fifoOf (sending false 1 183).port .own = { marked with attempts := 1 } :: [marked] ∧
      (sending false 1 183).port.score + 8 < 192 ∧ 1 + 1 < 3) ∧
    (fifoOf (sending false 2 184).port .own = { marked with attempts := 2 } :: [marked] ∧
      192 ≤ (sending false 2 184).port.score + 8 ∧ 3 ≤ 2 + 1) ∧
    (sending true 0 0).port.sending = some ⟨.own, true, []⟩ := by decide +kernel

theorem witness_MarkNoticesTakeSerials :
    (fifoOf (ported fun p => { p with class1 := List.replicate 3 marked }).port .class1).length < 4 ∧
    4 ≤ (fifoOf (ported fun p => { p with class1 := List.replicate 4 marked }).port .class1).length ∧
    (ported fun p => { p with serialCounter := 255 }).port.serialCounter = 255 := by decide +kernel

/-- A frame of kind 4 in class 0, which is good and not fit. -/
def unfitBits : List Bool := heardBits 3 5 .class0 (.position position)

theorem witness_BadFramesMoveTheScore :
    (line 5 0).port.state = .silent ∧ (ported id).port.sending = none ∧ (ported id).port.state = .active ∧
    (ported fun p => { p with state := .muted }).port.state = .muted ∧
    ¬wasUnderWay (ported id) true ∧ ¬wasUnderWay (ported fun p => { p with noFrameYet := true }) false ∧
    judgeFrame true [] = .framingError ∧ judgeFrame false (List.replicate 20 false) = .framingError ∧
    judgeFrame false ((heardBits 3 5 .class0 .release).set 11 true) = .checkFailure ∧
    (judgeFrame false (heardBits 7 5 .class0 .release) = .good (heard 7 5 .class0 .release) ∧
      isFit (heard 7 5 .class0 .release) = true ∧ (heard 7 5 .class0 .release).station = (ported id).stationNumber) ∧
    (ported fun p => { p with score := 191 }).port.score + 1 = 192 ∧
    (ported fun p => { p with score := 183 }).port.score + 8 < 192 ∧
    (judgeFrame false unfitBits = .good (heard 3 5 .class0 (.position position)) ∧
      isFit (heard 3 5 .class0 (.position position)) = false) := by unfold wasUnderWay; decide +kernel

theorem witness_NoticeFrameReadsBack :
    (1 ≤ 62 ∧ 62 ≤ 62 ∧ maxCount ≤ maxCount ∧ 255 ≤ 255) ∧
    ((notice (.hold 127)).payload = .hold 127 ∧ (notice .release).payload = .release) ∧
    ((notice (.position { position with speed := -32768, activeLot := 255 })).payload =
        .position { position with speed := -32768, activeLot := 255 } ∧ (-32768 : Int) ≤ -32768 ∧ (255 : Nat) ≤ 255) ∧
    ((notice (.mark ⟨maxCount, 16777215, 15, 15, 255, 255, 65535, 65535⟩)).payload =
        .mark ⟨maxCount, 16777215, 15, 15, 255, 255, 65535, 65535⟩ ∧ (16777215 : Nat) ≤ 16777215 ∧ (15 : Nat) ≤ 15) := by
  decide +kernel

theorem witness_FrameCheckFollowsItsRule :
    3 ≤ 3 ∧ 63 ≤ 63 ∧ (List.replicate 16 (0 : Byte)).length ≤ 16 ∧ (bitsOf 16 65535).length = 16 ∧
    bitsOf 16 0 ≠ bitsOf 16 (frameCheck (frameContent 3 63 15 0 5 (List.replicate 16 0))).toNat ∧
    kindCodeOf marked.payload = 3 := by decide +kernel

/-- A port that sends, with a full own-origin FIFO. -/
def busy : State :=
  (ported fun p => { p with
    own := List.replicate 4 { marked with attempts := 2 }, score := 191
    sending := some { slot := .own, superseded := false, bits := [] } }).withPending [.bitError]

theorem witness_PortLawIsKept : PortLaw busy ∧ ∃ t, step busy = .next t := by
  refine ⟨⟨?_, ?_, ?_, ?_, ?_, ?_, ?_, ?_⟩, ⟨_, rfl⟩⟩
  iterate 3 decide +kernel
  · intro slot
    cases slot <;> decide +kernel
  iterate 4 decide +kernel

/-! ## Witnesses: local link -/

theorem witness_BadFrameIsAnsweredAndTallied :
    ([] : List Byte).length ≤ 1 ∧ ([1] : List Byte).length ≤ 1 ∧ ([0] : List Byte).length ≤ (1 : Byte).toNat ∧
    ((0 : Byte).toNat < ([254] : List Byte).length ∧ byteSum (([1, 0, 254] : List Byte).take ((0 : Byte).toNat + 3)) ≠ 0) ∧
    (byteSum (([0, 0, 0] : List Byte).take ((0 : Byte).toNat + 3)) = 0 ∧ (0 : Byte).toNat = 0) ∧
    (byteSum (([30, 0, 226] : List Byte).take ((0 : Byte).toNat + 3)) = 0 ∧ 29 < (30 : Byte).toNat) ∧
    ((1 : Byte).toNat < ([9, 245] : List Byte).length ∧
      byteSum (([1, 1, 9, 245] : List Byte).take ((1 : Byte).toNat + 3)) = 0 ∧ argumentLength 1 = some 0 ∧ 0 ≠ 1) := by
  decide +kernel

theorem witness_AttentionIsReadAndEnabled : 524287 < 2 ^ 19 ∧ 2 ^ 19 ≤ 524288 := by decide

/-- A station whose reply buffer holds DONE, three bytes. -/
def replied : State := (line 5 0).withLink { (line 5 0).link with reply := some (done []) }

theorem witness_TalliesAreReportedAndCleared : losesReply 3 replied = false ∧ losesReply (3 + 0) (line 5 0) = false ∧
    losesReply 3 (replied.withLink { replied.link with reply := some (done [0]) }) = true := by decide +kernel

/-- A row summary. -/
def rowEntry : RowSummary := { serial := 0, start := 5, idle := true, missing := [0], total := 0, noisy := 0 }

theorem witness_ReadsAnswerAndChangeNothing :
    (0 ≠ 1 ∧ heldRecord (lotted [lotOf 1] 9 false).lots.table 1 = some (lotOf 1) ∧
      heldRecord (lotted [lotOf 1] 9 false).lots.table 255 = none) ∧
    (State.reset.station = .openState ∧ (line 5 0).builder.state = .off) ∧
    ((coiler .building [] [] none none 0).station = .running ∧ (coiler .building [] [] none none 0).builder.state ≠ .off ∧
      (coiler .building [] [] none none 0).builder.current ≠ none) ∧
    (95 < 96 ∧ (holding (manyMarks .splice 88) (line 5 0)).marks.marks.length ≤ 95 ∧
      (holding (manyMarks .cutRequest 96) (line 5 0)).marks.marks[95]? ≠ none) ∧
    (3 < 4 ∧ (fed twister [] (line 5 0)).feeds.table.length ≤ 1 ∧
      (fed twister [] (line 5 0)).feeds.table[0]? = some twister ∧ State.reset.profile.feedCount ≤ 3 ∧
      (({ resetProfile with feedCount := 4 } : Profile).feeds.take 4)[3]? = some resetFeedConfig) ∧
    (15 < 16 ∧ (line 5 0).knot.history.length ≤ 15 ∧
      { State.reset.knot with history := List.replicate 16 rowEntry }.history[15]? = some rowEntry) := by decide +kernel

theorem witness_RestartRunBeginsANewRun :
    (State.reset.station = .openState ∧ (coiler .cutDue [] [] (some ordered) none 0).builder.state = .cutDue) ∧
    ((coiler .building [] (logged 8) none none 0).station = .running ∧
      (coiler .building [] (logged 8) none none 0).builder.state = .building ∧
      8 ≤ (coiler .building [] (logged 8) none none 0).builder.log.length) ∧
    ((coiler .building [] (logged 7) none none 0).builder.log.length < 8 ∧
      (coiler .building [] (logged 7) none none 0).builder.current ≠ none) ∧
    ((line 5 0).station = .running ∧ (line 5 0).builder.state = .off ∧ (line 5 0).builder.current = none ∧
      (line 5 0).lay.state = .off) ∧
    ((wiring .held .suspended .counting 0).lay.state ≠ .off ∧ (wiring .held .suspended .counting 0).knot.state ≠ .off ∧
      ({ State.reset.hold with observed := .held } : HoldUnit).observed = .held) ∧
    ((wiring .running .suspended .counting 0).hold.observed = .running ∧
      (wiring .running .suspended .counting 0).lay.working = some bandSet ∧ 0 < bandSet.settleTurns ∧
      ({ bandSet with settleTurns := 0 } : LayWorkingSet).settleTurns = 0) ∧
    ((assignment (gauged true none 5).profile 4).service = .gauge ∧
      (assignment (gauged true none 5).profile 4).detection = .high) ∧
    ((feeding silent [] 0).feeds.table[0]? = some silent ∧ silent.state = .lost) := by decide +kernel

theorem witness_LinkFrameReadsBack :
    ((Instr.profileSet 255 255 (2 ^ 32 - 1) 3).wellFormed = true ∧
      encodeLinkFrame (.profileSet 255 255 (2 ^ 32 - 1) 3) = some [6, 6, 255, 255, 255, 255, 255, 255, 250, 0, 0, 0]) ∧
    ((Instr.badFrame [1, 0, 254]).wellFormed = true ∧ encodeLinkFrame (.badFrame [1, 0, 254]) = some [1, 0, 254]) := by
  decide +kernel

theorem witness_RefusedCommandsChangeNothing :
    isHostCommand (.coilTake 0) = true ∧ (∃ t, exec (.coilTake 0) (line 5 0) = .next t ∧ replyCode t ≠ some .done) ∧
    State.reset.station = .openState ∧ Instr.hold 5 ∈ [Instr.hold 5] :=
  ⟨rfl, ⟨_, rfl, by decide +kernel⟩, rfl, List.mem_singleton_self _⟩

theorem witness_PlacesAndTrimLawIsKept :
    PlacesLaw ((line 5 0).withPending [.lotLoad (lotOf 9) 0]) ∧ TrimLaw ((line 5 0).withPending [.lotLoad (lotOf 9) 0]) ∧
      ∃ t, step ((line 5 0).withPending [.lotLoad (lotOf 9) 0]) = .next t :=
  ⟨by unfold PlacesLaw; decide +kernel, by unfold TrimLaw; decide +kernel, ⟨_, rfl⟩⟩

end Sys2Proof.Tests
end

section
/-! PROOFS. The run count and the measuring wheel (chapter 1): how the decoder classes a change of one level, what a
reverse count does at and above the floor, and what a wheel change that turns back is. -/

namespace Sys2Proof.Machine

open SameOutside

/-! ## Classing a change (R3) -/

/-- A step along the cycle of levels is a change. -/
theorem forwardOf_ne (levels : Bool × Bool) : forwardOf levels ≠ levels := by
  obtain ⟨_ | _, _ | _⟩ := levels <;> decide

/-- Two steps along the cycle of levels do not come back: a step back is no step forward. -/
theorem forwardOf_forwardOf_ne (levels : Bool × Bool) : forwardOf (forwardOf levels) ≠ levels := by
  obtain ⟨_ | _, _ | _⟩ := levels <;> decide

theorem classify_to_forwardOf (levels : Bool × Bool) : classify levels (forwardOf levels) = .forward := by
  rw [classify, if_neg (forwardOf_ne levels), if_pos rfl]

theorem classify_from_forwardOf (levels : Bool × Bool) : classify (forwardOf levels) levels = .reverse := by
  rw [classify, if_neg (forwardOf_ne levels).symm, if_neg (forwardOf_forwardOf_ne levels).symm, if_pos rfl]

/-! ## Decoding a change (R2 to R4) -/

/-- In RUNNING with source WHEEL a change of level is decoded, after the pins have taken it (R2). -/
theorem exec_wheelChange_decoded (wha whb : Bool) (s : State) (running : s.station = .running)
    (wheel : s.profile.source = .wheel) : exec (.wheelChange wha whb) s =
      .next (decodeWheel (wha, whb) (s.withPins { s.pins with wha := wha, whb := whb })) :=
  congrArg Host.Outcome.next (if_pos ⟨decide_eq_true running, wheel⟩)

/-- With either setting of the direction option, a change that turns back is a reverse count of the part whose
reference has followed the levels (R3, R4). -/
theorem decodeWheel_turnsBack (new : Bool × Bool) (s : State) (back : turnsBack s new) :
    decodeWheel new s = reverseCount (s.withLength { s.length with reference := some new }) := by
  obtain ⟨old, reference, neighbour⟩ := back
  cases direction : s.profile.direction with
  | false =>
    obtain rfl : old = forwardOf new := by simpa [direction] using neighbour
    simp [decodeWheel, reference, classify_from_forwardOf, wheelCount, changeLength, direction]
  | true =>
    obtain rfl : new = forwardOf old := by simpa [direction] using neighbour
    simp [decodeWheel, reference, classify_to_forwardOf, wheelCount, changeLength, direction]

/-! ## Reverse counts (R6, R8) -/

/-- A reverse count that would go below the floor stops there and is tallied (R8). -/
theorem reverseCount_clamped (s : State) (live : s.length.saturated = false)
    (below : s.fullPosition < s.floor * 65536 + s.profile.wheelStep) :
    reverseCount s = s.withLength { s.length with
      runCount := s.floor, fraction := 0, reverseClamps := tally s.length.reverseClamps } := by
  rw [reverseCount, if_neg (by simp [live]), if_pos below]
  rfl

/-- A reverse count that stays at or above the floor takes one wheel step off the full-precision position (R6). -/
theorem reverseCount_borrowed (s : State) (live : s.length.saturated = false)
    (above : s.floor * 65536 + s.profile.wheelStep ≤ s.fullPosition) :
    reverseCount s = s.withLength { s.length with
      runCount := (s.fullPosition - s.profile.wheelStep) / 65536
      fraction := (s.fullPosition - s.profile.wheelStep) % 65536 } := by
  rw [reverseCount, if_neg (by simp [live]), if_neg (Nat.not_lt.2 above)]
  rfl

/-! ## A wheel change that turns back -/

/-- The part whose pins and wheel reference have followed a change of level, and which has not yet counted it. -/
def followed (wha whb : Bool) (s : State) : State :=
  (s.withPins { s.pins with wha := wha, whb := whb }).withLength { s.length with reference := some (wha, whb) }

theorem followed_frame (wha whb : Bool) (s : State) : SameOutside [.pins, .length] s (followed wha whb s) :=
  (withPins s _).trans (withLength _ _)

/-- In RUNNING with source WHEEL, a wheel change that turns back is one reverse count (R2 to R4). -/
theorem exec_wheelChange_turnsBack (wha whb : Bool) (s : State) (running : s.station = .running)
    (wheel : s.profile.source = .wheel) (back : turnsBack s (wha, whb)) :
    exec (.wheelChange wha whb) s = .next (reverseCount (followed wha whb s)) := by
  rw [exec_wheelChange_decoded wha whb s running wheel]
  exact congrArg Host.Outcome.next (decodeWheel_turnsBack (wha, whb) _ back)

/-- Settles O10: the change is one reverse count of the part that has followed the levels. Neither the pins nor the
reference enter the position or the floor, so that count is clamped or borrows as the part before would. -/
theorem reverseCountBorrowsOrClamps : Obligations.ReverseCountBorrowsOrClamps := by
  intro wha whb s running wheel back live
  have counted : SameOutside [.length] (followed wha whb s) (reverseCount (followed wha whb s)) :=
    reverseCount_frame _
  refine ⟨_, exec_wheelChange_turnsBack wha whb s running wheel back, ?pins, fun below => ?clamped,
    fun above => ?borrowed, ?frame⟩
  case pins => exact counted .pins (by decide)
  case clamped => exact congrArg State.length (reverseCount_clamped (followed wha whb s) live below)
  case borrowed => exact congrArg State.length (reverseCount_borrowed (followed wha whb s) live above)
  case frame => exact (followed_frame wha whb s).trans (counted.mono (by decide))

end Sys2Proof.Machine
end

section
/-! PROOFS. The mark list (chapter 3): what the identity check of a placement finds, and what it does to the part. -/

namespace Sys2Proof.Machine

/-! ## The identity check (R36) -/

theorem origin_eq_iff (a b : Origin) : a = b ↔ a.station = b.station ∧ a.serial = b.serial := by
  cases a; cases b; exact Iff.of_eq (Origin.mk.injEq ..)

/-- The identity check looks at the waiting marks, and at nothing else. -/
theorem isDuplicate_iff (m : Mark) (s : State) : isDuplicate m s ↔ ∃ w ∈ s.marks.marks, w.origin = m.origin := by
  simp [isDuplicate]

/-- The capacity rules come after the identity check, and drop no mark as a duplicate (R40 to R42). -/
theorem capacity_ne_duplicate (m : Mark) (marks : List Mark) : capacity m marks ≠ .duplicate := by
  unfold capacity
  split
  case isTrue boundary =>
    split
    · exact Placement.noConfusion
    · split <;> exact Placement.noConfusion
  case isFalse ordinary => split <;> exact Placement.noConfusion

/-- A placement drops a mark as a duplicate when the identity check finds it, and in no other case: that check is the
first, and none of those after it gives this fate. -/
theorem placementOf_eq_duplicate_iff (m : Mark) (s : State) : placementOf m s = .duplicate ↔ isDuplicate m s := by
  unfold placementOf
  split
  case isTrue found => exact iff_of_true rfl found
  case isFalse unfound =>
    refine iff_of_false ?_ unfound
    split
    case isTrue merged => exact Placement.noConfusion
    case isFalse unmerged =>
      split
      case isTrue reached => exact Placement.noConfusion
      case isFalse ahead => exact capacity_ne_duplicate m _

/-! ## A mark that the check drops (R36, R49) -/

theorem placeMark_duplicate {m : Mark} {s : State} (dropped : placementOf m s = .duplicate) :
    placeMark m s = countDuplicate s := by rw [placeMark, dropped]

theorem placeOrdinary_duplicate {m : Mark} {s : State} (dropped : placementOf m s = .duplicate) :
    placeOrdinary m s = countDuplicate s := by rw [placeOrdinary, dropped]

/-- Settles O23: a mark is dropped exactly when a waiting mark has its origin, and both ways of placing a mark then only
count it in the duplicate tally, whose bound is that of every tally (R49). -/
theorem duplicateIdentityIsDropped : Obligations.DuplicateIdentityIsDropped := by
  intro m s
  have dropped_iff : placementOf m s = .duplicate ↔ ∃ w ∈ s.marks.marks, w.origin = m.origin :=
    (placementOf_eq_duplicate_iff m s).trans (isDuplicate_iff m s)
  refine ⟨fun ⟨w, waits, sameIdentity⟩ => ?dropped, fun others found => ?kept⟩
  case dropped =>
    have dropped : placementOf m s = .duplicate :=
      dropped_iff.2 ⟨w, waits, (origin_eq_iff _ _).2 sameIdentity⟩
    exact ⟨placeMark_duplicate dropped, (placeOrdinary_duplicate dropped).trans (placeMark_duplicate dropped).symm⟩
  case kept =>
    obtain ⟨w, waits, same⟩ := dropped_iff.1 found
    exact others w waits same

end Sys2Proof.Machine
end

section
/-! PROOFS. The end of a link frame as the statements describe it: the reply and the latched set it leaves (R180), and
the blocks it does not enter. -/

namespace Sys2Proof.Machine

@[simp] theorem finishFrame_builder (len : Nat) (r : Reply) (s : State) :
    (finishFrame len r s).builder = s.builder := (finishFrame_frame len r s (bs := [.link])) .builder (by decide)
@[simp] theorem finishFrame_hold (len : Nat) (r : Reply) (s : State) : (finishFrame len r s).hold = s.hold :=
  (finishFrame_frame len r s (bs := [.link])) .hold (by decide)
@[simp] theorem finishFrame_port (len : Nat) (r : Reply) (s : State) : (finishFrame len r s).port = s.port :=
  (finishFrame_frame len r s (bs := [.link])) .port (by decide)

/-- A command that leaves the link alone, and then ends its frame, answers with the reply it ends the frame with. -/
theorem answers_finishFrame (len : Nat) (r : Reply) {s t : State} (link : t.link = s.link) :
    Answers len r s (finishFrame len r t) := by
  have held : heldBytes t = heldBytes s := by rw [heldBytes, heldBytes, link]
  have shifted : shiftedOut len t = shiftedOut len s := by rw [shiftedOut, shiftedOut, held]
  have loses : losesReply len t = losesReply len s := by rw [losesReply, losesReply, held]
  rw [finishFrame_eq, shifted, loses, link]
  exact ⟨⟨rfl, rfl, rfl, rfl, rfl⟩, rfl⟩

/-- The end of the frame adds the link to the blocks that a command changes. -/
theorem sameOutside_finishFrame {bs cs : List Block} {s t : State} (len : Nat) (r : Reply)
    (command : SameOutside bs s t) (within : Within (.link :: bs) cs := by decide) :
    SameOutside cs s (finishFrame len r t) :=
  (command.mono fun b h => within b (List.mem_cons_of_mem _ h)).trans
    ((finishFrame_frame len r t (bs := [.link])).mono
      fun b h => within b (List.mem_singleton.1 h ▸ List.mem_cons_self))

end Sys2Proof.Machine
end

section
/-! PROOFS. A cut sequence as it starts (8.4, 8.5): its cause set, what it claims, and how the builder and the hold
reason set go on by the coil log. -/

namespace Sys2Proof.Machine

/-! ## Cause sets (R186) -/

theorem hasCause_oneCause (c r : CutReason) : hasCause c (oneCause r) = true ↔ c = r := by
  cases c <;> cases r <;> decide

theorem hasCause_addCause (c r : CutReason) (causes : CauseSet) :
    hasCause c (addCause r causes) = true ↔ c = r ∨ hasCause c causes = true := by
  have union : hasCause c (addCause r causes) = (hasCause c causes || hasCause c (oneCause r)) := by
    simp [hasCause, addCause]
  rw [union, Bool.or_eq_true, hasCause_oneCause, or_comm]

/-! ## The causes found reached (R126) -/

theorem targetReached_iff (s : State) (cur : CurrentCoil) :
    targetReached s cur = true ↔ ∃ p, cur.record.planned = some p ∧ p ≤ cutReach s := by
  simp [targetReached, Option.any_eq_true]

theorem hasCause_withTarget (c : CutReason) (s : State) (cur : CurrentCoil) (causes : CauseSet) :
    hasCause c (withTarget s cur causes) = true ↔
      (c = .target ∧ targetReached s cur = true) ∨ hasCause c causes = true := by
  unfold withTarget
  split
  case isTrue reached => simp [hasCause_addCause, reached]
  case isFalse ahead => simp [ahead]

/-- The cause set with the reason that a claimed mark gives, if a mark is claimed. -/
def withClaimed (claim : Option Mark) (causes : CauseSet) : CauseSet :=
  claim.elim causes fun m => addCause m.kind.cause causes

theorem hasCause_withClaimed (c : CutReason) (claim : Option Mark) (causes : CauseSet) :
    hasCause c (withClaimed claim causes) = true ↔
      (∃ m, claim = some m ∧ c = m.kind.cause) ∨ hasCause c causes = true := by
  cases claim with
  | none => simp [withClaimed]
  | some m => simp [withClaimed, hasCause_addCause]

/-- The reason of a boundary mark, in the words of the statements. -/
theorem cause_eq (k : MarkKind) : k.cause = if k = .lotChange then .lotChange else .cutRequest := by
  cases k <;> rfl

/-! ## The sequence that starts (R126, R130) -/

/-- The sequence that starts with given causes: those found reached join them, and a boundary mark that is reached
is claimed. -/
def reachedSequence (given : CauseSet) (s : State) (cur : CurrentCoil) : CutSequence :=
  { causes := withTarget s cur (withClaimed (boundaryReached s cur) given)
    claim := (boundaryReached s cur).map claimOf, claimFired := false
    boundary := (boundaryReached s cur).bind boundaryOf }

theorem startReached_eq (given : CauseSet) {s : State} {cur : CurrentCoil} (current : s.builder.current = some cur) :
    startReached given s =
      goOn (s.withBuilder { s.builder with sequence := some (reachedSequence given s cur) }) := by
  simp only [startReached, current, startSequence, reachedSequence, withClaimed]
  cases boundaryReached s cur <;> rfl

theorem hasCause_reachedSequence (c : CutReason) (given : CauseSet) (s : State) (cur : CurrentCoil) :
    hasCause c (reachedSequence given s cur).causes = true ↔
      hasCause c given = true ∨ (c = .target ∧ targetReached s cur = true) ∨
        ∃ m, boundaryReached s cur = some m ∧ c = m.kind.cause := by
  rw [reachedSequence, hasCause_withTarget, hasCause_withClaimed, or_comm, or_comm (b := hasCause c given = true),
    or_assoc, or_comm (b := c = .target ∧ _)]

/-! ## Going on by the coil log (R127) -/

/-- A request to the hold unit is the change of the set that the statements speak of (R142, R146). -/
theorem setReasons_reasonsBecome (own : HoldSet) (s : State) : reasonsBecome own s (setReasons own s) := by
  refine ⟨setReasons_hold own s, fun same => ?same, fun changed => ?changed⟩
  case same => rw [same, setReasons_same]
  case changed =>
    rw [setReasons_change own s changed, offerClass0_eq]
    rfl

/-- The end of the frame enters neither the hold unit nor the port. -/
theorem reasonsBecome_finishFrame {own : HoldSet} {s t : State} (len : Nat) (r : Reply)
    (become : reasonsBecome own s t) : reasonsBecome own s (finishFrame len r t) := by
  simpa [reasonsBecome] using become

/-- With a free place in the log the sequence goes on to CUTTING, CUT standing in place of LOG_FULL. -/
theorem goOn_cutting {s : State} (room : s.builder.log.length < 8) :
    (goOn s).builder = { s.builder with state := .cutting, cutTimer := some s.now } ∧
      reasonsBecome ((s.hold.own &&& ~~~16#7) ||| 8#7) s (goOn s) := by
  rw [goOn, if_pos (show s.builder.log.length < logPlaces from room)]
  exact ⟨setReasons_builder _ _, setReasons_reasonsBecome _ _⟩

/-- With the log full the sequence waits in CUT_DUE, and LOG_FULL is given. -/
theorem goOn_cutDue {s : State} (full : 8 ≤ s.builder.log.length) :
    (goOn s).builder = { s.builder with state := .cutDue } ∧
      reasonsBecome (s.hold.own ||| 16#7) s (goOn s) := by
  rw [goOn, if_neg (show ¬s.builder.log.length < logPlaces from Nat.not_lt.2 full)]
  exact ⟨setReasons_builder _ _, setReasons_reasonsBecome _ _⟩

/-- Either way the sequence stands as it started. -/
theorem goOn_sequence (s : State) : (goOn s).builder.sequence = s.builder.sequence := by
  obtain room | full := Nat.lt_or_ge s.builder.log.length 8
  · rw [(goOn_cutting room).1]
  · rw [(goOn_cutDue full).1]

end Sys2Proof.Machine
end

section
/-! PROOFS. The commands of the coil builder (chapter 8): PLAN CLEAR and PLAN READ (R122), and CUT ORDER (R130). -/

namespace Sys2Proof.Machine

open SameOutside

/-! ## Where the builder's commands are refused (R121, R122, R130) -/

theorem builderShut_iff (s : State) : builderShut s = true ↔ s.station = .openState ∨ s.builder.state = .off := by
  cases station : s.station <;> simp [builderShut, State.isRunning, station]

/-- In RUNNING with the builder at work its commands are not refused. -/
theorem builderShut_eq_false {s : State} (running : s.station = .running) (atWork : s.builder.state ≠ .off) :
    builderShut s = false := by
  simp [builderShut, State.isRunning, running, atWork]

/-! ## PLAN CLEAR and PLAN READ -/

theorem exec_planClear_shut (fill : Nat) {s : State} (shut : builderShut s = true) :
    exec (.planClear fill) s = .next (finishFrame (3 + fill) (bare .wrongState) s) := if_pos shut

theorem exec_planClear_done (fill : Nat) {s : State} (taken : builderShut s = false) :
    exec (.planClear fill) s = .next (finishFrame (3 + fill) (done []) (clearPlan s)) :=
  if_neg (Bool.eq_false_iff.1 taken)

theorem exec_planRead (fill : Nat) (s : State) : exec (.planRead fill) s =
    .next (finishFrame (3 + fill) (done (listBytes planBytes s.builder.plan)) s) := rfl

/-- The bytes of a plan entry, its end flag standing as bit 7 of the last (R189). -/
theorem planBytes_eq : planBytes = fun e =>
    be 1 e.lotTag ++ be 4 e.target ++ be 1 e.count ++ be 1 (e.package + if e.endFlag then 128 else 0) := by
  funext e
  rw [planBytes]
  cases e.endFlag <;> rfl

theorem clearPlan_builder (s : State) : (clearPlan s).builder = { s.builder with
    plan := [], current := s.builder.current.map fun cur => { cur with entryRef := false } } := rfl

/-- After PLAN CLEAR the current coil, if any, holds no entry reference. -/
theorem clearPlan_entryRef {s : State} {cur : CurrentCoil} (current : (clearPlan s).builder.current = some cur) :
    cur.entryRef = false := by
  rw [clearPlan_builder] at current
  obtain ⟨before, -, rfl⟩ := Option.map_eq_some_iff.1 current
  rfl

/-- The close of a coil without an entry reference charges no entry (R135). -/
theorem closeCoil_plan (causes : CauseSet) (lateCut confirmed : Bool) (u : State)
    (unreferenced : ∀ cur, u.builder.current = some cur → cur.entryRef = false) :
    (closeCoil causes lateCut confirmed u).builder.plan = u.builder.plan := by
  unfold closeCoil
  split
  case h_1 none => rfl
  case h_2 cur current => simp [unreferenced cur current, State.withBuilder]

/-- Settles O34: PLAN CLEAR is refused where the builder is shut, and otherwise empties the plan; that it leaves no coil
with an entry reference is why a later close charges nothing. PLAN READ only ends its frame. -/
theorem planClearAndPlanRead : Obligations.PlanClearAndPlanRead := by
  intro fill s
  refine ⟨fun shut => ?refused, fun running atWork => ?cleared, ?read⟩
  case refused =>
    exact ⟨_, exec_planClear_shut fill ((builderShut_iff s).2 shut), answers_finishFrame _ _ rfl,
      finishFrame_frame _ _ _⟩
  case cleared =>
    refine ⟨_, exec_planClear_done fill (builderShut_eq_false running atWork), ?builder,
      answers_finishFrame _ _ rfl,
      sameOutside_finishFrame _ _ (clearPlan_frame s (bs := [.builder])),
      fun causes lateCut confirmed u coil => ?uncharged⟩
    case builder => rw [finishFrame_builder, clearPlan_builder]
    case uncharged =>
      rw [finishFrame_builder] at coil
      exact closeCoil_plan causes lateCut confirmed u fun cur current => clearPlan_entryRef (coil ▸ current)
  case read =>
    refine ⟨_, exec_planRead fill s, ?bytes, finishFrame_frame _ _ _⟩
    case bytes =>
      rw [listBytes, planBytes_eq]
      exact answers_finishFrame _ _ rfl

/-! ## CUT ORDER -/

theorem exec_cutOrder_shut (fill : Nat) {s : State} (shut : builderShut s = true) :
    exec (.cutOrder fill) s = .next (finishFrame (3 + fill) (bare .wrongState) s) := if_pos shut

theorem exec_cutOrder_done (fill : Nat) {s : State} (taken : builderShut s = false) :
    exec (.cutOrder fill) s =
      .next (finishFrame (3 + fill) (done (be 1 (builderCode (orderCut s).builder.state))) (orderCut s)) :=
  if_neg (Bool.eq_false_iff.1 taken)

/-- The sequence that a cut order starts: ORDERED, with what is reached. -/
def orderedSequence (s : State) (cur : CurrentCoil) : CutSequence := reachedSequence (oneCause .ordered) s cur

theorem orderCut_building {s : State} {cur : CurrentCoil} (building : s.builder.state = .building)
    (current : s.builder.current = some cur) :
    orderCut s = goOn (s.withBuilder { s.builder with sequence := some (orderedSequence s cur) }) := by
  rw [orderCut, if_pos building, startReached_eq _ current, orderedSequence]

theorem orderCut_sequence {s : State} {cur : CurrentCoil} (building : s.builder.state = .building)
    (current : s.builder.current = some cur) :
    (orderCut s).builder.sequence = some (orderedSequence s cur) := by
  rw [orderCut_building building current]
  exact goOn_sequence _

theorem orderCut_cutting {s : State} {cur : CurrentCoil} (building : s.builder.state = .building)
    (current : s.builder.current = some cur) (room : s.builder.log.length < 8) :
    (orderCut s).builder = { s.builder with
        state := .cutting, cutTimer := some s.now, sequence := some (orderedSequence s cur) } ∧
      reasonsBecome ((s.hold.own &&& ~~~16#7) ||| 8#7) s (orderCut s) := by
  rw [orderCut_building building current]
  exact goOn_cutting (s := s.withBuilder _) room

theorem orderCut_cutDue {s : State} {cur : CurrentCoil} (building : s.builder.state = .building)
    (current : s.builder.current = some cur) (full : 8 ≤ s.builder.log.length) :
    (orderCut s).builder = { s.builder with state := .cutDue, sequence := some (orderedSequence s cur) } ∧
      reasonsBecome (s.hold.own ||| 16#7) s (orderCut s) := by
  rw [orderCut_building building current]
  exact goOn_cutDue (s := s.withBuilder _) full

/-- While a sequence stands, ORDERED joins its causes. -/
theorem orderCut_standing {s : State} {q : CutSequence} (cutting : s.builder.state ≠ .building)
    (standing : s.builder.sequence = some q) : orderCut s = s.withBuilder { s.builder with
      sequence := some { q with causes := q.causes ||| 8#6 } } := by
  rw [orderCut, if_neg cutting, changeCauses, standing]
  rfl

/-- The causes of an ordered cut are ORDERED, TARGET where the planned cut position is reached, and the reason of the
boundary mark that is reached (R126, R130). -/
theorem hasCause_orderedSequence (c : CutReason) (s : State) (cur : CurrentCoil) :
    hasCause c (orderedSequence s cur).causes = true ↔ c = .ordered ∨
      (c = .target ∧ ∃ p, cur.record.planned = some p ∧ p ≤ cutReach s) ∨
      ∃ m, boundaryReached s cur = some m ∧ c = (if m.kind = .lotChange then .lotChange else .cutRequest) := by
  simp only [orderedSequence, hasCause_reachedSequence, hasCause_oneCause, targetReached_iff, cause_eq]

/-- Settles O36: in BUILDING the order starts the sequence of what is reached, which goes on by the coil log, and the
reply names the state that gives; in the three states of a sequence that stands ORDERED joins it, and the state
stays. -/
theorem cutOrderStartsASequence : Obligations.CutOrderStartsASequence := by
  intro fill s
  have link : (orderCut s).link = s.link := (orderCut_frame s (bs := [.builder, .hold, .port])) .link (by decide)
  refine ⟨fun shut => ?refused, fun cur running building current => ?started,
    fun q running cutting standing => ?joined⟩
  case refused =>
    exact ⟨_, exec_cutOrder_shut fill ((builderShut_iff s).2 shut), answers_finishFrame _ _ rfl,
      finishFrame_frame _ _ _⟩
  case started =>
    have taken : builderShut s = false := builderShut_eq_false running (by simp [building])
    refine ⟨_, orderedSequence s cur, exec_cutOrder_done fill taken, ?sequence, rfl,
      fun c => hasCause_orderedSequence c s cur, rfl, rfl, fun room => ?room, fun full => ?full, ?frame⟩
    case sequence => rw [finishFrame_builder, orderCut_sequence building current]
    case room =>
      obtain ⟨builder, become⟩ := orderCut_cutting building current room
      have state : (orderCut s).builder.state = .cutting := by rw [builder]
      rw [finishFrame_builder, state]
      exact ⟨builder, reasonsBecome_finishFrame _ _ become, answers_finishFrame _ _ link⟩
    case full =>
      obtain ⟨builder, become⟩ := orderCut_cutDue building current full
      have state : (orderCut s).builder.state = .cutDue := by rw [builder]
      rw [finishFrame_builder, state]
      exact ⟨builder, reasonsBecome_finishFrame _ _ become, answers_finishFrame _ _ link⟩
    case frame => exact sameOutside_finishFrame _ _ (orderCut_frame s (bs := [.builder, .hold, .port]))
  case joined =>
    have atWork : s.builder.state ≠ .off ∧ s.builder.state ≠ .building := by
      obtain state | state | state := cutting <;> simp [state]
    have order := orderCut_standing atWork.2 standing
    refine ⟨_, exec_cutOrder_done fill (builderShut_eq_false running atWork.1), ?builder, ?answer, ?frame⟩
    all_goals rw [order]
    case builder => exact finishFrame_builder _ _ _
    case answer => exact answers_finishFrame _ _ rfl
    case frame => exact sameOutside_finishFrame _ _ (withBuilder s _ (bs := [.builder]))

end Sys2Proof.Machine
end

section
/-! PROOFS. The hold commands (9.5): HOLD, RELEASE and STOP ACK as changes of the own hold reason set. -/

namespace Sys2Proof.Machine

open SameOutside

/-! ## The set after each command (R150, R151) -/

/-- ORDERED_HOLD is bit 0 of the set. -/
theorem giveReason_orderedHold (own : HoldSet) : giveReason .orderedHold own = own ||| 1#7 := rfl

theorem removeReason_orderedHold (own : HoldSet) : removeReason .orderedHold own = own &&& ~~~1#7 := rfl

/-- LAY_STOP, KNOT_STOP and BOUNDARY_LOST are bits 1, 2 and 5, which make 38. -/
theorem withoutStops_eq (own : HoldSet) : withoutStops own = own &&& ~~~38#7 :=
  calc withoutStops own
    _ = own &&& ~~~2#7 &&& ~~~4#7 &&& ~~~32#7 := rfl
    _ = own &&& ~~~38#7 := by simp only [BitVec.and_assoc]; rfl

/-- The set that a hold command asks for is the one it is stated to ask for. -/
theorem exec_eq_holdCommand {fill : Nat} {s : State} {c : Instr} {own : HoldSet}
    (command : (c = .hold fill ∧ own = s.hold.own ||| 1#7) ∨ (c = .release fill ∧ own = s.hold.own &&& ~~~1#7) ∨
      (c = .stopAck fill ∧ own = s.hold.own &&& ~~~38#7)) :
    exec c s = .next (holdCommand fill own s) := by
  obtain ⟨rfl, rfl⟩ | ⟨rfl, rfl⟩ | ⟨rfl, rfl⟩ := command
  case inl => rw [← giveReason_orderedHold]; rfl
  case inr.inl => rw [← removeReason_orderedHold]; rfl
  case inr.inr => rw [← withoutStops_eq]; rfl

/-! ## A hold command in RUNNING and in OPEN -/

/-- A reason set is reported in one byte (R186). -/
theorem holdBytes_eq (own : HoldSet) : holdBytes own = [BitVec.ofNat 8 own.toNat] := by
  simp [holdBytes, be]

/-- The reply carries the set that was asked for, which is the set after the command. -/
theorem doneOwn_setReasons (own : HoldSet) (s : State) :
    doneOwn (setReasons own s) = done [BitVec.ofNat 8 own.toNat] := by
  rw [doneOwn, setReasons_hold, holdBytes_eq]

theorem holdCommand_running (fill : Nat) (own : HoldSet) {s : State} (running : s.station = .running) :
    holdCommand fill own s = finishFrame (3 + fill) (done [BitVec.ofNat 8 own.toNat]) (setReasons own s) := by
  rw [← doneOwn_setReasons]
  exact if_pos (by rw [State.isRunning, running]; rfl)

theorem holdCommand_open (fill : Nat) (own : HoldSet) {s : State} (opened : s.station = .openState) :
    holdCommand fill own s = finishFrame (3 + fill) (bare .wrongState) s :=
  if_neg (by rw [State.isRunning, opened]; decide)

/-- Settles O43: each of the three commands is one request to the hold unit, for the set that the command asks for,
followed by the end of its frame; in OPEN there is the end of the frame alone. -/
theorem holdCommandsChangeTheReasons : Obligations.HoldCommandsChangeTheReasons := by
  intro fill s c own command
  rw [exec_eq_holdCommand command]
  refine ⟨fun running => ?done, fun opened => ?refused⟩
  case done =>
    rw [holdCommand_running fill own running]
    exact ⟨_, rfl, reasonsBecome_finishFrame _ _ (setReasons_reasonsBecome own s),
      answers_finishFrame _ _ (setReasons_link own s),
      sameOutside_finishFrame _ _ (setReasons_frame own s (bs := [.hold, .port]))⟩
  case refused =>
    rw [holdCommand_open fill own opened]
    exact ⟨_, rfl, answers_finishFrame _ _ rfl, finishFrame_frame _ _ _⟩

end Sys2Proof.Machine
end

section
/-! PROOFS. The notice serial counter (R158): what an offer to each class does to it, where a frame carries the serial,
and that RESTART RUN, whose only offers are to class 0, keeps it. -/

namespace Sys2Proof.Machine

open SameOutside

/-! ## An offer of a MARK notice (R158, R159) -/

@[simp] theorem withFifo_serialCounter (p : BusPort) (slot : Slot) (q : List Queued) :
    (withFifo p slot q).serialCounter = p.serialCounter := by
  cases slot <;> rfl

/-- No queue moves with the notice serial counter. -/
@[simp] theorem fifoOf_withSerialCounter (p : BusPort) (n : Nat) (slot : Slot) :
    fifoOf { p with serialCounter := n } slot = fifoOf p slot := by
  cases slot <;> rfl

/-- A drop is tallied and leaves every queue as it was. -/
@[simp] theorem fifoOf_dropNotice (s : State) (slot : Slot) : fifoOf (dropNotice s).port slot = fifoOf s.port slot := by
  cases slot <;> rfl

@[simp] theorem dropNotice_serialCounter (s : State) : (dropNotice s).port.serialCounter = s.port.serialCounter := rfl

/-- Queued or dropped, a MARK notice takes one value of the counter. -/
theorem offerMark_serialCounter (slot : Slot) (m : MarkPayload) (s : State) :
    (offerMark slot m s).port.serialCounter = nextSerial8 s.port.serialCounter := by
  by_cases room : (fifoOf s.port slot).length < fifoPlaces
  case pos => rw [offerMark_queued _ _ _ room, State.withPort_port, withFifo_serialCounter]
  case neg => rw [offerMark_dropped _ _ _ room, dropNotice_serialCounter, State.withPort_port]

/-- With room, the notice stands at the tail of its place with the value that the counter held. -/
theorem fifoOf_offerMark_queued {slot : Slot} (m : MarkPayload) {s : State}
    (ofMarks : slot = .class1 ∨ slot = .own ∨ slot = .forwarded) (room : (fifoOf s.port slot).length < fifoPlaces) :
    fifoOf (offerMark slot m s).port slot =
      fifoOf s.port slot ++ [freshNotice (.mark m) s.port.serialCounter] := by
  rw [offerMark_queued _ _ _ room, State.withPort_port, fifoOf_withFifo_mark _ _ _ ofMarks]

/-- Without room, its place is left as it was. -/
theorem fifoOf_offerMark_dropped {slot : Slot} (m : MarkPayload) {s : State}
    (full : ¬(fifoOf s.port slot).length < fifoPlaces) :
    fifoOf (offerMark slot m s).port slot = fifoOf s.port slot := by
  rw [offerMark_dropped _ _ _ full, fifoOf_dropNotice, State.withPort_port, fifoOf_withSerialCounter]

/-! ## The serial in a frame (R153) -/

/-- The frame of a class that carries no serial is the same for every serial. -/
theorem frameContent_bare {cls : Nat} (station kind serial stamp : Nat) (payload : List Byte)
    (noSerial : carriesSerial cls = false) : frameContent cls station kind serial stamp payload =
      bitsOf 8 (headerOf cls station) ++ bitsOf 4 kind ++ (bitsOf 32 stamp ++ bitsOf 5 payload.length ++
        byteBits payload) := by
  simp [frameContent, noSerial]

/-- In a class that carries it, the serial stands between the header and kind in front and the stamp. -/
theorem frameContent_carrying {cls : Nat} (station kind serial stamp : Nat) (payload : List Byte)
    (carries : carriesSerial cls = true) : frameContent cls station kind serial stamp payload =
      (bitsOf 8 (headerOf cls station) ++ bitsOf 4 kind) ++ (bitsOf 8 serial ++ (bitsOf 32 stamp ++
        bitsOf 5 payload.length ++ byteBits payload)) := by
  simp [frameContent, carries]

/-- The 8 bits after the 12 of header and kind are the serial. -/
theorem serial_of_frameContent {cls : Nat} (station kind serial stamp : Nat) (payload : List Byte)
    (carries : carriesSerial cls = true) :
    ((frameContent cls station kind serial stamp payload).drop 12).take 8 = bitsOf 8 serial := by
  have front : (bitsOf 8 (headerOf cls station) ++ bitsOf 4 kind).length = 12 := by simp
  rw [frameContent_carrying _ _ _ _ _ carries, List.drop_left' front, List.take_left' (bitsOf_length 8 serial)]

/-! ## RESTART RUN (R185) -/

/-- The counter is the port's, so whatever does not enter the port keeps it. -/
theorem serialCounter_eq_of_frame {bs : List Block} {s t : State} (frame : SameOutside bs s t)
    (outside : Block.port ∉ bs := by decide) : t.port.serialCounter = s.port.serialCounter :=
  congrArg BusPort.serialCounter (frame .port outside)

/-- A cut sequence reports its hold reason to class 0 alone. -/
theorem goOn_serialCounter (s : State) : (goOn s).port.serialCounter = s.port.serialCounter := by
  unfold goOn
  split
  case isTrue room => exact setReasons_serialCounter _ _
  case isFalse full => exact setReasons_serialCounter _ _

theorem startReached_serialCounter (given : CauseSet) (s : State) :
    (startReached given s).port.serialCounter = s.port.serialCounter := by
  unfold startReached
  split
  case h_1 noCoil => rfl
  case h_2 cur current => exact goOn_serialCounter _

theorem cutTest_serialCounter (s : State) : (cutTest s).port.serialCounter = s.port.serialCounter := by
  unfold cutTest
  split
  case h_1 cur building current =>
    split
    case h_1 p next =>
      split
      case isTrue reached => exact startReached_serialCounter _ _
      case isFalse ahead => rfl
    case h_2 noCut => rfl
  case h_2 notBuilding => rfl

/-- Up to its cut test the opening of a coil does not enter the port. -/
theorem openCoil_serialCounter (start : Nat) (carried : List Event) (s : State) :
    (openCoil start carried s).port.serialCounter = s.port.serialCounter := by
  unfold openCoil
  rw [cutTest_serialCounter]
  exact serialCounter_eq_of_frame (bs := [.builder, .link])
    ((((withBuilder s _).trans (takeHead_frame _)).trans (changeRecord_frame _ _)).trans (lossTest_frame _ _))

theorem builderBegins_serialCounter (carried : List Event) (s : State) :
    (builderBegins carried s).port.serialCounter = s.port.serialCounter := by
  unfold builderBegins
  split
  case isTrue off => rfl
  case isFalse atWork => exact openCoil_serialCounter _ _ _

/-- The length unit takes COUNT_LIMIT back, which is a request to the hold unit. -/
theorem lengthRestart_serialCounter (s : State) : (lengthRestart s).port.serialCounter = s.port.serialCounter :=
  setReasons_serialCounter _ _

theorem portRestart_serialCounter (s : State) : (portRestart s).port.serialCounter = s.port.serialCounter := rfl

/-- So far as RESTART RUN acts on the run count found, the counter is kept. -/
theorem ended_serialCounter (s : State) :
    (discardMarks (portRestart (builderEnds s))).port.serialCounter = s.port.serialCounter :=
  calc (discardMarks (portRestart (builderEnds s))).port.serialCounter
    _ = (portRestart (builderEnds s)).port.serialCounter := rfl
    _ = (builderEnds s).port.serialCounter := portRestart_serialCounter _
    _ = s.port.serialCounter := serialCounter_eq_of_frame (builderEnds_frame s (bs := [.builder, .link]))

/-- Every block's part in a RESTART RUN keeps the counter. -/
theorem restart_serialCounter (s : State) : (restart s).port.serialCounter = s.port.serialCounter :=
  calc (restart s).port.serialCounter
    _ = (knotRestart (layRestart (feedsRestart (senseRestart (lengthRestart
          (discardMarks (portRestart (builderEnds s)))))))).port.serialCounter := builderBegins_serialCounter _ _
    _ = (lengthRestart (discardMarks (portRestart (builderEnds s)))).port.serialCounter :=
      serialCounter_eq_of_frame (bs := [.sense, .feeds, .lay, .knot])
        ((((senseRestart_frame _).trans (feedsRestart_frame _)).trans (layRestart_frame _)).trans
          (knotRestart_frame _))
    _ = (discardMarks (portRestart (builderEnds s))).port.serialCounter := lengthRestart_serialCounter _
    _ = s.port.serialCounter := ended_serialCounter s

theorem exec_restartRun_refused (fill : Nat) {s : State} {code : ResultCode} (refused : restartRefusal s = some code) :
    exec (.restartRun fill) s = .next (finishFrame (frameLength 0 fill) (bare code) s) := by
  change execRestartRun fill s = _
  rw [execRestartRun, refused]

theorem exec_restartRun_taken (fill : Nat) {s : State} (taken : restartRefusal s = none) :
    exec (.restartRun fill) s = .next (finishFrame (frameLength 0 fill)
      (done (restartBytes s.length.runCount (currentSerial s))) (restart s)) := by
  change execRestartRun fill s = _
  rw [execRestartRun, taken]

/-- Refused or taken, RESTART RUN keeps the counter. -/
theorem exec_restartRun_serialCounter (fill : Nat) (s : State) :
    ∃ t, exec (.restartRun fill) s = .next t ∧ t.port.serialCounter = s.port.serialCounter := by
  match refusal : restartRefusal s with
  | some code => exact ⟨_, exec_restartRun_refused fill refusal, by rw [finishFrame_port]⟩
  | none =>
    refine ⟨_, exec_restartRun_taken fill refusal, ?_⟩
    rw [finishFrame_port, restart_serialCounter]

/-! ## The statement -/

/-- Settles O48: the offers by their two cases, room and none; the frames by whether the class carries a serial; the
station reset by its reset value, and RESTART RUN block by block. -/
theorem markNoticesTakeSerials : Obligations.MarkNoticesTakeSerials := by
  refine ⟨fun slot m s ofMarks => ?offers, fun payload s => ⟨rfl, rfl⟩,
    fun cls station kind serial stamp payload silent => ?bare,
    fun cls station kind serial stamp payload marks => ?carried,
    fun s => ⟨_, rfl, rfl⟩, exec_restartRun_serialCounter⟩
  case offers =>
    exact ⟨offerMark_serialCounter slot m s, fun room => fifoOf_offerMark_queued m ofMarks room,
      fun full => fifoOf_offerMark_dropped m (Nat.not_lt.2 full)⟩
  case bare =>
    have noSerial : carriesSerial cls = false := by obtain rfl | rfl := silent <;> rfl
    rw [frameContent_bare _ _ serial _ _ noSerial, frameContent_bare _ _ 0 _ _ noSerial]
    refine ⟨rfl, ?_⟩
    simp only [List.length_append, bitsOf_length, byteBits_length]
    omega
  case carried =>
    have carries : carriesSerial cls = true := by obtain rfl | rfl := marks <;> rfl
    refine ⟨?_, serial_of_frameContent _ _ _ _ _ carries⟩
    rw [frameContent_carrying _ _ _ _ _ carries]
    simp only [List.length_append, bitsOf_length, byteBits_length]
    omega

end Sys2Proof.Machine
end

section
/-! PROOFS. The attention sets (12.3): their members, when ATTN is asserted, and the two commands that read the latched
set. -/

namespace Sys2Proof.Machine

open SameOutside

/-! ## The members of a set (R183, R186) -/

theorem Condition.bit_lt (c : Condition) : c.bit < 19 := by cases c <;> decide

/-- The conditions in the order of their bits. -/
def conditionsByBit : List Condition :=
  [.coilReady, .planExhausted, .planMismatch, .cutFailed, .lotUnknown, .layStop, .knotStop, .boundaryLost, .markLost,
    .feedLost, .feedFound, .gap, .retroLoss, .lineHeld, .lineReleased, .countLimit, .busMuted, .busActive,
    .noticeDropped]

theorem conditionsByBit_bit (c : Condition) : conditionsByBit[c.bit]? = some c := by cases c <;> rfl

theorem Condition.bit_injective : Function.Injective Condition.bit := by
  intro c d same
  have found : some c = some d := by rw [← conditionsByBit_bit c, same, conditionsByBit_bit d]
  exact Option.some.inj found

/-- Each of the nineteen bits is the bit of a condition. -/
theorem Condition.exists_bit_eq {n : Nat} (inside : n < 19) : ∃ c : Condition, c.bit = n := by
  have inOrder : ∀ k : Fin 19, (conditionsByBit[k]).bit = k := by decide
  exact ⟨_, inOrder ⟨n, inside⟩⟩

theorem hasCondition_oneCondition (c d : Condition) : hasCondition c (oneCondition d) = true ↔ c = d := by
  have single : hasCondition c (oneCondition d) = decide (d.bit = c.bit) :=
    calc (BitVec.twoPow 19 d.bit).getLsbD c.bit
      _ = (decide (d.bit < 19) && decide (d.bit = c.bit)) := BitVec.getLsbD_twoPow _ _
      _ = decide (d.bit = c.bit) := by rw [decide_eq_true d.bit_lt, Bool.true_and]
  rw [single, decide_eq_true_iff, Condition.bit_injective.eq_iff, eq_comm]

theorem hasCondition_and (c : Condition) (a b : AttentionSet) :
    hasCondition c (a &&& b) = (hasCondition c a && hasCondition c b) := by simp [hasCondition]

/-- The set that a mask writes holds the conditions whose bits the mask has. -/
theorem hasCondition_ofNat (c : Condition) (mask : Nat) :
    hasCondition c (BitVec.ofNat 19 mask) = mask.testBit c.bit := by
  rw [hasCondition, BitVec.getLsbD_ofNat, decide_eq_true c.bit_lt, Bool.true_and]

/-- A set is not empty when a condition stands in it: no bit of it lies outside the nineteen. -/
theorem attentionSet_ne_zero_iff (conditions : AttentionSet) :
    conditions ≠ 0 ↔ ∃ c, hasCondition c conditions = true := by
  constructor
  case mp =>
    intro filled
    by_contra noneStands
    refine filled (BitVec.eq_of_getLsbD_eq fun n inside => ?_)
    obtain ⟨c, rfl⟩ := Condition.exists_bit_eq inside
    have absent : hasCondition c conditions = false := Bool.eq_false_iff.2 fun stands => noneStands ⟨c, stands⟩
    exact absent.trans BitVec.getLsbD_zero.symm
  case mpr =>
    rintro ⟨c, stands⟩ rfl
    simp [hasCondition] at stands

/-! ## ATTN (R183) -/

/-- ATTN is asserted while a latched condition is enabled. -/
theorem attn_iff (s : State) :
    s.attn = true ↔ ∃ c, hasCondition c s.link.latched = true ∧ hasCondition c s.link.enabled = true := by
  simp only [State.attn, decide_eq_true_iff, attentionSet_ne_zero_iff, hasCondition_and, Bool.and_eq_true]

/-- With nothing latched ATTN is not asserted, whatever is enabled. -/
theorem attn_of_latched_eq_zero {s : State} (empty : s.link.latched = 0) : s.attn = false := by
  simp [State.attn, empty]

/-- A condition latched into the empty set asserts ATTN when it is enabled. -/
theorem attn_latch_of_latched_eq_zero (c : Condition) {s : State} (empty : s.link.latched = 0) :
    (latch c s).attn = true ↔ hasCondition c s.link.enabled = true := by
  simp [attn_iff, empty, hasCondition_oneCondition]

/-- The first condition latched into the empty set stands there alone. -/
theorem latched_latch_of_latched_eq_zero (c : Condition) {s : State} (empty : s.link.latched = 0) :
    (latch c s).link.latched = oneCondition c := by
  simp [empty]

/-! ## The two commands (R184) -/

/-- The part from which ATTENTION READ has taken what it reports. -/
def emptied (s : State) : State := s.withLink { s.link with latched := 0 }

theorem exec_attentionRead (fill : Nat) (s : State) : exec (.attentionRead fill) s =
    .next (finishFrame (3 + fill) (done (be 3 s.link.latched.toNat)) (emptied s)) := rfl

/-- The latched set enters neither the reply held nor its tally, so the frame ends as if nothing had been taken. -/
theorem replies_finishFrame_emptied (len : Nat) (r : Reply) (s : State) :
    Replies len r s (finishFrame len r (emptied s)) := by
  rw [finishFrame_eq]
  exact ⟨rfl, rfl, rfl, rfl, rfl⟩

/-- The part with another enabled set. -/
def enabling (conditions : AttentionSet) (s : State) : State := s.withLink { s.link with enabled := conditions }

theorem exec_attentionEnable_taken {mask : Nat} (fill : Nat) (s : State) (inside : mask < 2 ^ 19) :
    exec (.attentionEnable mask fill) s =
      .next (finishFrame (6 + fill) (done (be 3 s.link.latched.toNat)) (enabling (BitVec.ofNat 19 mask) s)) := by
  change execAttentionEnable mask fill s = _
  rw [execAttentionEnable, attentionSetOf, if_pos inside]
  rfl

theorem exec_attentionEnable_refused {mask : Nat} (fill : Nat) (s : State) (outside : 2 ^ 19 ≤ mask) :
    exec (.attentionEnable mask fill) s = .next (finishFrame (6 + fill) (bare .outOfRange) s) := by
  change execAttentionEnable mask fill s = _
  rw [execAttentionEnable, attentionSetOf, if_neg (Nat.not_lt.2 outside)]
  rfl

/-- Settles O54: either command is one change of the link, followed by the end of its frame, which keeps both sets; ATTN
is then read off the sets, and after ATTENTION READ the latched one is empty. -/
theorem attentionIsReadAndEnabled : Obligations.AttentionIsReadAndEnabled := by
  intro mask fill s
  refine ⟨?read, fun inside => ?enabled, fun outside => ?refused⟩
  case read =>
    have empty : (finishFrame (3 + fill) (done (be 3 s.link.latched.toNat)) (emptied s)).link.latched = 0 :=
      finishFrame_latched _ _ _
    refine ⟨_, exec_attentionRead fill s, replies_finishFrame_emptied _ _ s, empty, attn_of_latched_eq_zero empty,
      (withLink s _).trans (finishFrame_frame _ _ _),
      fun c => ⟨latched_latch_of_latched_eq_zero c empty, ?_⟩⟩
    rw [attn_latch_of_latched_eq_zero c empty, finishFrame_enabled]
    rfl
  case enabled =>
    refine ⟨_, exec_attentionEnable_taken fill s inside, ?link, ?attn,
      (withLink s _).trans (finishFrame_frame _ _ _)⟩
    case link =>
      rw [finishFrame_eq]
      rfl
    case attn =>
      simp only [attn_iff, finishFrame_latched, finishFrame_enabled, enabling, State.withLink_link, hasCondition_ofNat]
  case refused =>
    exact ⟨_, exec_attentionEnable_refused fill s outside, answers_finishFrame _ _ rfl, finishFrame_frame _ _ _⟩

end Sys2Proof.Machine
end

section
/-! PROOFS. The check of a frame (R188): its register, its place in the frame sent, and what a receiver makes of it in a
frame whose parts stand where R187 lays them out. -/

namespace Sys2Proof.Machine

/-! ## Reading bits at the front -/

/-- Bits that are read on from equal lengths and write the same number are the same bits. -/
theorem foldl_bits_injective {a b : List Bool} (sameLength : a.length = b.length) {m n : Nat}
    (same : a.foldl (fun k bit => 2 * k + bit.toNat) m = b.foldl (fun k bit => 2 * k + bit.toNat) n) :
    m = n ∧ a = b := by
  induction a generalizing b m n with
  | nil =>
    obtain rfl := List.length_eq_zero_iff.1 sameLength.symm
    exact ⟨same, rfl⟩
  | cons x a ih =>
    cases b with
    | nil => cases sameLength
    | cons y b =>
      obtain ⟨front, rfl⟩ := ih (Nat.succ.inj sameLength) same
      have front : 2 * m + x.toNat = 2 * n + y.toNat := front
      have := x.toNat_lt
      have := y.toNat_lt
      have sameBit : x = y := Function.LeftInverse.injective Bool.ofNat_toNat (by omega)
      exact ⟨by omega, by rw [sameBit]⟩

theorem ofBits_inj {a b : List Bool} (sameLength : a.length = b.length) : ofBits a = ofBits b ↔ a = b :=
  ⟨fun same => (foldl_bits_injective sameLength same).2, congrArg ofBits⟩

theorem takeBits_append_of_length {w : Nat} {front : List Bool} (rest : List Bool) (width : front.length = w) :
    takeBits w (front ++ rest) = front := by
  rw [← width, takeBits_append]

/-- A written number is read back from the front, if it fits its width (R153). -/
theorem readNat_bitsOf_append {w n : Nat} (rest : List Bool) (fits : n < 2 ^ w) :
    readNat w (bitsOf w n ++ rest) = n := by
  rw [readNat, takeBits_append_of_length rest (bitsOf_length w n), ofBits_bitsOf, Nat.mod_eq_of_lt fits]

/-! ## The register (R188) -/

/-- The register takes the bits in the order sent. -/
theorem frameCheck_append_singleton (bits : List Bool) (b : Bool) :
    frameCheck (bits ++ [b]) = checkStep (frameCheck bits) b := by
  simp [frameCheck]

theorem checkStep_eq (register : BitVec 16) (b : Bool) : checkStep register b =
    if register.msb = b then register <<< 1 else (register <<< 1) ^^^ 32773#16 := by
  by_cases same : register.msb = b <;> simp [checkStep, same]

/-! ## The places of the fields in a frame (R153, R187) -/

/-- The bits that the serial takes in a frame of a class. -/
def serialWidth (cls : Nat) : Nat := if carriesSerial cls then 8 else 0

/-- The bits between the header and the length field: the kind, the serial where the class carries one, and the
stamp. -/
def kindSerialStamp (cls kind serial stamp : Nat) : List Bool :=
  bitsOf 4 kind ++ (if carriesSerial cls then bitsOf 8 serial else []) ++ bitsOf 32 stamp

theorem kindSerialStamp_length (cls kind serial stamp : Nat) :
    (kindSerialStamp cls kind serial stamp).length = 36 + serialWidth cls := by
  by_cases carries : carriesSerial cls = true <;> simp [kindSerialStamp, serialWidth, carries]

theorem frameContent_fields (cls station kind serial stamp : Nat) (payload : List Byte) :
    frameContent cls station kind serial stamp payload =
      bitsOf 8 (headerOf cls station) ++ (kindSerialStamp cls kind serial stamp ++
        (bitsOf 5 payload.length ++ byteBits payload)) := by
  simp [frameContent, kindSerialStamp]

theorem frameContent_length (cls station kind serial stamp : Nat) (payload : List Byte) :
    (frameContent cls station kind serial stamp payload).length = 12 + serialWidth cls + 37 + 8 * payload.length := by
  simp only [frameContent_fields, List.length_append, bitsOf_length, kindSerialStamp_length, byteBits_length]
  omega

section
variable {cls station : Nat} (kind serial stamp : Nat) {payload : List Byte} (rest : List Bool)

/-- A receiver reads the class from the front of the header. -/
theorem class_of_frameContent (payload : List Byte) (classFits : cls ≤ 3) (stationFits : station ≤ 63) :
    readNat 8 (frameContent cls station kind serial stamp payload ++ rest) / 64 = cls := by
  have header : headerOf cls station < 2 ^ 8 := by simp only [headerOf]; omega
  rw [frameContent_fields, List.append_assoc, readNat_bitsOf_append _ header, headerOf]
  omega

/-- The length field is read behind the stamp. -/
theorem payloadLength_of_frameContent (station : Nat) (lengthFits : payload.length ≤ 16) :
    readNat 5 ((frameContent cls station kind serial stamp payload ++ rest).drop (12 + serialWidth cls + 32)) =
      payload.length := by
  have front : (bitsOf 8 (headerOf cls station) ++ kindSerialStamp cls kind serial stamp).length =
      12 + serialWidth cls + 32 := by
    rw [List.length_append, bitsOf_length, kindSerialStamp_length]
    omega
  rw [frameContent_fields, ← List.append_assoc, List.append_assoc, List.drop_left' front, List.append_assoc]
  exact readNat_bitsOf_append _ (by omega)

/-- The receiver finds the end of the content where the sender put it. -/
theorem contentLength_frameContent (classFits : cls ≤ 3) (stationFits : station ≤ 63)
    (lengthFits : payload.length ≤ 16) :
    contentLength (frameContent cls station kind serial stamp payload ++ rest) =
      (frameContent cls station kind serial stamp payload).length := by
  rw [contentLength, class_of_frameContent _ _ _ _ _ classFits stationFits, List.drop_drop, ← serialWidth,
    payloadLength_of_frameContent _ _ _ _ _ lengthFits, frameContent_length]

end

/-! ## How a received frame is judged (R161) -/

/-- The number of payload bytes that a receiver reads from the length field. -/
def announcedLength (bits : List Bool) : Nat :=
  readNat 5 (((bits.drop 12).drop (serialWidth (readNat 8 bits / 64))).drop 32)

/-- What a receiver calls a framing error: an early start, a length past 16, or an end bit that is dominant. -/
def HasFramingError (early : Bool) (bits : List Bool) : Prop :=
  early ∨ 16 < announcedLength bits ∨
    takeBits 7 ((bits.drop (contentLength bits)).drop 16) ≠ List.replicate 7 true

theorem judgeFrame_of_hasFramingError {early : Bool} {bits : List Bool} (framing : HasFramingError early bits) :
    judgeFrame early bits = .framingError := if_pos framing

/-- Without a framing error the check received is compared with the one computed over the bits received. -/
theorem judgeFrame_of_not_hasFramingError {early : Bool} {bits : List Bool} (framed : ¬HasFramingError early bits) :
    ∃ f, judgeFrame early bits =
      if readNat 16 (bits.drop (contentLength bits)) ≠ (frameCheck (takeBits (contentLength bits) bits)).toNat
      then .checkFailure else .good f := ⟨_, if_neg framed⟩

theorem judgeFrame_eq_checkFailure_iff (early : Bool) (bits : List Bool) :
    judgeFrame early bits = .checkFailure ↔ ¬HasFramingError early bits ∧
      readNat 16 (bits.drop (contentLength bits)) ≠ (frameCheck (takeBits (contentLength bits) bits)).toNat := by
  by_cases framing : HasFramingError early bits
  case pos => simp [judgeFrame_of_hasFramingError framing, framing]
  case neg =>
    obtain ⟨f, judged⟩ := judgeFrame_of_not_hasFramingError framing
    simp [judged, framing]

/-- A frame whose content is followed by sixteen bits and seven recessive ones has no framing error: it fails exactly
where the sixteen bits are not the check of the content. -/
theorem judgeFrame_laidOut_eq_checkFailure_iff {cls station : Nat} (kind serial stamp : Nat) {payload : List Byte}
    {content check : List Bool} (after : List Bool) (classFits : cls ≤ 3) (stationFits : station ≤ 63)
    (lengthFits : payload.length ≤ 16) (isContent : content = frameContent cls station kind serial stamp payload)
    (checkWidth : check.length = 16) :
    judgeFrame false (content ++ (check ++ (List.replicate 7 true ++ after))) = .checkFailure ↔
      check ≠ bitsOf 16 (frameCheck content).toNat := by
  have contentEnd : ∀ rest, contentLength (content ++ rest) = content.length := by
    intro rest
    rw [isContent, contentLength_frameContent _ _ _ _ classFits stationFits lengthFits]
  have announced : ∀ rest, announcedLength (content ++ rest) = payload.length := by
    intro rest
    rw [announcedLength, List.drop_drop, List.drop_drop, ← Nat.add_assoc, isContent,
      class_of_frameContent _ _ _ _ _ classFits stationFits, payloadLength_of_frameContent _ _ _ _ _ lengthFits]
  have framed : ¬HasFramingError false (content ++ (check ++ (List.replicate 7 true ++ after))) := by
    rw [HasFramingError, announced, contentEnd, List.drop_left, List.drop_left' checkWidth,
      takeBits_append_of_length after (List.length_replicate ..)]
    simp [lengthFits]
  have computed : (frameCheck content).toNat = ofBits (bitsOf 16 (frameCheck content).toNat) := by
    rw [ofBits_bitsOf, Nat.mod_eq_of_lt (frameCheck content).isLt]
  rw [judgeFrame_eq_checkFailure_iff, and_iff_right framed, contentEnd, List.drop_left, takeBits_append, readNat,
    takeBits_append_of_length _ checkWidth, ne_eq, ne_eq,
    ← ofBits_inj (checkWidth.trans (bitsOf_length ..).symm), ← computed]

/-! ## The statement -/

/-- Settles O51: the register by its step, the check's place in the frame by the frame's layout, and the receiver by the
places where it finds the content, the check and the end bits. -/
theorem frameCheckFollowsItsRule : Obligations.FrameCheckFollowsItsRule := by
  refine ⟨rfl, fun bits b => ?register, by decide, fun station stamp slot q content isContent => ?sent,
    fun cls station kind serial stamp payload content check after classFits stationFits lengthFits isContent
      checkWidth => ?received⟩
  case register => rw [frameCheck_append_singleton, checkStep_eq]
  case sent =>
    subst isContent
    rfl
  case received =>
    rw [List.append_assoc, List.append_assoc]
    exact judgeFrame_laidOut_eq_checkFailure_iff kind serial stamp after classFits stationFits lengthFits isContent
      checkWidth

end Sys2Proof.Machine
end

section
/-! PROOFS. The loss list (4.5): that offering, closing and removing intervals keeps it in order of low, within its places,
and its intervals apart. -/

namespace Sys2Proof.Machine

-- One theorem after another: side by side they need more threads than the memory of the check allows.
set_option Elab.async false

/-! ## Intervals apart -/

/-- Two intervals of the list: two OPEN ones are of different feeds, and two closed ones neither overlap nor touch
(R62, R64). -/
def Apart (a b : LossInterval) : Prop :=
  (a.high = none → b.high = none → a.feed ≠ b.feed) ∧
    ∀ x ∈ a.high, ∀ y ∈ b.high, x + 1 < b.low ∨ y + 1 < a.low

/-- A closed interval ends where it starts or after (R62). -/
def Runs (i : LossInterval) : Prop := ∀ h ∈ i.high, i.low ≤ h

/-- The law of a loss list, whose OPEN intervals are of feeds that are lost (R55, R62 to R64). -/
structure ListFits (lost : Nat → Prop) (l : List LossInterval) : Prop where
  sorted : l.Pairwise (fun a b => a.low ≤ b.low)
  places : l.length ≤ lossPlaces
  tied : ∀ i ∈ l, i.high = none → ∃ f, i.feed = some f ∧ lost f
  runs : ∀ i ∈ l, Runs i
  apart : l.Pairwise Apart

theorem Apart.symm {a b : LossInterval} (h : Apart a b) : Apart b a :=
  ⟨fun hb ha => (h.1 ha hb).symm, fun x hx y hy => (h.2 y hy x hx).symm⟩

theorem isClosed_iff (i : LossInterval) : isClosed i = true ↔ ∃ h, i.high = some h := Option.isSome_iff_exists

theorem highOf_eq {i : LossInterval} {h : Nat} (closed : i.high = some h) : highOf i = h := by simp [highOf, closed]

theorem Runs.low_le {i : LossInterval} (runs : Runs i) : i.low ≤ highOf i := by
  unfold highOf
  cases h : i.high with
  | none => exact le_rfl
  | some x => exact runs x h

/-- Two closed intervals are apart where the one ends two positions or more before the other starts. -/
theorem apart_closed_iff {a b : LossInterval} (ha : isClosed a = true) (hb : isClosed b = true) :
    Apart a b ↔ highOf a + 1 < b.low ∨ highOf b + 1 < a.low := by
  obtain ⟨x, hx⟩ := (isClosed_iff a).1 ha
  obtain ⟨y, hy⟩ := (isClosed_iff b).1 hb
  simp [Apart, highOf, hx, hy]

theorem apart_of_open_closed {a b : LossInterval} (ha : a.high = none) (hb : isClosed b = true) : Apart a b := by
  obtain ⟨y, hy⟩ := (isClosed_iff b).1 hb
  simp [Apart, ha, hy]

theorem isClosed_eq_false {a : LossInterval} (ha : isClosed a = false) : a.high = none := by
  simpa [isClosed] using ha

theorem nearEachOther_eq_false_iff {a b : LossInterval} (ha : isClosed a = true) (hb : isClosed b = true) :
    nearEachOther a b = false ↔ Apart a b := by
  rw [apart_closed_iff ha hb]
  simp only [nearEachOther, ha, hb, Bool.true_and, Bool.and_eq_false_iff, decide_eq_false_iff_not]
  omega

/-- Intervals that a closed one is not near are apart from it. -/
theorem apart_of_not_near {a b : LossInterval} (ha : isClosed a = true) (h : nearEachOther a b = false) : Apart a b := by
  cases hb : isClosed b with
  | true => exact (nearEachOther_eq_false_iff ha hb).1 h
  | false => exact (apart_of_open_closed (isClosed_eq_false hb) ha).symm

theorem not_apart_self {a : LossInterval} (runs : Runs a) : ¬Apart a a := by
  cases ha : isClosed a with
  | true =>
    rw [apart_closed_iff ha ha]
    have := runs.low_le
    omega
  | false => exact fun h => h.1 (isClosed_eq_false ha) (isClosed_eq_false ha) rfl

theorem ListFits.nodup {lost : Nat → Prop} {l : List LossInterval} (fits : ListFits lost l) : l.Nodup :=
  fits.apart.imp_of_mem fun ha _ h e => not_apart_self (fits.runs _ ha) (by subst e; exact h)

theorem ListFits.apart_of_ne {lost : Nat → Prop} {l : List LossInterval} (fits : ListFits lost l) {a b : LossInterval}
    (ha : a ∈ l) (hb : b ∈ l) (ne : a ≠ b) : Apart a b :=
  haveI : Std.Symm Apart := ⟨fun _ _ h => h.symm⟩
  fits.apart.forall ha hb ne

theorem ListFits.sublist {lost : Nat → Prop} {l k : List LossInterval} (fits : ListFits lost l) (sub : k.Sublist l) :
    ListFits lost k :=
  ⟨fits.sorted.sublist sub, sub.length_le.trans fits.places, fun i hi => fits.tied i (sub.subset hi),
    fun i hi => fits.runs i (sub.subset hi), fits.apart.sublist sub⟩

theorem insertInterval_perm (i : LossInterval) (held : List LossInterval) :
    (insertInterval i held).Perm (i :: held) := by
  induction held with
  | nil => exact List.Perm.refl _
  | cons j rest ih =>
    unfold insertInterval
    split
    · exact (ih.cons j).trans (List.Perm.swap i j rest)
    · exact List.Perm.refl _

/-- An interval that is apart from those held may be inserted while there is room. -/
theorem ListFits.insert {lost : Nat → Prop} {l : List LossInterval} (fits : ListFits lost l) {i : LossInterval}
    (room : l.length < lossPlaces) (tied : i.high = none → ∃ f, i.feed = some f ∧ lost f) (runs : Runs i)
    (apart : ∀ j ∈ l, Apart i j) : ListFits lost (insertInterval i l) where
  sorted := insertInterval_sorted i l fits.sorted
  places := by rw [insertInterval_length]; exact room
  tied j hj := by
    rcases (mem_insertInterval i j l).1 hj with rfl | hj
    · exact tied
    · exact fits.tied j hj
  runs j hj := by
    rcases (mem_insertInterval i j l).1 hj with rfl | hj
    · exact runs
    · exact fits.runs j hj
  apart := ((insertInterval_perm i l).pairwise_iff fun h => h.symm).2 (List.pairwise_cons.2 ⟨apart, fits.apart⟩)

/-! ## Hulls (R63) -/

@[simp] theorem highOf_hull (a b : LossInterval) : highOf (hull a b) = max (highOf a) (highOf b) := rfl
@[simp] theorem low_hull (a b : LossInterval) : (hull a b).low = min a.low b.low := rfl

theorem runs_of_low_le {i : LossInterval} (h : i.low ≤ highOf i) : Runs i := by
  intro x hx
  rwa [highOf_eq hx] at h

theorem runs_hull {a b : LossInterval} (ha : Runs a) (hb : Runs b) : Runs (hull a b) := by
  refine runs_of_low_le ?_
  have := ha.low_le
  have := hb.low_le
  simp only [low_hull, highOf_hull]
  omega

/-- The hull of an interval and those near it: it covers the interval, and stays apart from what is apart from all of
them. -/
theorem foldl_hull (i : LossInterval) (runs : Runs i) (near : List LossInterval)
    (hnear : ∀ k ∈ near, nearEachOther i k = true) (hruns : ∀ k ∈ near, Runs k) (acc : LossInterval)
    (hacc : isClosed acc = true) (racc : Runs acc) (low : acc.low ≤ i.low) (high : highOf i ≤ highOf acc) :
    let h := near.foldl (fun acc j => hull j acc) acc
    isClosed h = true ∧ Runs h ∧ h.low ≤ i.low ∧ highOf i ≤ highOf h ∧
      ∀ j, isClosed j = true → Runs j → Apart i j → Apart acc j → (∀ k ∈ near, Apart k j) → Apart h j := by
  induction near generalizing acc with
  | nil => exact ⟨hacc, racc, low, high, fun j _ _ _ h _ => h⟩
  | cons k near ih =>
    obtain ⟨hk, hnear⟩ := List.forall_mem_cons.1 hnear
    obtain ⟨rk, hruns⟩ := List.forall_mem_cons.1 hruns
    have first := ih hnear hruns (hull k acc) rfl (runs_hull rk racc)
      (by simp only [low_hull]; omega) (by simp only [highOf_hull]; omega)
    refine ⟨first.1, first.2.1, first.2.2.1, first.2.2.2.1, fun j hj rj ij accj all => ?_⟩
    obtain ⟨kj, all⟩ := List.forall_mem_cons.1 all
    refine first.2.2.2.2 j hj rj ij ?_ all
    simp only [nearEachOther, Bool.and_eq_true, decide_eq_true_eq] at hk
    obtain ⟨⟨⟨ci, ck⟩, l1⟩, l2⟩ := hk
    rw [apart_closed_iff ci hj] at ij
    rw [apart_closed_iff hacc hj] at accj
    rw [apart_closed_iff ck hj] at kj
    rw [apart_closed_iff rfl hj]
    have := rj.low_le
    have := runs.low_le
    simp only [low_hull, highOf_hull]
    omega

/-- A closed interval merged with what it is near keeps the law (R63, first case). -/
theorem ListFits.absorb {lost : Nat → Prop} {l : List LossInterval} (fits : ListFits lost l) {i : LossInterval}
    (closed : isClosed i = true) (runs : Runs i) (some_near : l.any (nearEachOther i) = true) :
    ListFits lost (absorb i l) := by
  have hull := foldl_hull i runs (l.filter (nearEachOther i)) (fun k hk => (List.mem_filter.1 hk).2)
    (fun k hk => fits.runs k (List.mem_filter.1 hk).1) i closed runs le_rfl le_rfl
  obtain ⟨hclosed, hruns, -, -, hapart⟩ := hull
  refine (fits.sublist List.filter_sublist).insert ?_ ?_ hruns ?_
  · obtain ⟨k, hk, near⟩ := List.any_eq_true.1 some_near
    have : (l.filter fun j => !nearEachOther i j).length < l.length :=
      List.length_filter_lt_length_iff_exists.2 ⟨k, hk, by simp [near]⟩
    exact this.trans_le fits.places
  · intro h
    rw [isClosed, h] at hclosed
    cases hclosed
  · intro j hj
    obtain ⟨hj, far⟩ := List.mem_filter.1 hj
    have far : nearEachOther i j = false := by simpa using far
    cases cj : isClosed j with
    | false => exact (apart_of_open_closed (isClosed_eq_false cj) hclosed).symm
    | true =>
      have ij := apart_of_not_near closed far
      refine hapart j cj (fits.runs j hj) ij ij fun k hk => ?_
      obtain ⟨hk, near⟩ := List.mem_filter.1 hk
      refine fits.apart_of_ne hk hj ?_
      rintro rfl
      rw [near] at far
      cases far

/-! ## The nearest interval and the nearest pair (R63, R64) -/

/-- The least member by a measure, as a fold from the left picks it. -/
theorem foldl_least {α : Type} (measure : α → Nat) (pick : Option α → α → Option α) (first : ∀ j, pick none j = some j)
    (next : ∀ b j, pick (some b) j = if measure j < measure b then some j else some b) (l : List α) (best : Option α)
    {a : α} (h : l.foldl pick best = some a) :
    (a ∈ l ∨ best = some a) ∧ (∀ b ∈ l, measure a ≤ measure b) ∧ ∀ b, best = some b → measure a ≤ measure b := by
  induction l generalizing best with
  | nil =>
    rw [List.foldl_nil] at h
    exact ⟨.inr h, nofun, fun b hb => by rw [h] at hb; cases hb; exact le_rfl⟩
  | cons j l ih =>
    obtain ⟨mem, all, least⟩ := ih _ h
    have split : (pick best j = some j ∧ ∀ b, best = some b → measure j ≤ measure b) ∨
        ∃ b, best = some b ∧ pick best j = some b ∧ measure b ≤ measure j := by
      cases best with
      | none => exact .inl ⟨first j, nofun⟩
      | some b =>
        rw [next b j]
        split
        · exact .inl ⟨rfl, fun c hc => by cases hc; omega⟩
        · exact .inr ⟨b, rfl, rfl, by omega⟩
    obtain ⟨eq, hj⟩ | ⟨b, rfl, eq, hj⟩ := split <;> rw [eq] at mem least
    · have := least j rfl
      refine ⟨.inl ?_, List.forall_mem_cons.2 ⟨this, all⟩, fun b hb => this.trans (hj b hb)⟩
      obtain mem | mem := mem
      · exact List.mem_cons_of_mem _ mem
      · cases mem
        exact List.mem_cons_self
    · have := least b rfl
      exact ⟨mem.imp_left (List.mem_cons_of_mem _), List.forall_mem_cons.2 ⟨this.trans hj, all⟩, least⟩

/-- A fold that keeps what it has found finds something in a list that is not empty. -/
theorem foldl_pick_ne_none {α : Type} (pick : Option α → α → Option α) (found : ∀ best j, pick best j ≠ none)
    (l : List α) (best : Option α) (h : best ≠ none) : l.foldl pick best ≠ none := by
  induction l generalizing best with
  | nil => exact h
  | cons j l ih => exact ih _ (found best j)

theorem nearest_spec {i j : LossInterval} {held : List LossInterval} (h : nearest i held = some j) :
    j ∈ held ∧ isClosed j = true ∧ ∀ k ∈ held, isClosed k = true → distance i j ≤ distance i k := by
  obtain ⟨mem, all, -⟩ := foldl_least (distance i) _ (fun _ => rfl) (fun _ _ => rfl) _ none h
  obtain ⟨mem, closed⟩ := List.mem_filter.1 (mem.resolve_right nofun)
  exact ⟨mem, closed, fun k hk ck => all k (List.mem_filter.2 ⟨hk, ck⟩)⟩

/-- A closed interval offered to the list keeps its law (R63). -/
theorem ListFits.addClosed {lost : Nat → Prop} {l : List LossInterval} (fits : ListFits lost l) {i : LossInterval}
    (closed : isClosed i = true) (runs : Runs i) : ListFits lost (addClosed i l) := by
  have notOpen : i.high ≠ none := fun h => by rw [isClosed, h] at closed; cases closed
  unfold Machine.addClosed
  split
  · rename_i near
    exact fits.absorb closed runs near
  · rename_i far
    have far : ∀ j ∈ l, Apart i j := fun j hj =>
      apart_of_not_near closed (by simpa using fun h => far (List.any_eq_true.2 ⟨j, hj, h⟩))
    split
    · rename_i room
      exact fits.insert room (fun h => absurd h notOpen) runs far
    · split
      · rename_i j hj
        obtain ⟨mem, cj, least⟩ := nearest_spec hj
        have rj := fits.runs j mem
        refine (fits.sublist List.erase_sublist).insert ?_ (fun h => by cases h) (runs_hull rj runs) fun k hk => ?_
        · rw [List.length_erase_of_mem mem]
          have := List.length_pos_of_mem mem
          have := fits.places
          omega
        · obtain ⟨ne, hk⟩ := (List.Nodup.mem_erase_iff fits.nodup).1 hk
          cases ck : isClosed k with
          | false => exact (apart_of_open_closed (isClosed_eq_false ck) rfl).symm
          | true =>
            have rk := (fits.runs k hk).low_le
            have := rj.low_le
            have := runs.low_le
            have near := least k hk ck
            have jk := (apart_closed_iff cj ck).1 (fits.apart_of_ne mem hk ne.symm)
            have ik := (apart_closed_iff closed ck).1 (far k hk)
            have ij := (apart_closed_iff closed cj).1 (far j mem)
            rw [apart_closed_iff rfl ck]
            simp only [low_hull, highOf_hull]
            unfold distance at near
            omega
      · exact fits

/-- The members of a list next to each other. -/
theorem exists_split_of_mem_zip_tail {α : Type} {l : List α} {a b : α} (h : (a, b) ∈ l.zip l.tail) :
    ∃ front back, l = front ++ a :: b :: back := by
  induction l with
  | nil => simp at h
  | cons x l ih =>
    cases l with
    | nil => simp at h
    | cons y l =>
      rw [List.tail_cons, List.zip_cons_cons, List.mem_cons] at h
      rcases h with h | h
      · cases h
        exact ⟨[], l, rfl⟩
      · obtain ⟨front, back, eq⟩ := ih h
        exact ⟨x :: front, back, by rw [eq]; rfl⟩

/-- At most four intervals of a list are OPEN, each being of a feed of its own among four. -/
theorem ListFits.opens_le {lost : Nat → Prop} {l : List LossInterval} (fits : ListFits lost l)
    (four : ∀ f, lost f → f < 4) : (l.filter fun i => !isClosed i).length ≤ 4 := by
  have isOpen : ∀ i ∈ l.filter fun i => !isClosed i, i ∈ l ∧ i.high = none := fun i hi => by
    obtain ⟨mem, h⟩ := List.mem_filter.1 hi
    exact ⟨mem, isClosed_eq_false (by simpa using h)⟩
  have nodup : ((l.filter fun i => !isClosed i).map LossInterval.feed).Nodup :=
    List.pairwise_map.2 ((fits.apart.sublist List.filter_sublist).imp_of_mem fun ha hb h =>
      h.1 (isOpen _ ha).2 (isOpen _ hb).2)
  have sub : (l.filter fun i => !isClosed i).map LossInterval.feed ⊆ (List.range 4).map some := fun f hf => by
    obtain ⟨i, hi, rfl⟩ := List.mem_map.1 hf
    obtain ⟨f, eq, hf⟩ := fits.tied i (isOpen i hi).1 (isOpen i hi).2
    exact List.mem_map.2 ⟨f, List.mem_range.2 (four f hf), eq.symm⟩
  simpa using (List.subperm_of_subset nodup sub).length_le

/-- Room made in a full list keeps the law and frees a place (R64). -/
theorem ListFits.makeRoom {lost : Nat → Prop} {l : List LossInterval} (fits : ListFits lost l)
    (full : l.length = lossPlaces) (four : ∀ f, lost f → f < 4) :
    ListFits lost (makeRoom l) ∧ (makeRoom l).length < lossPlaces ∧
      ∀ i ∈ makeRoom l, i.high = none → i ∈ l := by
  unfold Machine.makeRoom
  have sorted : (l.filter isClosed).Pairwise fun a b => a.low ≤ b.low := fits.sorted.sublist List.filter_sublist
  have apart : (l.filter isClosed).Pairwise Apart := fits.apart.sublist List.filter_sublist
  have closed : ∀ i ∈ l.filter isClosed, i ∈ l ∧ isClosed i = true ∧ i.low ≤ highOf i := fun i hi =>
    ⟨(List.mem_filter.1 hi).1, (List.mem_filter.1 hi).2, (fits.runs i (List.mem_filter.1 hi).1).low_le⟩
  have many : 4 ≤ (l.filter isClosed).length := by
    have count := List.length_eq_length_filter_add (l := l) isClosed
    have := fits.opens_le four
    unfold lossPlaces at full
    omega
  cases found : nearestPair ((l.filter isClosed).zip (l.filter isClosed).tail) with
  | some p =>
    obtain ⟨a, b⟩ := p
    simp only [found]
    obtain ⟨mem, -, -⟩ := foldl_least (fun p => distance p.1 p.2) _ (fun _ => rfl) (fun _ _ => rfl) _ none found
    obtain ⟨front, back, eq⟩ := exists_split_of_mem_zip_tail (mem.resolve_right nofun)
    rw [eq] at sorted apart closed
    obtain ⟨ha, ca, ra⟩ := closed a (by simp)
    obtain ⟨hb, cb, rb⟩ := closed b (by simp)
    simp only [List.pairwise_append, List.pairwise_cons, List.mem_cons] at sorted apart
    have ab : highOf a + 1 < b.low := by
      have := (apart_closed_iff ca cb).1 (apart.2.1.1 b (.inl rfl))
      have := sorted.2.1.1 b (.inl rfl)
      omega
    have ne : b ≠ a := by
      rintro rfl
      omega
    have hb' : b ∈ l.erase a := (List.Nodup.mem_erase_iff fits.nodup).2 ⟨ne, hb⟩
    have length : ((l.erase a).erase b).length + 2 = lossPlaces := by
      rw [List.length_erase_of_mem hb', List.length_erase_of_mem ha, full]
      rfl
    have smaller := fits.sublist (List.erase_sublist.trans (List.erase_sublist (a := a) (l := l)) :
      ((l.erase a).erase b).Sublist l)
    refine ⟨smaller.insert (by omega) (fun h => by cases h)
      (runs_hull (fits.runs a ha) (fits.runs b hb)) fun k hk => ?_, ?_, ?_⟩
    · obtain ⟨nb, hk⟩ := (List.Nodup.mem_erase_iff (fits.nodup.sublist List.erase_sublist)).1 hk
      obtain ⟨na, hk⟩ := (List.Nodup.mem_erase_iff fits.nodup).1 hk
      cases ck : isClosed k with
      | false => exact (apart_of_open_closed (isClosed_eq_false ck) rfl).symm
      | true =>
        rw [apart_closed_iff rfl ck]
        simp only [low_hull, highOf_hull]
        have place : k ∈ l.filter isClosed := List.mem_filter.2 ⟨hk, ck⟩
        rw [eq] at place
        have rk := (closed k place).2.2
        simp only [List.mem_append, List.mem_cons] at place
        rcases place with before | rfl | rfl | after
        · have := (apart_closed_iff ck ca).1 (apart.2.2 k before a (.inl rfl))
          have := sorted.2.2 k before a (.inl rfl)
          omega
        · exact absurd rfl na
        · exact absurd rfl nb
        · have := (apart_closed_iff cb ck).1 (apart.2.1.2.1 k after)
          have := sorted.2.1.2.1 k after
          omega
    · rw [insertInterval_length]
      omega
    · intro i hi opened
      rcases (mem_insertInterval _ i _).1 hi with rfl | hi
      · cases opened
      · exact List.mem_of_mem_erase (List.mem_of_mem_erase hi)
  | none =>
    exfalso
    match h : l.filter isClosed, many with
    | a :: b :: rest, _ =>
      rw [h] at found
      refine foldl_pick_ne_none _ (fun best j => ?_) _ (some (a, b)) nofun found
      cases best with
      | none => exact Option.some_ne_none _
      | some b => dsimp only; split <;> exact Option.some_ne_none _

/-- An OPEN interval of a lost feed that has none yet, offered to the list, keeps its law (R64). -/
theorem ListFits.addOpen {lost : Nat → Prop} {l : List LossInterval} (fits : ListFits lost l)
    (four : ∀ f, lost f → f < 4) {i : LossInterval} {f : Nat} (opened : i.high = none) (feed : i.feed = some f)
    (hf : lost f) (fresh : ∀ j ∈ l, j.high = none → j.feed ≠ some f) : ListFits lost (addOpen i l) := by
  have runs : Runs i := fun h hh => by rw [opened] at hh; cases hh
  have apart : ∀ j, (j.high = none → j.feed ≠ some f) → Apart i j := fun j hj =>
    ⟨fun _ h e => hj h (e ▸ feed), fun x hx => by rw [opened] at hx; cases hx⟩
  unfold Machine.addOpen
  split
  · rename_i room
    exact fits.insert room (fun _ => ⟨f, feed, hf⟩) runs fun j hj => apart j (fresh j hj)
  · obtain ⟨fits', room, opens⟩ := fits.makeRoom (by have := fits.places; omega) four
    exact fits'.insert room (fun _ => ⟨f, feed, hf⟩) runs fun j hj => apart j fun h => fresh j (opens j hj h) h

/-- The OPEN interval of a feed closed: the law is kept, and holds with that feed no longer lost (R56, R64). -/
theorem ListFits.closeOpen {lost lost' : Nat → Prop} {l : List LossInterval} (fits : ListFits lost l) (feed high : Nat)
    (others : ∀ f, f ≠ feed → lost f → lost' f) : ListFits lost' (closeOpen feed high l) := by
  have ofOther {k : List LossInterval} (fits : ListFits lost k)
      (none_left : ∀ j ∈ k, j.high = none → j.feed ≠ some feed) : ListFits lost' k :=
    ⟨fits.sorted, fits.places, fun j hj h =>
      have ⟨f, eq, hf⟩ := fits.tied j hj h
      ⟨f, eq, others f (fun e => none_left j hj h (e ▸ eq)) hf⟩, fits.runs, fits.apart⟩
  unfold Machine.closeOpen
  cases found : l.find? (isOpenOf feed) with
  | none =>
    refine ofOther fits fun j hj h e => ?_
    have := List.find?_eq_none.1 found j hj
    simp [isOpenOf, isClosed, h, e] at this
  | some i =>
    have mem := List.mem_of_find?_eq_some found
    have opened : i.high = none ∧ i.feed = some feed := by
      have := List.find?_some found
      simpa [isOpenOf, isClosed] using this
    have apart : ∀ j ∈ l.erase i, Apart i j := fun j hj => by
      obtain ⟨ne, hj⟩ := (List.Nodup.mem_erase_iff fits.nodup).1 hj
      exact fits.apart_of_ne mem hj ne.symm
    have rest : ListFits lost' (l.erase i) := ofOther (fits.sublist List.erase_sublist) fun j hj h e =>
      (apart j hj).1 opened.1 h (opened.2.trans e.symm)
    have runs : Runs { i with high := some (max i.low high) } := runs_of_low_le (Nat.le_max_left _ _)
    simp only
    split
    · rename_i near
      exact rest.absorb rfl runs near
    · rename_i far
      obtain ⟨front, back, eq⟩ := List.append_of_mem mem
      have nodup := fits.nodup
      have notIn : i ∉ front ∧ i ∉ back := by
        have := (List.nodup_middle.1 (eq ▸ nodup)).notMem
        rwa [List.mem_append, not_or] at this
      have same : ∀ k : List LossInterval, i ∉ k →
          (k.map fun j => if j = i then { i with high := some (max i.low high) } else j) = k := fun k hk => by
        conv_rhs => rw [← List.map_id k]
        refine List.map_congr_left fun j hj => if_neg (show ¬j = i from fun e => hk (e ▸ hj))
      have erased : l.erase i = front ++ back := by
        rw [eq, List.erase_append_right _ notIn.1, List.erase_cons_head]
      have mapped : (l.map fun j => if j = i then { i with high := some (max i.low high) } else j) =
          front ++ { i with high := some (max i.low high) } :: back := by
        rw [eq, List.map_append, List.map_cons, same _ notIn.1, same _ notIn.2, if_pos rfl]
      rw [mapped]
      rw [erased] at rest far
      have far : ∀ j ∈ front ++ back, Apart { i with high := some (max i.low high) } j := fun j hj =>
        apart_of_not_near rfl (by simpa using fun h => far (List.any_eq_true.2 ⟨j, hj, h⟩))
      have middle : (front ++ { i with high := some (max i.low high) } :: back).Perm
          ({ i with high := some (max i.low high) } :: (front ++ back)) := List.perm_middle
      refine ⟨?_, ?_, ?_, ?_, ?_⟩
      · have := fits.sorted
        rw [eq] at this
        simpa [List.pairwise_append] using this
      · have := fits.places
        rw [eq] at this
        simpa using this
      · intro j hj h
        rcases List.mem_cons.1 (middle.mem_iff.1 hj) with rfl | hj
        · cases h
        · exact rest.tied j hj h
      · intro j hj
        rcases List.mem_cons.1 (middle.mem_iff.1 hj) with rfl | hj
        · exact runs
        · exact rest.runs j hj
      · exact (middle.pairwise_iff fun h => h.symm).2 (List.pairwise_cons.2 ⟨far, rest.apart⟩)

end Sys2Proof.Machine
end

section
/-! PROOFS. What the operations of the part have in common: every one of them is a chain of single moves, each the
replacement of one block under the condition that the block's own law is kept. A law is then kept by every operation once
it is kept by every single move. -/

namespace Sys2Proof.Machine

-- One theorem after another: side by side they need more threads than the memory of the check allows.
set_option Elab.async false

/-! ## The laws, block by block -/

/-- The laws of the mark list but for where the run count stands (R35, R37, R40). -/
structure MarksFit (marks : List Mark) : Prop where
  sorted : marks.Pairwise (fun a b => a.position ≤ b.position)
  places : marks.length ≤ markPlaces
  ordinary : ordinaryWaiting marks ≤ ordinaryPlaces
  origins : marks.Pairwise (fun a b => a.origin ≠ b.origin)
  lots : marks.Pairwise (fun a b => a.kind = .lotChange → b.kind = .lotChange → a.lotTag ≠ b.lotTag)

theorem MarksFit.sublist {marks rest : List Mark} (fit : MarksFit marks) (sub : rest.Sublist marks) : MarksFit rest :=
  ⟨fit.sorted.sublist sub, sub.length_le.trans fit.places, (sub.countP_le).trans fit.ordinary, fit.origins.sublist sub,
    fit.lots.sublist sub⟩

/-- The mark list keeps its laws, and no position that it or the knot monitor holds lies beyond the ceiling (R1, R35, R58,
R99). -/
structure Bounded (s : State) : Prop where
  count : s.length.runCount ≤ maxCount
  fraction : s.length.fraction < 65536
  fit : MarksFit s.marks.marks
  marks : ∀ m ∈ s.marks.marks, m.position ≤ maxCount
  knot : ∀ r ∈ s.knot.faultRun, r.start ≤ maxCount

/-- CUT and LOG_FULL stand in a hold reason set as a builder state asks (R119). -/
def CutBits (own : HoldSet) (state : BuilderState) : Prop :=
  (hasReason .cut own = true ↔ state = .cutting ∨ state = .cutFailed) ∧
    (hasReason .logFull own = true ↔ state = .cutDue)

/-- A builder's log is within its places, one of them free while it cuts (R127, R135). -/
def LogFits (b : CoilBuilder) : Prop :=
  b.log.length ≤ logPlaces ∧ (b.state = .cutting ∨ b.state = .cutFailed → b.log.length < logPlaces)

/-- The builder and the own hold reasons replaced together keep the laws that speak of either. -/
structure BuilderKept (s : State) (v : CoilBuilder) (own : HoldSet) : Prop where
  bits : CutBits s.hold.own s.builder.state → CutBits own v.state
  off : s.station = .openState → s.builder.state = .off → v.state = .off
  log : LogFits s.builder → LogFits v
  coil : CoilLaw s → CoilLaw (s.withBuilder v)
  plan : s.builder.plan.length ≤ planPlaces → v.plan.length ≤ planPlaces

/-- The holder list within its places, no station twice (R147). -/
def HoldersFit (holders : List Holder) : Prop :=
  holders.length ≤ holderPlaces ∧ holders.Pairwise (fun a b => a.station ≠ b.station)

/-- The port's queues, attempts, counter and score within their limits (R156, R158, R159, R164). -/
def PortFits (p : BusPort) : Prop :=
  p.class1.length ≤ fifoPlaces ∧ p.own.length ≤ fifoPlaces ∧ p.forwarded.length ≤ fifoPlaces ∧
    (∀ slot, ∀ q ∈ fifoOf p slot, q.attempts < 3) ∧
    p.serialCounter ≤ 255 ∧ p.score ≤ 255 ∧ (p.state ≠ .muted → p.score < muteScore)

/-- The lot table within its places, in order of tag (R107). -/
def LotsFit (table : List LotRecord) : Prop :=
  table.length ≤ lotPlaces ∧ table.Pairwise (fun a b => a.tag < b.tag)

/-- The loss list and the feed table it speaks of (R55, R62 to R64). -/
def FeedsFit (u : FeedUnit) : Prop :=
  u.table.length ≤ 4 ∧ u.losses.Pairwise (fun a b => a.low ≤ b.low) ∧ u.losses.length ≤ lossPlaces ∧
    (∀ i ∈ u.losses, i.high = none → ∃ f, i.feed = some f ∧ ∃ e, u.table[f]? = some e ∧ e.state = .lost) ∧
    u.losses.Pairwise (fun a b => a.high = none → b.high = none → a.feed ≠ b.feed) ∧
    (∀ i ∈ u.losses, ∀ h ∈ i.high, i.low ≤ h) ∧
    u.losses.Pairwise (fun a b => ∀ x ∈ a.high, ∀ y ∈ b.high, x + 1 < b.low ∨ y + 1 < a.low)

/-- The trim correction in its range (R86). -/
def TrimInRange (l : LayMonitor) : Prop := -400 ≤ l.trimCorrection ∧ l.trimCorrection ≤ 400

/-- A mark may be stored: it lies ahead, no waiting mark has its identity or, of a LOT_CHANGE, its lot, and there is room
for its kind (R36 to R40). -/
structure Storable (s : State) (m : Mark) : Prop where
  ahead : s.length.runCount < m.position
  identity : ∀ w ∈ s.marks.marks, w.origin ≠ m.origin
  lot : ∀ w ∈ s.marks.marks, m.kind = .lotChange → w.kind = .lotChange → w.lotTag ≠ m.lotTag
  room : s.marks.marks.length < markPlaces
  ordinary : m.kind.isBoundary = false → ordinaryWaiting s.marks.marks < ordinaryPlaces

theorem insertMark_perm (m : Mark) (marks : List Mark) : (insertMark m marks).Perm (m :: marks) := by
  induction marks with
  | nil => exact List.Perm.refl _
  | cons w rest ih =>
    unfold insertMark
    split
    · exact (ih.cons w).trans (List.Perm.swap m w rest)
    · exact List.Perm.refl _

theorem ordinaryWaiting_insertMark (m : Mark) (marks : List Mark) :
    ordinaryWaiting (insertMark m marks) = ordinaryWaiting marks + if m.kind.isBoundary then 0 else 1 := by
  unfold ordinaryWaiting
  rw [(insertMark_perm m marks).countP_eq, List.countP_cons]
  cases m.kind.isBoundary <;> rfl

theorem MarksFit.insert {s : State} {m : Mark} (fit : MarksFit s.marks.marks) (storable : Storable s m) :
    MarksFit (insertMark m s.marks.marks) where
  sorted := insertMark_sorted m _ fit.sorted
  places := by rw [insertMark_length]; exact storable.room
  ordinary := by
    rw [ordinaryWaiting_insertMark]
    cases kind : m.kind.isBoundary with
    | true => exact fit.ordinary
    | false => exact storable.ordinary kind
  origins := ((insertMark_perm m _).pairwise_iff fun h => h.symm).2
    (List.pairwise_cons.2 ⟨fun w hw => (storable.identity w hw).symm, fit.origins⟩)
  lots := ((insertMark_perm m _).pairwise_iff fun h ha hb => (h hb ha).symm).2
    (List.pairwise_cons.2 ⟨fun w hw hm hk => (storable.lot w hw hm hk).symm, fit.lots⟩)

/-! ## Moves -/

/-- Whether an operation may move the run count, whether it may clear latched conditions and take back hold reasons that
the coil builder does not own, whether it may latch or give KNOT_STOP, or take it back, and whether it may change the link
but for the latched conditions, the port but for its queues, and the hold unit but for its own reasons, and whether it may
change the feed table. -/
structure Scope where
  counts : Bool
  clears : Bool
  stops : Bool
  talks : Bool
  hears : Bool

/-- Any operation. -/
abbrev Scope.free : Scope := ⟨true, true, true, true, true⟩

/-- An operation over which the run count stands. -/
abbrev Scope.still : Scope := ⟨false, true, true, true, true⟩

/-- An operation that clears nothing that has been latched or given, and answers nothing. -/
abbrev Scope.growing : Scope := ⟨false, false, true, false, true⟩

/-- Such an operation that leaves KNOT_STOP and the feed table alone. -/
abbrev Scope.stopless : Scope := ⟨false, false, false, false, false⟩

/-- Every latched condition stays latched. -/
def LatchedStays (a b : AttentionSet) : Prop := ∀ c, hasCondition c a = true → hasCondition c b = true

/-- Every hold reason stays given, but for the coil builder's own two. -/
def ReasonsStay (a b : HoldSet) : Prop :=
  ∀ r, r ≠ .cut → r ≠ .logFull → hasReason r a = true → hasReason r b = true

/-- What a scope lets become of the latched conditions. -/
def Scope.Latches (scope : Scope) (a b : AttentionSet) : Prop :=
  (scope.clears = false → LatchedStays a b) ∧
    (scope.stops = false → hasCondition .knotStop b = hasCondition .knotStop a)

/-- What a scope lets become of the own hold reasons. -/
def Scope.Gives (scope : Scope) (a b : HoldSet) : Prop :=
  (scope.clears = false → ReasonsStay a b) ∧ (scope.stops = false → hasReason .knotStop b = hasReason .knotStop a)

/-- A port that has been offered notices: nothing but its queues, the serial counter, the frame being sent and the tally of
drops may have changed. -/
def OnlyOffers (p v : BusPort) : Prop :=
  v = { p with
    class0 := v.class0, class1 := v.class1, own := v.own, forwarded := v.forwarded, class3 := v.class3
    serialCounter := v.serialCounter, sending := v.sending, dropped := v.dropped }

theorem OnlyOffers.trans {p v w : BusPort} (first : OnlyOffers p v) (second : OnlyOffers v w) : OnlyOffers p w :=
  Eq.trans second (by rw [first])

/-- A chain of moves, each the replacement of one block that keeps the block's own law. `bounded` says whether positions
may be taken to lie within the ceiling, and `scope` what else an operation may do. -/
inductive Path (bounded : Prop) (scope : Scope) : State → State → Prop
  | refl (s) : Path bounded scope s s
  | trans {s t u} : Path bounded scope s t → Path bounded scope t u → Path bounded scope s u
  | now (s v) : Path bounded scope s (s.withNow v)
  | orders (s v) : Path bounded scope s (s.withOrders v)
  | pending (s v) : Path bounded scope s (s.withPending v)
  | latch (s) (v : AttentionSet) (latches : scope.Latches s.link.latched v) :
      Path bounded scope s (s.withLink { s.link with latched := v })
  | link (s) (v : LocalLink) (latched : v.latched = s.link.latched) (talks : scope.talks = true) :
      Path bounded scope s (s.withLink v)
  | running (s) : Path bounded scope s (s.withStation .running)
  | profile (s) (v : Profile) (inputs : v.inputs.length = s.profile.inputs.length)
      (feeds : v.feeds.length = s.profile.feeds.length) : Path bounded scope s (s.withProfile v)
  | pins (s) (v : Pins) (inputs : v.sns.length = s.pins.sns.length) : Path bounded scope s (s.withPins v)
  | sense (s) (v : SenseUnit) (inputs : v.inputs.length = s.sense.inputs.length) :
      Path bounded scope s (s.withSense v)
  | length (s) (v : LengthUnit) (still : scope.counts = false → v.runCount = s.length.runCount)
      (within : bounded → Bounded s → v.runCount ≤ maxCount ∧ v.fraction < 65536) (coil : CoilLaw s → CoilLaw (s.withLength v)) :
      Path bounded scope s (s.withLength v)
  | lots (s) (v : LotUnit) (table : LotsFit s.lots.table → LotsFit v.table) : Path bounded scope s (s.withLots v)
  | lay (s) (v : LayMonitor) (trim : TrimInRange s.lay → TrimInRange v) : Path bounded scope s (s.withLay v)
  | trim (s v) (law : TrimLaw s → TrimLaw (s.withTrim v)) : Path bounded scope s (s.withTrim v)
  | knot (s) (v : KnotMonitor)
      (history : s.knot.history.length ≤ historyPlaces → v.history.length ≤ historyPlaces)
      (run : bounded → Bounded s → ∀ r ∈ v.faultRun, r.start ≤ maxCount) : Path bounded scope s (s.withKnot v)
  | feeds (s) (v : FeedUnit) (law : bounded → Bounded s → FeedsFit s.feeds → FeedsFit v)
      (table : scope.hears = false → v.table = s.feeds.table) : Path bounded scope s (s.withFeeds v)
  | waiting (s) (v : MarkList) (marks : v.marks.Sublist s.marks.marks) : Path bounded scope s (s.withMarks v)
  | store (s) (m : Mark) (storable : bounded → m.position ≤ maxCount ∧ Storable s m) :
      Path bounded scope s (withWaiting (insertMark m s.marks.marks) s)
  | builder (s v own) (kept : BuilderKept s v own) (gives : scope.Gives s.hold.own own) :
      Path bounded scope s ((s.withBuilder v).withHold { s.hold with own := own })
  | hold (s) (v : HoldUnit) (own : v.own = s.hold.own) (holders : HoldersFit s.hold.holders → HoldersFit v.holders)
      (talks : scope.talks = true) :
      Path bounded scope s (s.withHold v)
  | port (s) (v : BusPort) (fits : PortFits s.port → PortFits v)
      (silent : s.station = .openState → s.port.state = .silent → v.state = .silent)
      (offers : scope.talks = false → OnlyOffers s.port v) : Path bounded scope s (s.withPort v)

namespace Path

variable {bounded : Prop} {scope : Scope} {s t : State}

/-! ## The laws along a path -/

theorem bounded_kept (path : Path bounded scope s t) (b : bounded) : Bounded s → Bounded t := by
  induction path with
  | trans _ _ first second => exact second ∘ first
  | length s v _ within _ => exact fun h => ⟨(within b h).1, (within b h).2, h.fit, h.marks, h.knot⟩
  | knot s v _ run => exact fun h => ⟨h.count, h.fraction, h.fit, h.marks, run b h⟩
  | waiting s v marks =>
    exact fun h => ⟨h.count, h.fraction, h.fit.sublist marks, fun m hm => h.marks m (marks.subset hm), h.knot⟩
  | store s m storable =>
    obtain ⟨within, storable⟩ := storable b
    refine fun h => ⟨h.count, h.fraction, h.fit.insert storable, fun w hw => ?_, h.knot⟩
    obtain rfl | hw := (mem_insertMark m w _).1 hw
    · exact within
    · exact h.marks w hw
  | _ => exact fun h => ⟨h.count, h.fraction, h.fit, h.marks, h.knot⟩

theorem portLaw (path : Path bounded scope s t) : PortLaw s → PortLaw t := by
  induction path with
  | trans _ _ first second => exact second ∘ first
  | running s =>
    rintro ⟨class1, own, forwarded, attempts, serial, score, muted, -⟩
    exact ⟨class1, own, forwarded, attempts, serial, score, muted, nofun⟩
  | port s v fits silent =>
    rintro ⟨class1, own, forwarded, attempts, serial, score, muted, opened⟩
    obtain ⟨class1, own, forwarded, attempts, serial, score, muted⟩ :=
      fits ⟨class1, own, forwarded, attempts, serial, score, muted⟩
    exact ⟨class1, own, forwarded, attempts, serial, score, muted, fun h => silent h (opened h)⟩
  | _ => exact id

theorem placesLaw (path : Path bounded scope s t) : PlacesLaw s → PlacesLaw t := by
  induction path with
  | trans _ _ first second => exact second ∘ first
  | profile s v inputs feeds =>
    rintro ⟨pins, sense, hinputs, hfeeds, rest⟩
    exact ⟨pins, sense, inputs.trans hinputs, feeds.trans hfeeds, rest⟩
  | pins s v inputs =>
    rintro ⟨pins, rest⟩
    exact ⟨inputs.trans pins, rest⟩
  | sense s v inputs =>
    rintro ⟨pins, sense, rest⟩
    exact ⟨pins, inputs.trans sense, rest⟩
  | lots s v table =>
    rintro ⟨pins, sense, inputs, feeds, places, sorted, rest⟩
    obtain ⟨places, sorted⟩ := table ⟨places, sorted⟩
    exact ⟨pins, sense, inputs, feeds, places, sorted, rest⟩
  | knot s v history run =>
    rintro ⟨pins, sense, inputs, feeds, places, sorted, plan, holders, stations, rows⟩
    exact ⟨pins, sense, inputs, feeds, places, sorted, plan, holders, stations, history rows⟩
  | builder s v own kept _ =>
    rintro ⟨pins, sense, inputs, feeds, places, sorted, plan, rest⟩
    exact ⟨pins, sense, inputs, feeds, places, sorted, kept.plan plan, rest⟩
  | hold s v own holders _ =>
    rintro ⟨pins, sense, inputs, feeds, places, sorted, plan, within, stations, rows⟩
    obtain ⟨within, stations⟩ := holders ⟨within, stations⟩
    exact ⟨pins, sense, inputs, feeds, places, sorted, plan, within, stations, rows⟩
  | _ => exact id

theorem trimLaw (path : Path bounded scope s t) : TrimLaw s → TrimLaw t := by
  induction path with
  | trans _ _ first second => exact second ∘ first
  | lay s v trim =>
    rintro ⟨low, high, time⟩
    obtain ⟨low, high⟩ := trim ⟨low, high⟩
    exact ⟨low, high, time⟩
  | trim s v law => exact law
  | _ => exact id

theorem coilLaw (path : Path bounded scope s t) : CoilLaw s → CoilLaw t := by
  induction path with
  | trans _ _ first second => exact second ∘ first
  | length s v _ _ coil => exact coil
  | builder s v own kept _ => exact kept.coil
  | _ => exact id

theorem cutLaws (path : Path bounded scope s t) : CutReasonLaw s ∧ LogLaw s → CutReasonLaw t ∧ LogLaw t := by
  induction path with
  | trans _ _ first second => exact second ∘ first
  | running s =>
    rintro ⟨⟨cut, full, -⟩, log⟩
    exact ⟨⟨cut, full, nofun⟩, log⟩
  | builder s v own kept _ =>
    rintro ⟨⟨cut, full, opened⟩, log⟩
    obtain ⟨cut, full⟩ := kept.bits ⟨cut, full⟩
    exact ⟨⟨cut, full, fun h => kept.off h (opened h)⟩, kept.log log⟩
  | hold s v own holders _ =>
    rintro ⟨⟨cut, full, opened⟩, log⟩
    exact ⟨⟨own ▸ cut, own ▸ full, opened⟩, log⟩
  | _ => exact id

theorem feedsFit (path : Path bounded scope s t) (b : bounded) : Bounded s → FeedsFit s.feeds → FeedsFit t.feeds := by
  induction path with
  | trans first _ hfirst hsecond => exact fun h fit => hsecond (first.bounded_kept b h) (hfirst h fit)
  | feeds s v law _ => exact law b
  | _ => exact fun _ => id

end Path

/-- Every waiting mark lies ahead of the run count (R35). -/
def Ahead (s : State) : Prop := ∀ m ∈ s.marks.marks, s.length.runCount < m.position

theorem markLaw_iff (s : State) : MarkLaw s ↔
    MarksFit s.marks.marks ∧ Ahead s ∧ (∀ m ∈ s.marks.marks, m.position ≤ maxCount) ∧
      ∀ r ∈ s.knot.faultRun, r.start ≤ maxCount :=
  ⟨fun ⟨sorted, ahead, places, ordinary, origins, lots, marks, knot⟩ =>
      ⟨⟨sorted, places, ordinary, origins, lots⟩, ahead, marks, knot⟩,
    fun ⟨⟨sorted, places, ordinary, origins, lots⟩, ahead, marks, knot⟩ =>
      ⟨sorted, ahead, places, ordinary, origins, lots, marks, knot⟩⟩

theorem bounded_of_laws {s : State} (marks : MarkLaw s) (count : CountLaw s) : Bounded s :=
  have ⟨fit, _, within, knot⟩ := (markLaw_iff s).1 marks
  ⟨count.1, count.2.1, fit, within, knot⟩

theorem Bounded.markLaw {s : State} (within : Bounded s) (ahead : Ahead s) : MarkLaw s :=
  (markLaw_iff s).2 ⟨within.fit, ahead, within.marks, within.knot⟩

/-- The number of waiting marks that the run count has reached. -/
def reachedCount (s : State) : Nat := s.marks.marks.countP fun m => decide (m.position ≤ s.length.runCount)

theorem ahead_iff (s : State) : Ahead s ↔ reachedCount s = 0 := by
  simp [Ahead, reachedCount, List.countP_eq_zero]

namespace Path

variable {bounded : Prop} {scope : Scope} {s t : State}

/-- While the run count stands, it reaches no further mark. -/
theorem reachedCount_le (path : Path bounded .still s t) (b : bounded) : reachedCount t ≤ reachedCount s := by
  generalize h : Scope.still = scope at path
  induction path with
  | trans _ _ first second => exact second.trans first
  | length s v still => exact le_of_eq (by simp [reachedCount, still (h ▸ rfl)])
  | waiting s v marks => exact marks.countP_le
  | store s m storable =>
    have ahead : ¬decide (m.position ≤ s.length.runCount) = true := by simpa using (storable b).2.ahead
    exact le_of_eq (((insertMark_perm m _).countP_eq _).trans (List.countP_cons_of_neg ahead))
  | _ => exact le_rfl

theorem runCount_eq (path : Path bounded scope s t) (still : scope.counts = false) :
    t.length.runCount = s.length.runCount := by
  induction path with
  | trans _ _ first second => exact second.trans first
  | length s v stands => exact stands still
  | _ => rfl

theorem ahead (path : Path bounded .still s t) (b : bounded) (h : Ahead s) : Ahead t := by
  rw [ahead_iff] at *
  exact Nat.le_zero.1 (h ▸ path.reachedCount_le b)

/-- An operation that clears nothing keeps what has been latched. -/
theorem latchedStays (path : Path bounded scope s t) (keeps : scope.clears = false) :
    LatchedStays s.link.latched t.link.latched := by
  induction path with
  | trans _ _ first second => exact fun c h => second c (first c h)
  | latch s v latches => exact latches.1 keeps
  | link s v latched => exact fun _ => latched ▸ id
  | _ => exact fun _ => id

/-- An operation that clears nothing keeps the hold reasons given, but for the coil builder's own two. -/
theorem reasonsStay (path : Path bounded scope s t) (keeps : scope.clears = false) :
    ReasonsStay s.hold.own t.hold.own := by
  induction path with
  | trans _ _ first second => exact fun r cut full h => second r cut full (first r cut full h)
  | builder s v own kept gives => exact gives.1 keeps
  | hold s v own holders _ => exact fun _ _ _ => own ▸ id
  | _ => exact fun _ _ _ => id

/-- An operation that answers nothing changes nothing of the link but the latched conditions. -/
theorem link_eq (path : Path bounded scope s t) (quiet : scope.talks = false) :
    t.link = { s.link with latched := t.link.latched } := by
  induction path with
  | trans _ _ first second => exact second.trans (by rw [first])
  | link s v latched talks => exact absurd (quiet.symm.trans talks) nofun
  | _ => rfl

/-- Nor does it change anything of the hold unit but its own reasons. -/
theorem hold_eq (path : Path bounded scope s t) (quiet : scope.talks = false) :
    t.hold = { s.hold with own := t.hold.own } := by
  induction path with
  | trans _ _ first second => exact second.trans (by rw [first])
  | hold s v own holders talks => exact absurd (quiet.symm.trans talks) nofun
  | _ => rfl

/-- Nor does it change anything of the port but its queues. -/
theorem port_offers (path : Path bounded scope s t) (quiet : scope.talks = false) : OnlyOffers s.port t.port := by
  induction path with
  | trans _ _ first second => exact first.trans second
  | port s v fits silent offers => exact offers quiet
  | _ => rfl

/-- An operation that hears no feed changes nothing of the feed table. -/
theorem table_eq (path : Path bounded scope s t) (quiet : scope.hears = false) : t.feeds.table = s.feeds.table := by
  induction path with
  | trans _ _ first second => exact second.trans first
  | feeds s v law table => exact table quiet
  | _ => rfl

/-- An operation that leaves KNOT_STOP alone keeps it as it stands, latched and given. -/
theorem knotStop_eq (path : Path bounded scope s t) (keeps : scope.stops = false) :
    hasCondition .knotStop t.link.latched = hasCondition .knotStop s.link.latched ∧
      hasReason .knotStop t.hold.own = hasReason .knotStop s.hold.own := by
  induction path with
  | trans _ _ first second => exact ⟨second.1.trans first.1, second.2.trans first.2⟩
  | latch s v latches => exact ⟨latches.2 keeps, rfl⟩
  | link s v latched => exact ⟨congrArg _ latched, rfl⟩
  | builder s v own kept gives => exact ⟨rfl, gives.2 keeps⟩
  | hold s v own holders _ => exact ⟨rfl, congrArg _ own⟩
  | _ => exact ⟨rfl, rfl⟩

end Path

/-- An operation that, started within the ceiling, is a chain of moves. -/
def Evolves (scope : Scope) (s t : State) : Prop := ∀ bounded : Prop, (bounded → Bounded s) → Path bounded scope s t

end Sys2Proof.Machine
end

section
/-! PROOFS. The operations shared by the blocks as chains of moves: latching, offers to the port, the hold reasons, the coil
builder, the loss list, and the firing and placing of marks. -/

namespace Sys2Proof.Machine

-- One theorem after another: side by side they need more threads than the memory of the check allows.
set_option Elab.async false

namespace Evolves

variable {scope : Scope} {s t u : State}

theorem of_path (path : ∀ bounded, Path bounded scope s t) : Evolves scope s t := fun bounded _ => path bounded

theorem refl (s : State) : Evolves scope s s := of_path fun _ => .refl s

theorem trans (first : Evolves scope s t) (second : Evolves scope t u) : Evolves scope s u := fun bounded b =>
  (first bounded b).trans (second bounded fun h => (first bounded b).bounded_kept h (b h))

theorem ite {p : Prop} [Decidable p] (yes : p → Evolves scope s t) (no : ¬p → Evolves scope s u) :
    Evolves scope s (if p then t else u) := by
  split
  · exact yes ‹_›
  · exact no ‹_›

/-- A change of the link that leaves the latched conditions. -/
theorem link {counts clears stops : Bool} (s : State) (v : LocalLink) (latched : v.latched = s.link.latched) :
    Evolves ⟨counts, clears, stops, true, true⟩ s (s.withLink v) := of_path fun _ => .link s v latched rfl

theorem port {counts clears stops : Bool} (s : State) (v : BusPort) (fits : PortFits s.port → PortFits v)
    (state : v.state = s.port.state) : Evolves ⟨counts, clears, stops, true, true⟩ s (s.withPort v) :=
  of_path fun _ => .port s v fits (fun _ h => state.trans h) nofun

/-- An offer to the port. -/
theorem offer (s : State) (v : BusPort) (fits : PortFits s.port → PortFits v) (offers : OnlyOffers s.port v) :
    Evolves scope s (s.withPort v) :=
  of_path fun _ => .port s v fits (fun _ h => (congrArg BusPort.state offers).trans h) fun _ => offers

theorem lay (s : State) (v : LayMonitor) (trim : TrimInRange s.lay → TrimInRange v) : Evolves scope s (s.withLay v) :=
  of_path fun _ => .lay s v trim

theorem sense (s : State) (v : SenseUnit) (inputs : v.inputs.length = s.sense.inputs.length) :
    Evolves scope s (s.withSense v) := of_path fun _ => .sense s v inputs

theorem waiting (s : State) (v : MarkList) (marks : v.marks.Sublist s.marks.marks) : Evolves scope s (s.withMarks v) :=
  of_path fun _ => .waiting s v marks

theorem builder (s : State) (v : CoilBuilder) (kept : BuilderKept s v s.hold.own) :
    Evolves scope s (s.withBuilder v) := of_path fun _ =>
  .builder s v s.hold.own kept ⟨fun _ _ _ _ => id, fun _ => rfl⟩

end Evolves

open Evolves

variable {scope : Scope}

/-! ## Latching and offers -/

theorem latch_evolves_of {c : Condition} (s : State) (ordinary : scope.stops = false → c ≠ .knotStop) :
    Evolves scope s (latch c s) := by
  refine of_path fun _ => .latch s _ ⟨fun _ d h => (hasCondition_or d s.link.latched (oneCondition c)).trans (by simp [h]),
    fun stopless => (hasCondition_or _ _ _).trans ?_⟩
  have other : hasCondition .knotStop (oneCondition c) = false :=
    Bool.eq_false_iff.2 fun h => ordinary stopless ((hasCondition_oneCondition _ _).1 h).symm
  rw [other, Bool.or_false]

theorem latch_evolves (c : Condition) (s : State) (ordinary : c ≠ .knotStop := by decide) :
    Evolves scope s (latch c s) := latch_evolves_of s fun _ => ordinary

theorem useOrder_evolves (s : State) : Evolves scope s s.useOrder := of_path fun _ => .orders s _

/-- A port whose queues are those of another but for one, replaced by a list that fits, is within its limits. -/
theorem PortFits.withFifo {p : BusPort} (fits : PortFits p) (slot : Slot) (q : List Queued)
    (places : q.length ≤ fifoPlaces) (attempts : ∀ n ∈ q, n.attempts < 3) : PortFits (withFifo p slot q) := by
  obtain ⟨class1, own, forwarded, held, rest⟩ := fits
  have queues : ∀ other, ∀ n ∈ fifoOf (Machine.withFifo p slot q) other, n.attempts < 3 := by
    intro other n hn
    by_cases same : other = slot
    · subst same
      have : n ∈ q := by
        cases other
        case class0 | class3 => exact List.mem_of_head? (Option.mem_toList.1 hn)
        all_goals exact hn
      exact attempts n this
    · rw [fifoOf_withFifo_other p slot other q same] at hn
      exact held other n hn
  cases slot
  case class1 => exact ⟨places, own, forwarded, queues, rest⟩
  case own => exact ⟨class1, places, forwarded, queues, rest⟩
  case forwarded => exact ⟨class1, own, places, queues, rest⟩
  all_goals exact ⟨class1, own, forwarded, queues, rest⟩

theorem withFifo_state (p : BusPort) (slot : Slot) (q : List Queued) : (withFifo p slot q).state = p.state := by
  cases slot <;> rfl

/-- A port that differs from another in nothing its limits speak of. -/
theorem PortFits.congr {p v : BusPort} (fits : PortFits p) (fifo : ∀ slot, fifoOf v slot = fifoOf p slot)
    (serial : v.serialCounter = p.serialCounter) (score : v.score = p.score) (state : v.state = p.state) :
    PortFits v := by
  obtain ⟨class1, own, forwarded, attempts, rest⟩ := fits
  have h1 : v.class1 = p.class1 := fifo .class1
  have h2 : v.own = p.own := fifo .own
  have h3 : v.forwarded = p.forwarded := fifo .forwarded
  exact ⟨h1 ▸ class1, h2 ▸ own, h3 ▸ forwarded, fun slot q hq => attempts slot q (fifo slot ▸ hq),
    by rw [serial, score, state]; exact rest⟩

theorem PortFits.class_offer {p v : BusPort} (fits : PortFits p) (slot : Slot) (q : Queued) (fresh : q.attempts = 0)
    (fifo : ∀ other, fifoOf v other = fifoOf (Machine.withFifo p slot [q]) other)
    (serial : v.serialCounter = p.serialCounter) (score : v.score = p.score) (state : v.state = p.state) :
    PortFits v := by
  have := fits.withFifo slot [q] (by decide : 1 ≤ fifoPlaces) (by simp [fresh])
  exact this.congr fifo (serial.trans (by cases slot <;> rfl)) (score.trans (by cases slot <;> rfl))
    (state.trans (withFifo_state p slot _).symm)

theorem offerClass0_evolves (p : Payload) (s : State) : Evolves scope s (offerClass0 p s) :=
  offer s _ (fun fits => fits.class_offer .class0 (freshNotice p 0) rfl (fun other => by cases other <;> rfl)
    rfl rfl rfl) rfl

theorem offerClass3_evolves (p : Payload) (s : State) : Evolves scope s (offerClass3 p s) :=
  offer s _ (fun fits => fits.class_offer .class3 (freshNotice p 0) rfl (fun other => by cases other <;> rfl)
    rfl rfl rfl) rfl

theorem dropNotice_evolves (s : State) : Evolves scope s (dropNotice s) :=
  Evolves.trans (offer s { s.port with dropped := tally s.port.dropped }
    (fun fits => fits.congr (fun other => by cases other <;> rfl) rfl rfl rfl) rfl) (latch_evolves _ _)

theorem nextSerial8_le {n : Nat} (h : n ≤ 255) : nextSerial8 n ≤ 255 := by
  unfold nextSerial8
  split <;> omega

theorem PortFits.nextSerial {p : BusPort} (fits : PortFits p) :
    PortFits { p with serialCounter := nextSerial8 p.serialCounter } := by
  obtain ⟨class1, own, forwarded, attempts, serial, rest⟩ := fits
  exact ⟨class1, own, forwarded, fun slot => fun q hq => attempts slot q (by cases slot <;> exact hq), nextSerial8_le serial, rest⟩

theorem offerMark_evolves (slot : Slot) (m : MarkPayload) (s : State) : Evolves scope s (offerMark slot m s) := by
  unfold offerMark
  refine ite (fun room => ?_) fun _ => ?_
  · refine offer s _ (fun fits => ?_) (by cases slot <;> rfl)
    refine fits.nextSerial.withFifo slot _ (by simpa using room) fun q hq => ?_
    rcases List.mem_append.1 hq with hq | hq
    · exact fits.2.2.2.1 slot q hq
    · rw [List.mem_singleton.1 hq]
      exact Nat.zero_lt_succ 2
  · exact (offer s _ (fun fits => fits.nextSerial) rfl).trans (dropNotice_evolves _)

/-! ## The builder and the hold reasons -/

/-- What a builder may become without breaking the law of coil records (R120). -/
structure CoilKept (b v : CoilBuilder) : Prop where
  off : v.state = .off → b.state = .off
  log : ∀ c ∈ v.log, c ∈ b.log
  current : ∀ next, v.current = some next → ∃ cur, b.current = some cur ∧ next.record.start = cur.record.start ∧
    (cur.record.closing = none → next.record.closing = none) ∧
    (cur.record.events.length ≤ eventPlaces → next.record.events.length ≤ eventPlaces)

theorem CoilKept.coilLaw {s : State} {v : CoilBuilder} (kept : CoilKept s.builder v) (law : CoilLaw s) :
    CoilLaw (s.withBuilder v) := by
  obtain ⟨⟨count, fraction, floor, saturated, off⟩, log, current⟩ := law
  refine ⟨⟨count, fraction, ?_, saturated, fun h => ?_⟩, fun c hc => log c (kept.log c hc), fun next hnext => ?_⟩
  · unfold State.floor at floor ⊢
    simp only [State.withBuilder_builder, State.withBuilder_length]
    cases hv : v.current with
    | none => exact Nat.zero_le _
    | some next =>
      obtain ⟨cur, hcur, start, -⟩ := kept.current next hv
      rw [hcur] at floor
      exact le_of_eq_of_le start floor
  · cases hv : v.current with
    | none => exact hv
    | some next =>
      obtain ⟨cur, hcur, -⟩ := kept.current next hv
      rw [off (kept.off h)] at hcur
      cases hcur
  · obtain ⟨cur, hcur, -, closing, events⟩ := kept.current next hnext
    obtain ⟨opened, within, -⟩ := current cur hcur
    exact ⟨closing opened, events within, fun k hk => by rw [closing opened] at hk; cases hk⟩

theorem CoilKept.of_eq {b v : CoilBuilder} (off : v.state = .off → b.state = .off) (log : ∀ c ∈ v.log, c ∈ b.log)
    (current : v.current = b.current) : CoilKept b v :=
  ⟨off, log, fun next h => ⟨next, current ▸ h, rfl, id, id⟩⟩

/-- A change of the hold reasons, together with one of the builder. -/
theorem setReasons_withBuilder_evolves (s : State) (v : CoilBuilder) (own : HoldSet)
    (gives : scope.Gives s.hold.own own) (kept : BuilderKept s v own) :
    Evolves scope s (setReasons own (s.withBuilder v)) := by
  have moved : Evolves scope s ((s.withBuilder v).withHold { s.hold with own := own }) :=
    of_path fun _ => .builder s v own kept gives
  by_cases same : own = s.hold.own
  · subst same
    rw [show setReasons s.hold.own (s.withBuilder v) = s.withBuilder v from setReasons_same (s.withBuilder v)]
    exact moved
  · rw [setReasons_change own (s.withBuilder v) same]
    exact moved.trans (offerClass0_evolves _ _)

/-- A change of the hold reasons that leaves CUT and LOG_FULL to the builder. -/
theorem setReasons_evolves (s : State) (own : HoldSet) (cut : hasReason .cut own = hasReason .cut s.hold.own)
    (full : hasReason .logFull own = hasReason .logFull s.hold.own)
    (gives : scope.Gives s.hold.own own) : Evolves scope s (setReasons own s) :=
  setReasons_withBuilder_evolves s s.builder own gives
    ⟨fun bits => by unfold CutBits; rw [cut, full]; exact bits, fun _ => id, id, id, id⟩

theorem reasonsStay_give (r : HoldReason) (own : HoldSet) : ReasonsStay own (giveReason r own) := by
  intro q _ _ h
  by_cases same : r = q
  · subst same
    exact hasReason_give r own
  · rw [hasReason_give_other r q own same]
    exact h

theorem reasonsStay_remove {r : HoldReason} (own : HoldSet) (builders : r = .cut ∨ r = .logFull) :
    ReasonsStay own (removeReason r own) := fun q cut full h => by
  rw [hasReason_remove_other r q own (by rintro rfl; exact builders.elim cut full)]
  exact h

theorem Scope.Gives.trans {a b c : HoldSet} (first : scope.Gives a b) (second : scope.Gives b c) : scope.Gives a c :=
  ⟨fun keeps r cut full h => second.1 keeps r cut full (first.1 keeps r cut full h),
    fun keeps => (second.2 keeps).trans (first.2 keeps)⟩

theorem gives_give {r : HoldReason} (own : HoldSet) (ordinary : scope.stops = false → r ≠ .knotStop) :
    scope.Gives own (giveReason r own) :=
  ⟨fun _ => reasonsStay_give r own, fun stopless => hasReason_give_other r .knotStop own (ordinary stopless)⟩

/-- A reason of the coil builder's own may be taken back. -/
theorem gives_remove {r : HoldReason} (own : HoldSet) (builders : r = .cut ∨ r = .logFull) :
    scope.Gives own (removeReason r own) :=
  ⟨fun _ => reasonsStay_remove own builders, fun _ => hasReason_remove_other r .knotStop own (by
    rintro rfl
    exact builders.elim nofun nofun)⟩

theorem giveHold_evolves (r : HoldReason) (s : State) (cut : r ≠ .cut) (full : r ≠ .logFull)
    (ordinary : scope.stops = false → r ≠ .knotStop := by intro; decide) : Evolves scope s (giveHold r s) :=
  setReasons_evolves s _ (hasReason_give_other r .cut _ cut) (hasReason_give_other r .logFull _ full)
    (gives_give _ ordinary)

theorem removeHold_evolves {counts : Bool} (r : HoldReason) (s : State) (cut : r ≠ .cut) (full : r ≠ .logFull) :
    Evolves ⟨counts, true, true, true, true⟩ s (removeHold r s) :=
  setReasons_evolves s _ (hasReason_remove_other r .cut _ cut) (hasReason_remove_other r .logFull _ full) ⟨nofun, nofun⟩

/-- A change of the builder alone, its state, log and coil law kept. -/
theorem withBuilder_evolves (s : State) (v : CoilBuilder) (state : v.state = s.builder.state)
    (log : v.log = s.builder.log) (plan : v.plan.length ≤ s.builder.plan.length) (coil : CoilKept s.builder v) :
    Evolves scope s (s.withBuilder v) :=
  builder s v
    ⟨fun bits => state ▸ bits, fun _ h => state.trans h, fun fits => by unfold LogFits; rw [state, log]; exact fits,
      coil.coilLaw, plan.trans⟩

/-- A change of the builder that touches none of its coils. -/
theorem withBuilder_evolves_of_eq (s : State) (v : CoilBuilder) (state : v.state = s.builder.state)
    (log : v.log = s.builder.log) (plan : v.plan.length ≤ s.builder.plan.length)
    (current : v.current = s.builder.current) : Evolves scope s (s.withBuilder v) :=
  withBuilder_evolves s v state log plan (.of_eq (fun h => state ▸ h) (fun _ h => log ▸ h) current)

/-- What the current record may become: its start stands, it stays open, and its events stay within their places. -/
structure RecordKept (c d : Coil) : Prop where
  start : d.start = c.start
  closing : d.closing = c.closing
  events : c.events.length ≤ eventPlaces → d.events.length ≤ eventPlaces

theorem changeCoil_evolves (f : CurrentCoil → CurrentCoil) (s : State)
    (kept : ∀ cur, RecordKept cur.record (f cur).record) : Evolves scope s (changeCoil f s) :=
  withBuilder_evolves s _ rfl rfl le_rfl ⟨id, fun _ => id, fun next h => by
    obtain ⟨cur, hcur, rfl⟩ := Option.map_eq_some_iff.1 h
    exact ⟨cur, hcur, (kept cur).start, (kept cur).closing.trans, (kept cur).events⟩⟩

theorem changeRecord_evolves (f : Coil → Coil) (s : State) (kept : ∀ c, RecordKept c (f c)) :
    Evolves scope s (changeRecord f s) := changeCoil_evolves _ s fun cur => kept cur.record

/-! ## The cut sequence (8.5) -/

theorem cutBits_give_cut {own : HoldSet} (state : BuilderState) (cutting : state = .cutting) :
    CutBits (giveReason .cut (removeReason .logFull own)) state := by
  subst cutting
  refine ⟨by simp [hasReason_give], ?_⟩
  rw [hasReason_give_other _ _ _ (by decide), hasReason_remove]
  simp

/-- The builder goes on to CUTTING from BUILDING or CUT_DUE, its log having a free place. -/
theorem enterCutting_evolves (s : State) (log : List Coil) (state : s.builder.state = .building ∨ s.builder.state = .cutDue)
    (sub : ∀ c ∈ log, c ∈ s.builder.log) (room : LogFits s.builder → log.length < logPlaces) :
    Evolves scope s (enterCutting (s.withBuilder { s.builder with log := log })) :=
  setReasons_withBuilder_evolves s _ _
    ((gives_remove _ (.inr rfl)).trans (gives_give _ fun _ => nofun))
    { bits := fun _ => cutBits_give_cut _ rfl
      off := fun _ h => by rw [h] at state; simp at state
      log := fun fits => ⟨(room fits).le, fun _ => room fits⟩
      coil := CoilKept.coilLaw (by exact .of_eq nofun sub rfl)
      plan := id }

theorem goOn_evolves (s : State) (building : s.builder.state = .building) : Evolves scope s (goOn s) := by
  unfold goOn
  refine ite (fun room => enterCutting_evolves s s.builder.log (.inl building) (fun _ => id) fun _ => room) fun _ => ?_
  refine setReasons_withBuilder_evolves s { s.builder with state := .cutDue } _ (gives_give _ fun _ => nofun)
    { bits := fun bits => ?_
      off := fun _ h => by rw [building] at h; cases h
      log := fun fits => ⟨fits.1, by simp⟩
      coil := CoilKept.coilLaw (by exact .of_eq nofun (fun _ => id) rfl)
      plan := id }
  obtain ⟨cut, -⟩ := bits
  rw [building] at cut
  refine ⟨?_, by simp [hasReason_give]⟩
  rw [hasReason_give_other _ _ _ (by decide)]
  simpa using cut

theorem startSequence_evolves (causes : CauseSet) (claim : Option Mark) (fired : Bool) (s : State)
    (building : s.builder.state = .building) : Evolves scope s (startSequence causes claim fired s) :=
by
  refine Evolves.trans ?_ (goOn_evolves _ building)
  exact withBuilder_evolves_of_eq s _ rfl rfl le_rfl rfl

theorem startReached_evolves (given : CauseSet) (s : State) (building : s.builder.state = .building) :
    Evolves scope s (startReached given s) := by
  unfold startReached
  split
  · exact refl s
  · exact startSequence_evolves _ _ _ s building

theorem cutTest_evolves (s : State) : Evolves scope s (cutTest s) := by
  unfold cutTest
  split
  · split
    · exact ite (fun _ => startReached_evolves _ s ‹_›) fun _ => refl s
    · exact refl s
  · exact refl s

theorem changeCauses_evolves (f : CauseSet → CauseSet) (s : State) : Evolves scope s (changeCauses f s) :=
  withBuilder_evolves_of_eq s _ rfl rfl le_rfl rfl

theorem addTarget_evolves (s : State) : Evolves scope s (addTarget s) := by
  unfold addTarget
  split
  · exact changeCauses_evolves _ s
  · exact refl s

theorem builderAdvance_evolves (s : State) : Evolves scope s (builderAdvance s) :=
  (addTarget_evolves s).trans (cutTest_evolves _)

theorem markIncomplete_evolves (s : State) : Evolves scope s (markIncomplete s) :=
  changeRecord_evolves _ s fun _ => ⟨rfl, rfl, id⟩

theorem lossTest_evolves (is : List LossInterval) (s : State) : Evolves scope s (lossTest is s) := by
  unfold lossTest
  split
  · exact ite (fun _ => markIncomplete_evolves s) fun _ => refl s
  · exact refl s

/-! ## Opening and closing coils (8.3, 8.7) -/

theorem takeEntry_kept (e : PlanEntry) (cur : CurrentCoil) : RecordKept cur.record (takeEntry e cur).record :=
  ⟨rfl, rfl, id⟩

theorem takeHead_evolves (s : State) : Evolves scope s (takeHead s) := by
  unfold takeHead
  split
  · exact latch_evolves _ s
  · exact ite (fun _ => changeCoil_evolves _ s (takeEntry_kept _)) fun _ =>
      ite (fun _ => refl s) fun _ => latch_evolves _ s

theorem lateTake_evolves (s : State) : Evolves scope s (lateTake s) := by
  unfold lateTake
  split
  · refine ite (fun _ => ?_) fun _ => refl s
    split
    · exact refl s
    · exact ite (fun _ => (changeCoil_evolves _ s (takeEntry_kept _)).trans (cutTest_evolves _)) fun _ =>
        latch_evolves _ s
  · exact refl s

@[simp] theorem takeHead_log (s : State) : (takeHead s).builder.log = s.builder.log := by
  unfold takeHead
  split
  · rfl
  · split
    · rfl
    · split <;> rfl

theorem foldl_addCarried_kept (carried : List Event) (c : Coil) :
    (carried.foldl addCarried c).start = c.start ∧ (carried.foldl addCarried c).closing = c.closing ∧
      (carried.foldl addCarried c).events = c.events := by
  induction carried generalizing c with
  | nil => exact ⟨rfl, rfl, rfl⟩
  | cons e rest ih => exact ih (addCarried c e)

/-- The faults carried into a coil that opens: no more than the places, by the law of the log that they come from. -/
def CarriedFits (carried : List Event) (s : State) : Prop :=
  carried = [] ∨ ∃ c ∈ s.builder.log, carried.length ≤ c.events.length

theorem placeCarried_evolves (carried : List Event) (s : State) (fits : CarriedFits carried s) :
    Evolves scope s (changeRecord (fun c => carried.foldl addCarried { c with events := carried }) s) := by
  unfold changeRecord changeCoil
  refine builder s _ ⟨id, fun _ => id, id, fun law => ?_, id⟩
  refine CoilKept.coilLaw ⟨id, fun _ => id, fun next h => ?_⟩ law
  obtain ⟨cur, hcur, rfl⟩ := Option.map_eq_some_iff.1 h
  obtain ⟨start, closing, events⟩ := foldl_addCarried_kept carried { cur.record with events := carried }
  refine ⟨cur, hcur, start, closing.trans, fun _ => ?_⟩
  rw [events]
  obtain rfl | ⟨c, hc, le⟩ := fits
  · exact Nat.zero_le _
  · exact le.trans (law.2.1 c hc).1

theorem openCoil_evolves (start : Nat) (carried : List Event) (s : State) (atWork : s.builder.state ≠ .off)
    (reached : start ≤ s.length.runCount) (fits : CarriedFits carried s) :
    Evolves scope s (openCoil start carried s) := by
  unfold openCoil
  refine Evolves.trans (Evolves.trans (Evolves.trans (Evolves.trans ?_ (takeHead_evolves _))
    (placeCarried_evolves _ _ ?_)) (lossTest_evolves _ _)) (cutTest_evolves _)
  · refine builder s _ ⟨id, fun _ => id, id, fun law => ?_, id⟩
    obtain ⟨⟨count, fraction, -, saturated, -⟩, log, -⟩ := law
    refine ⟨⟨count, fraction, reached, saturated, fun h => absurd h atWork⟩, log, fun next h => ?_⟩
    cases h
    exact ⟨rfl, Nat.zero_le _, fun k hk => by cases hk⟩
  · obtain h | ⟨c, hc, le⟩ := fits
    · exact .inl h
    · exact .inr ⟨c, by simpa using hc, le⟩

theorem chargePlan_length_le (causes : CauseSet) (plan : List PlanEntry) :
    (chargePlan causes plan).length ≤ plan.length := by
  cases plan with
  | nil => exact le_rfl
  | cons e rest =>
    rw [chargePlan]
    split <;> simp

theorem relaxedLength_le (runLength stretch : Nat) : relaxedLength runLength stretch ≤ runLength := by
  unfold relaxedLength
  exact Nat.div_le_of_le_mul (by rw [Nat.add_mul]; nlinarith [Nat.zero_le (stretch * runLength)])

theorem closedRecord_agrees (cur : CurrentCoil) {endAt : Nat} (causes : CauseSet) (boundary : Option Nat)
    (lateCut confirmed : Bool) (reached : cur.record.start ≤ endAt) (events : cur.record.events.length ≤ eventPlaces) :
    recordAgrees (closedRecord cur endAt causes boundary lateCut confirmed) := by
  refine ⟨by simpa [closedRecord] using events, fun k hk => ?_⟩
  cases hk
  exact ⟨Nat.add_sub_cancel' reached, relaxedLength_le _ _⟩

theorem setReasons_withBuilder (own : HoldSet) (s : State) (v : CoilBuilder) :
    setReasons own (s.withBuilder v) = (setReasons own s).withBuilder v := by
  by_cases same : own = s.hold.own
  · subst same
    rw [setReasons_same s]
    exact setReasons_same (s.withBuilder v)
  · rw [setReasons_change own s same, setReasons_change own (s.withBuilder v) same]
    rfl

/-- The close of the current coil, from a builder that goes back to BUILDING with its hold reasons. -/
theorem closeCoil_evolves (s : State) (causes : CauseSet) (lateCut confirmed : Bool) (timer : Option Nat) (own : HoldSet)
    (gives : scope.Gives s.hold.own own)
    (bits : CutBits s.hold.own s.builder.state → CutBits own .building)
    (atWork : s.builder.state ≠ .off) (room : LogFits s.builder → s.builder.log.length < logPlaces) :
    Evolves scope s (closeCoil causes lateCut confirmed
      (setReasons own (s.withBuilder { s.builder with state := .building, cutTimer := timer }))) := by
  unfold closeCoil
  cases current : s.builder.current with
  | none =>
    simp only [setReasons_builder, State.withBuilder_builder, current]
    refine setReasons_withBuilder_evolves s _ own gives
      { bits := bits, off := fun _ h => absurd h atWork
        log := fun fits => ⟨fits.1, by simp⟩
        coil := CoilKept.coilLaw (by exact .of_eq nofun (fun _ => id) current.symm)
        plan := id }
  | some cur =>
    simp only [setReasons_builder, State.withBuilder_builder, current, setReasons_length, State.withBuilder_length]
    refine Evolves.trans ?_ (latch_evolves _ _)
    rw [setReasons_withBuilder]
    change Evolves scope s ((setReasons own s).withBuilder _)
    rw [← setReasons_withBuilder]
    refine setReasons_withBuilder_evolves s _ own gives
      { bits := bits, off := fun _ h => absurd h atWork
        log := fun fits => ⟨by simpa using room fits, by simp⟩
        coil := fun law => ?_
        plan := fun h => ?_ }
    · obtain ⟨⟨count, fraction, floor, saturated, -⟩, log, open_⟩ := law
      obtain ⟨-, events, -⟩ := open_ cur current
      refine ⟨⟨count, fraction, Nat.zero_le _, saturated, fun h => by cases h⟩, fun c hc => ?_, fun next h => by cases h⟩
      rcases List.mem_append.1 hc with hc | hc
      · exact log c hc
      · rw [List.mem_singleton.1 hc]
        refine closedRecord_agrees cur _ _ _ _ ?_ events
        simpa [State.floor, current] using floor
    · simp only
      split
      · exact (chargePlan_length_le _ _).trans h
      · exact h

/-- The faults carried on by the close of a coil come from the record that the close has logged. -/
theorem carriedFaults_fit (causes : CauseSet) (lateCut confirmed : Bool) (s u : State)
    (same : carriedFaults u = carriedFaults s) :
    CarriedFits (carriedFaults u) (closeCoil causes lateCut confirmed s) := by
  rw [same]
  unfold closeCoil carriedFaults
  cases s.builder.current with
  | none => exact .inl rfl
  | some cur =>
    refine .inr ⟨_, List.mem_append_right _ (List.mem_singleton.2 rfl), ?_⟩
    simpa [closedRecord] using List.length_filterMap_le _ _

theorem closeCoil_state (causes : CauseSet) (lateCut confirmed : Bool) (s : State) :
    (closeCoil causes lateCut confirmed s).builder.state = s.builder.state := by
  unfold closeCoil
  split <;> rfl

theorem closeCoil_length (causes : CauseSet) (lateCut confirmed : Bool) (s : State) :
    (closeCoil causes lateCut confirmed s).length = s.length :=
  (closeCoil_frame causes lateCut confirmed s (bs := [.builder, .link])) .length (by decide)

/-- The opening that follows the close of a coil. -/
theorem openCoil_closeCoil_evolves (causes : CauseSet) (lateCut confirmed : Bool) (s : State)
    (building : s.builder.state = .building) : Evolves scope (closeCoil causes lateCut confirmed s)
      (closeAndOpen causes lateCut confirmed s) := by
  refine openCoil_evolves _ _ _ ?_ ?_ (carriedFaults_fit _ _ _ _ _ rfl)
  · rw [closeCoil_state, building]
    nofun
  · rw [closeCoil_length]

theorem settleCut_evolves (lateCut confirmed : Bool) (s : State)
    (cutting : s.builder.state = .cutting ∨ s.builder.state = .cutFailed) :
    Evolves scope s (settleCut lateCut confirmed s) := by
  refine (closeCoil_evolves s _ lateCut confirmed none (removeReason .cut s.hold.own)
    (gives_remove _ (.inl rfl)) (fun bits => ?_) ?_
    fun fits => fits.2 cutting).trans (openCoil_closeCoil_evolves _ _ _ _ ?_)
  · obtain ⟨-, full⟩ := bits
    have notDue : s.builder.state ≠ .cutDue := by rcases cutting with h | h <;> rw [h] <;> nofun
    refine ⟨by simp [hasReason_remove], ?_⟩
    rw [hasReason_remove_other _ _ _ (by decide), full]
    simp [notDue]
  · rcases cutting with h | h <;> rw [h] <;> nofun
  · simp

theorem unrecordedCut_evolves (s : State) : Evolves scope s (unrecordedCut s) :=
  Evolves.trans ((markIncomplete_evolves s).trans (latch_evolves .cutFailed _))
    (withBuilder_evolves_of_eq _ _ rfl rfl le_rfl rfl)

/-- A MANUAL close: the builder stays in BUILDING. -/
theorem closeCoil_building_evolves (causes : CauseSet) (lateCut confirmed : Bool) (s : State)
    (building : s.builder.state = .building) (room : s.builder.log.length < logPlaces) :
    Evolves scope s (closeCoil causes lateCut confirmed s) := by
  have closed := closeCoil_evolves (scope := scope) s causes lateCut confirmed s.builder.cutTimer s.hold.own
    ⟨fun _ _ _ _ => id, fun _ => rfl⟩ (fun bits => building ▸ bits) (by rw [building]; nofun) fun _ => room
  have same : setReasons s.hold.own (s.withBuilder { s.builder with state := .building }) = s := by
    rw [← building]
    exact setReasons_same s
  rwa [same] at closed

theorem cutDone_evolves (s : State) : Evolves scope s (cutDone s) := by
  unfold cutDone
  split
  · exact refl s
  · exact settleCut_evolves _ _ s (.inl ‹_›)
  · exact settleCut_evolves _ _ s (.inr ‹_›)
  · exact unrecordedCut_evolves s
  · refine ite (fun _ => withBuilder_evolves_of_eq s _ rfl rfl le_rfl rfl) fun _ =>
      ite (fun room => ?_) fun _ => unrecordedCut_evolves s
    exact (closeCoil_building_evolves _ _ _ s ‹_› room).trans (openCoil_closeCoil_evolves _ _ _ s ‹_›)

/-! ## Marks in the coil (8.6) -/

theorem recordMark_kept (m : Mark) (absorbed void : Bool) (c : Coil) : RecordKept c (recordMark m absorbed void c) := by
  unfold recordMark
  by_cases room : c.events.length < eventPlaces
  · simp only [if_pos room]
    exact ⟨rfl, rfl, fun _ => by simpa using room⟩
  · simp only [if_neg room]
    exact ⟨rfl, rfl, id⟩

theorem reseat_evolves (tag : Nat) (answer : Option LotAnswer) (s : State) : Evolves scope s (reseat tag answer s) := by
  refine ((changeCoil_evolves _ s fun cur => ?_).trans (lateTake_evolves _)).trans (cutTest_evolves _)
  unfold dropEntry
  split <;> exact ⟨rfl, rfl, id⟩

theorem boundaryEffect_evolves (m : Mark) (answer : Option LotAnswer) (s : State) :
    Evolves scope s (boundaryEffect m answer s).1 := by
  unfold boundaryEffect
  split
  · exact withBuilder_evolves_of_eq s _ rfl rfl le_rfl rfl
  · split
    · refine Evolves.trans ?_ (ite (fun _ => reseat_evolves _ _ _) fun _ => refl _)
      exact withBuilder_evolves_of_eq s _ rfl rfl le_rfl rfl
    · split
      · exact refl s
      · split
        · split
          · exact startSequence_evolves _ _ _ s ‹_›
          · exact ite (fun _ => reseat_evolves _ _ s) fun _ => refl s
        · exact withBuilder_evolves_of_eq s _ rfl rfl le_rfl rfl

theorem builderTakes_evolves (m : Mark) (answer : Option LotAnswer) (s : State) :
    Evolves scope s (builderTakes m answer s) := by
  unfold builderTakes
  refine ite (fun _ => refl s) fun _ => ite (fun _ => ?_) fun _ => changeRecord_evolves _ s (recordMark_kept m _ _)
  exact (boundaryEffect_evolves m answer s).trans (changeRecord_evolves _ _ (recordMark_kept m _ _))

theorem builderMerges_evolves (gone kept : Mark) (s : State) : Evolves scope s (builderMerges gone kept s) :=
  withBuilder_evolves_of_eq s _ rfl rfl le_rfl rfl

end Sys2Proof.Machine
end

section
/-! PROOFS. The operations of the mark list, the monitors, the lot unit and the length unit as chains of moves. -/

namespace Sys2Proof.Machine

-- One theorem after another: side by side they need more threads than the memory of the check allows.
set_option Elab.async false

open Evolves

variable {bounded : Prop} {scope : Scope}

namespace Evolves

theorem lots (s : State) (v : LotUnit) (table : LotsFit s.lots.table → LotsFit v.table) :
    Evolves scope s (s.withLots v) := of_path fun _ => .lots s v table

/-- A change of the knot monitor that keeps its history and either keeps its fault run or ends it. -/
theorem knot (s : State) (v : KnotMonitor) (history : v.history = s.knot.history)
    (run : ∀ r, v.faultRun = some r → s.knot.faultRun = some r) : Evolves scope s (s.withKnot v) :=
  of_path fun _ => .knot s v (fun h => history ▸ h) fun _ within r hr => within.knot r (run r hr)

theorem bounded_of (path : Path bounded scope s t) (b : bounded → Bounded s) : bounded → Bounded t :=
  fun h => path.bounded_kept h (b h)

end Evolves

/-- A chain of moves followed by another, for an operation that needs to know its state within the ceiling. -/
theorem Path.then {s t u : State} (first : Evolves scope s t) (b : bounded → Bounded s)
    (second : (bounded → Bounded t) → Path bounded scope t u) : Path bounded scope s u :=
  (first bounded b).trans (second fun h => (first bounded b).bounded_kept h (b h))

/-! ## Losses -/

/-- The feed a loss list's OPEN intervals may be of. -/
def LostIn (table : List FeedEntry) (f : Nat) : Prop := ∃ e, table[f]? = some e ∧ e.state = .lost

theorem feedsFit_iff (u : FeedUnit) : FeedsFit u ↔ u.table.length ≤ 4 ∧ ListFits (LostIn u.table) u.losses :=
  ⟨fun ⟨table, sorted, places, tied, opens, runs, apart⟩ =>
      ⟨table, sorted, places, tied, runs, (List.pairwise_and_iff.2 ⟨opens, apart⟩)⟩,
    fun ⟨table, sorted, places, tied, runs, apart⟩ =>
      ⟨table, sorted, places, tied, (List.pairwise_and_iff.1 apart).1, runs, (List.pairwise_and_iff.1 apart).2⟩⟩

theorem LostIn.lt_four {table : List FeedEntry} (four : table.length ≤ 4) (f : Nat) (lost : LostIn table f) : f < 4 := by
  obtain ⟨e, he, -⟩ := lost
  have := (List.getElem?_eq_some_iff.1 he).1
  omega

theorem retroTest_evolves (low : Nat) (s : State) : Evolves scope s (retroTest low s) := by
  unfold retroTest
  split
  · exact ite (fun _ => latch_evolves _ s) fun _ => refl s
  · exact refl s

theorem offerBuilder_evolves (i : LossInterval) (s : State) : Evolves scope s (offerBuilder i s) :=
  lossTest_evolves _ s

/-- A closed interval is added. -/
theorem offerInterval_path {i : LossInterval} (s : State) (closed : isClosed i = true) (runs : bounded → Runs i)
    (b : bounded → Bounded s) : Path bounded scope s (offerInterval i s) := by
  have added : Path bounded scope s (withLosses (offered i s.feeds.losses) s) := by
    refine .feeds s _ (fun h _ fits => ?_) fun _ => rfl
    obtain ⟨table, fits⟩ := (feedsFit_iff _).1 fits
    refine (feedsFit_iff _).2 ⟨table, ?_⟩
    rw [offered, if_pos closed]
    exact fits.addClosed closed (runs h)
  exact added.trans (((offerBuilder_evolves i _).trans (retroTest_evolves i.low _)) bounded (bounded_of added b))

theorem forward_evolves (m : Mark) (s : State) : Evolves scope s (forward m s) := by
  unfold forward
  exact ite (fun _ => offerMark_evolves _ _ s) fun _ => refl s

theorem runs_to_ceiling (low span : Nat) (cause : LossCause) (feed : Option Nat) (within : low ≤ maxCount) :
    Runs { low := low, high := some (min (low + span) maxCount), cause := cause, feed := feed } := by
  intro h hh
  cases hh
  simp only [le_min_iff]
  omega

theorem relay_path (m : Mark) (s : State) (within : bounded → m.position ≤ maxCount) (b : bounded → Bounded s) :
    Path bounded scope s (relay m s) := by
  unfold relay relayedBy
  split
  · rename_i i h
    split at h
    · cases h
      exact offerInterval_path s rfl (fun h => runs_to_ceiling _ _ _ _ (within h)) b
    · cases h
  · exact .refl s

theorem fireOrdinary_path (m : Mark) (s : State) (within : bounded → m.position ≤ maxCount) (b : bounded → Bounded s) :
    Path bounded scope s (fireOrdinary m s) :=
  .then (builderTakes_evolves m none s) b fun b =>
    have relayed := relay_path (scope := scope) m _ within b
    relayed.trans (forward_evolves m _ bounded (bounded_of relayed b))

theorem takeSerial_evolves (s : State) : Evolves scope s (takeSerial s) := waiting s _ (List.Sublist.refl _)

theorem lookBack_le (runCount position span : Nat) (clamped : Bool) :
    (lookBack runCount position span clamped).1 ≤ max position runCount := by
  unfold lookBack
  split
  · exact (Nat.sub_le _ _).trans (le_max_right _ _)
  · exact le_max_left _ _

/-- A raised record completed with the position, span and CLAMPED flag that the lookback bound leaves it. -/
def completedWith (b : Nat × Nat × Bool) (r : Raising) (s : State) : Mark :=
  { position := b.1, kind := r.kind, span := b.2.1, lotTag := r.lotTag.getD s.lots.activeTag
    origin := { station := s.stationNumber, serial := s.marks.nextSerial }, detail := r.detail, hops := 0
    source := .here, flags := { late := false, clamped := b.2.2, spanClamped := r.spanClamped } }

theorem completeMark_eq (r : Raising) (s : State) :
    completeMark r s = completedWith (lookBack s.length.runCount r.position r.span r.clamped) r s := rfl

theorem completeMark_position (r : Raising) (s : State) :
    (completeMark r s).position = (lookBack s.length.runCount r.position r.span r.clamped).1 := by
  have position : ∀ b, (completedWith b r s).position = b.1 := fun _ => rfl
  rw [completeMark_eq]
  exact position _

/-- A raised mark lies within the ceiling where what is raised does. -/
theorem completeMark_le {r : Raising} {s : State} (position : r.position ≤ maxCount) (count : s.length.runCount ≤ maxCount) :
    (completeMark r s).position ≤ maxCount :=
  (completeMark_position r s).le.trans ((lookBack_le _ _ _ _).trans (max_le position count))

/-- A mark raised here adds no interval where it fires. -/
theorem relay_completeMark (r : Raising) (s t : State) : relay (completeMark r s) t = t := by
  have none_added : relayedBy (completeMark r s) = none := by
    unfold relayedBy
    split
    · rename_i source
      cases source
    · rfl
  rw [relay, none_added]

theorem raiseLoss_evolves (i : LossInterval) (s : State) : Evolves scope s (raiseLoss i s) := by
  unfold raiseLoss fireOrdinary
  rw [relay_completeMark]
  exact ite (fun _ => ((takeSerial_evolves s).trans (builderTakes_evolves _ _ _)).trans (forward_evolves _ _)) fun _ =>
    refl s

theorem raiseLoss_feeds (i : LossInterval) (s : State) : (raiseLoss i s).feeds = s.feeds := by
  unfold raiseLoss fireOrdinary
  rw [relay_completeMark]
  split
  · exact ((builderTakes_frame _ _ _ (bs := [.builder, .hold, .port, .link])).trans (forward_frame _ _)) .feeds (by decide)
  · rfl

theorem addInterval_path {i : LossInterval} (s : State) (closed : isClosed i = true) (runs : bounded → Runs i)
    (b : bounded → Bounded s) : Path bounded scope s (addInterval i s) :=
  have offered := offerInterval_path (scope := scope) s closed runs b
  offered.trans (raiseLoss_evolves i _ bounded (bounded_of offered b))

/-! ## Storing and placing marks -/

theorem isDuplicate_eq_false {m : Mark} {s : State} (h : placementOf m s ≠ .duplicate) :
    ∀ w ∈ s.marks.marks, w.origin ≠ m.origin := fun w hw e =>
  h ((placementOf_eq_duplicate_iff m s).2 ((isDuplicate_iff m s).2 ⟨w, hw, e⟩))

theorem storeMark_path (m : Mark) (s : State) (storable : bounded → m.position ≤ maxCount ∧ Storable s m)
    (b : bounded → Bounded s) : Path bounded scope s (storeMark m s) :=
  have stored : Path bounded scope s _ := .store s m storable
  stored.trans (cutTest_evolves _ bounded (bounded_of stored b))

theorem loseOrdinary_evolves (s : State) : Evolves scope s (loseOrdinary s) := by
  refine Evolves.trans ?_ (latch_evolves _ _)
  exact waiting s _ (List.Sublist.refl _)

theorem lostInterval_path (m : Mark) (cause : LossCause) (s : State) (within : bounded → m.position ≤ maxCount)
    (b : bounded → Bounded s) : Path bounded scope s (loseOrdinary (addInterval (lostInterval m cause) s)) :=
  have added := addInterval_path (scope := scope) (i := lostInterval m cause) s rfl
    (fun h => runs_to_ceiling _ _ _ _ (within h)) b
  added.trans (loseOrdinary_evolves _ bounded (bounded_of added b))

theorem countDuplicate_evolves (s : State) : Evolves scope s (countDuplicate s) := waiting s _ (List.Sublist.refl _)

theorem countMerge_evolves (s : State) : Evolves scope s (countMerge s) := waiting s _ (List.Sublist.refl _)

/-- How the placement of a mark comes about (R36 to R42). -/
theorem placementOf_cases (m : Mark) (s : State) :
    placementOf m s = .duplicate ∨ placementOf m s = .mergedAway ∨
      (placementOf m s = .fires ∧ m.position ≤ s.length.runCount) ∨
      (s.length.runCount < m.position ∧ (mergedOut m s).isSome = (sameLotWaiting m s).isSome ∧
        placementOf m s = capacity m (waitingAfterMerge m s)) := by
  unfold placementOf
  split
  · exact .inl rfl
  · split
    · exact .inr (.inl rfl)
    · split
      · exact .inr (.inr (.inl ⟨rfl, ‹_›⟩))
      · refine .inr (.inr (.inr ⟨by omega, ?_, rfl⟩))
        rename_i keep _
        unfold mergedOut at keep ⊢
        cases h : sameLotWaiting m s with
        | none => rfl
        | some w =>
          rw [h] at keep
          simpa using keep

theorem mergedOut_eq_none_of_ordinary {m : Mark} (s : State) (kind : m.kind ≠ .lotChange) : mergedOut m s = none := by
  unfold mergedOut sameLotWaiting
  rw [if_neg kind]
  rfl

theorem ne_lotChange_of_ordinary {k : MarkKind} (kind : k.isBoundary = false) : k ≠ .lotChange := by
  rintro rfl
  cases kind

/-- The waiting LOT_CHANGE of the new one's lot. -/
theorem sameLotWaiting_spec {m w : Mark} {s : State} (h : sameLotWaiting m s = some w) :
    m.kind = .lotChange ∧ w ∈ s.marks.marks ∧ w.kind = .lotChange ∧ w.lotTag = m.lotTag := by
  unfold sameLotWaiting at h
  split at h
  · have := List.find?_some h
    simp only [Bool.and_eq_true, decide_eq_true_eq] at this
    exact ⟨‹_›, List.mem_of_find?_eq_some h, this⟩
  · cases h

theorem sameLotWaiting_eq_none {m : Mark} {s : State} (h : sameLotWaiting m s = none) (kind : m.kind = .lotChange) :
    ∀ w ∈ s.marks.marks, w.kind = .lotChange → w.lotTag ≠ m.lotTag := by
  unfold sameLotWaiting at h
  rw [if_pos kind] at h
  intro w hw hk e
  have := List.find?_eq_none.1 h w hw
  simp [hk, e] at this

theorem mergedOut_spec {m w : Mark} {s : State} (h : mergedOut m s = some w) : sameLotWaiting m s = some w :=
  (Option.filter_eq_some_iff.1 h).1

theorem waitingAfterMerge_sublist (m : Mark) (s : State) : (waitingAfterMerge m s).Sublist s.marks.marks := by
  unfold waitingAfterMerge
  split
  · exact List.erase_sublist
  · exact List.Sublist.refl _

theorem MarksFit.nodup {marks : List Mark} (fit : MarksFit marks) : marks.Nodup :=
  fit.origins.imp fun h e => h (congrArg Mark.origin e)

/-- After a merge no LOT_CHANGE of the new one's lot waits (R37). -/
theorem lot_ne_of_merged {m : Mark} {s : State} (fit : MarksFit s.marks.marks)
    (merged : (mergedOut m s).isSome = (sameLotWaiting m s).isSome) (kind : m.kind = .lotChange) :
    ∀ w ∈ waitingAfterMerge m s, w.kind = .lotChange → w.lotTag ≠ m.lotTag := by
  unfold waitingAfterMerge
  cases h : mergedOut m s with
  | none =>
    rw [h] at merged
    exact sameLotWaiting_eq_none (by simpa using merged.symm) kind
  | some gone =>
    obtain ⟨-, mem, lot, tag⟩ := sameLotWaiting_spec (mergedOut_spec h)
    intro w hw hk e
    obtain ⟨ne, hw⟩ := (List.Nodup.mem_erase_iff fit.nodup).1 hw
    have : Std.Symm fun a b : Mark => a.kind = .lotChange → b.kind = .lotChange → a.lotTag ≠ b.lotTag :=
      ⟨fun _ _ h hb ha => (h ha hb).symm⟩
    exact fit.lots.forall hw mem ne hk lot (e.trans tag.symm)

@[simp] theorem mergeOut_waiting (m : Mark) (s : State) : (mergeOut m s).marks.marks = waitingAfterMerge m s := by
  unfold mergeOut waitingAfterMerge
  cases mergedOut m s with
  | none => rfl
  | some gone => rfl

@[simp] theorem mergeOut_length (m : Mark) (s : State) : (mergeOut m s).length = s.length :=
  (mergeOut_frame m s (bs := [.marks, .builder])) .length (by decide)

theorem mergeOut_evolves (m : Mark) (s : State) : Evolves scope s (mergeOut m s) := by
  unfold mergeOut
  split
  · refine Evolves.trans (Evolves.trans ?_ (countMerge_evolves _)) (builderMerges_evolves _ _ _)
    exact waiting s _ List.erase_sublist
  · exact refl s

theorem offerMerge_evolves (m : Mark) (s t : State) : Evolves scope t (offerMerge m s t) :=
  ite (fun _ => cutTest_evolves t) fun _ => refl t

theorem capacity_stored {m : Mark} {waiting : List Mark} (h : capacity m waiting = .stored) :
    waiting.length < markPlaces ∧ (m.kind.isBoundary = false → ordinaryWaiting waiting < ordinaryPlaces) := by
  unfold capacity at h
  split at h
  · rename_i boundary
    split at h
    · exact ⟨‹_›, fun h => by rw [boundary] at h; cases h⟩
    · split at h <;> cases h
  · split at h
    · rename_i room
      exact ⟨room.2, fun _ => room.1⟩
    · cases h

theorem capacity_evicts {m : Mark} {waiting : List Mark} (h : capacity m waiting = .evicts) :
    m.kind.isBoundary = true ∧ 0 < ordinaryWaiting waiting := by
  unfold capacity at h
  split at h
  · split at h
    · cases h
    · split at h
      · exact ⟨‹_›, ‹_›⟩
      · cases h
  · split at h <;> cases h

/-- A mark that is placed to be stored may be stored, once the merge has made its room. -/
theorem storable_of_stored {m : Mark} {s : State} (fit : MarksFit s.marks.marks) (fresh : placementOf m s ≠ .duplicate)
    (ahead : s.length.runCount < m.position) (merged : (mergedOut m s).isSome = (sameLotWaiting m s).isSome)
    (stored : capacity m (waitingAfterMerge m s) = .stored) : Storable (mergeOut m s) m where
  ahead := by simpa using ahead
  identity w hw := isDuplicate_eq_false fresh w ((waitingAfterMerge_sublist m s).subset (by simpa using hw))
  lot w hw kind := lot_ne_of_merged fit merged kind w (by simpa using hw)
  room := by simpa using (capacity_stored stored).1
  ordinary := by simpa using (capacity_stored stored).2

theorem placeOrdinary_path (m : Mark) (s : State) (ordinary : m.kind.isBoundary = false)
    (within : bounded → m.position ≤ maxCount) (b : bounded → Bounded s) :
    Path bounded scope s (placeOrdinary m s) := by
  have noMerge := mergedOut_eq_none_of_ordinary s (ne_lotChange_of_ordinary ordinary)
  unfold placeOrdinary
  split
  · exact countDuplicate_evolves s bounded b
  · exact fireOrdinary_path m s within b
  · rename_i stored
    refine storeMark_path m s (fun h => ⟨within h, ?_⟩) b
    have cases := placementOf_cases m s
    rw [stored] at cases
    obtain ⟨ahead, merged, room⟩ := cases.resolve_left nofun |>.resolve_left nofun |>.resolve_left nofun
    have := storable_of_stored (b h).fit (by rw [stored]; nofun) ahead merged room.symm
    rwa [mergeOut, noMerge] at this
  · exact lostInterval_path m .refused s within b
  · exact .refl s
  · exact .refl s

/-- A block raises a mark of an ordinary kind at a position within the ceiling. -/
theorem raiseMark_path (r : Raising) (s : State) (ordinary : r.kind.isBoundary = false)
    (within : bounded → r.position ≤ maxCount) (b : bounded → Bounded s) : Path bounded scope s (raiseMark r s) :=
  .then (takeSerial_evolves s) b fun b' =>
    placeOrdinary_path _ _ ordinary (fun h => completeMark_le (within h) (b h).count) b'

/-! ## Lay monitor -/

theorem openWindow_evolves (s : State) : Evolves scope s (openWindow s) := lay s _ id

theorem enterSettling_evolves (s : State) : Evolves scope s (enterSettling s) := by
  unfold enterSettling
  split
  · exact ite (fun _ => openWindow_evolves s) fun _ => lay s _ id
  · exact refl s

theorem suspend_evolves (s : State) : Evolves scope s (suspend s) := lay s _ id

theorem settleByWire_evolves (s : State) : Evolves scope s (settleByWire s) := by
  unfold settleByWire
  split
  · exact enterSettling_evolves s
  · exact suspend_evolves s

theorem endLayRun_evolves (s : State) : Evolves scope s (endLayRun s) := lay s _ id

theorem measureLayRun_evolves (k : Nat) (s : State) : Evolves scope s (measureLayRun k s) := by
  unfold measureLayRun
  split
  · refine ite (fun _ bounded b => ?_) fun _ => endLayRun_evolves s
    exact .then (endLayRun_evolves s) b fun b' =>
      raiseMark_path _ _ rfl (fun h => (min_le_right _ _).trans (b h).count) b'
  · exact refl s

theorem extendLayRun_finish (run : Option LayFaultRun) (start finish : Nat) (dev : Int) :
    (extendLayRun run start finish dev).finish = finish := by
  cases run <;> rfl

theorem feedLayRun_path (start finish : Nat) (dev : Int) (s : State) (within : bounded → finish ≤ maxCount)
    (b : bounded → Bounded s) : Path bounded scope s (feedLayRun start finish dev s) := by
  unfold feedLayRun
  simp only
  split
  · rename_i capped
    rw [extendLayRun_finish] at capped
    refine .then (endLayRun_evolves s) b fun b' => raiseMark_path _ _ rfl (fun h => ?_) b'
    have := within h
    simp only [cappedLayFault]
    omega
  · exact .lay s _ id

theorem layStopTest_evolves (w : LayWorkingSet) (dev : Int) (s : State) : Evolves scope s (layStopTest w dev s) :=
  ite (fun _ => (giveHold_evolves .layStop s nofun nofun).trans (latch_evolves _ _)) fun _ => refl s

theorem layBandTest_path (w : LayWorkingSet) (lay start finish : Nat) (dev : Int) (s : State)
    (within : bounded → finish / 65536 ≤ maxCount) (b : bounded → Bounded s) :
    Path bounded scope s (layBandTest w lay start finish dev s) := by
  unfold layBandTest
  split
  · exact measureLayRun_evolves _ s bounded b
  · exact feedLayRun_path _ _ _ s within b

theorem fullPosition_div {s : State} (fraction : s.length.fraction < 65536) :
    s.fullPosition / 65536 = s.length.runCount := by
  unfold State.fullPosition
  omega

theorem trimAfter_mem (c dev : Int) (gain : Nat) : -400 ≤ trimAfter c dev gain ∧ trimAfter c dev gain ≤ 400 := by
  unfold trimAfter clampInt trimClamp
  omega

/-- Both tests of a window that ends at the position standing. -/
theorem windowTests_path (w : LayWorkingSet) (lay start : Nat) (dev : Int) (s : State) (b : bounded → Bounded s) :
    Path bounded scope s (layBandTest w lay start s.fullPosition dev (layStopTest w dev s)) :=
  .then (layStopTest_evolves w dev s) b fun b' =>
    layBandTest_path w lay start s.fullPosition dev _
      (fun h => (fullPosition_div (b h).fraction).le.trans (b h).count) b'

theorem closeWindow_evolves (w : LayWorkingSet) (win : LayWindow) (s : State) :
    Evolves scope s (closeWindow w win s) :=
  fun _ b => (windowTests_path w _ win.start _ s b).trans (.lay _ _ fun _ => trimAfter_mem _ _ _)

theorem spindleEdge_evolves (s : State) : Evolves scope s (spindleEdge s) := by
  unfold spindleEdge
  split
  · exact ite (fun _ => openWindow_evolves s) fun _ => lay s _ id
  · exact ite (fun _ => closeWindow_evolves _ _ s) fun _ => lay s _ id
  · exact refl s

theorem layCapTest_evolves (s : State) : Evolves scope s (layCapTest s) := by
  unfold layCapTest
  split
  · exact ite (fun _ => closeWindow_evolves _ _ s) fun _ => refl s
  · exact refl s

theorem laySeesHeld_evolves (s : State) : Evolves scope s (laySeesHeld s) := by
  unfold laySeesHeld
  split
  · exact (suspend_evolves s).trans (measureLayRun_evolves _ _)
  · exact (suspend_evolves s).trans (measureLayRun_evolves _ _)
  · exact refl s

theorem laySeesRunning_evolves (s : State) : Evolves scope s (laySeesRunning s) := by
  unfold laySeesRunning
  split
  · exact enterSettling_evolves s
  · exact refl s

theorem measureAtActivation_evolves (old new : Nat) (s : State) : Evolves scope s (measureAtActivation old new s) :=
  ite (fun _ => (useOrder_evolves s).trans (measureLayRun_evolves _ _)) fun _ => measureLayRun_evolves _ s

/-- The correction goes back to 0, within its range. -/
theorem trimInRange_zero {l : LayMonitor} (zero : l.trimCorrection = 0) : TrimInRange l := by
  unfold TrimInRange
  omega

theorem layActivation_evolves (s : State) : Evolves scope s (layActivation s) := by
  unfold layActivation
  refine ite (fun _ => refl s) fun _ => ite (fun _ => ?_) fun _ => ?_
  · exact Evolves.trans (lay s _ fun _ => trimInRange_zero rfl) (measureAtActivation_evolves _ _ _)
  · exact Evolves.trans (Evolves.trans (lay s _ fun _ => trimInRange_zero rfl) (measureAtActivation_evolves _ _ _))
      (enterSettling_evolves _)

theorem layEntry_evolves (s : State) : Evolves scope s (layEntry s) :=
  ite (fun _ => Evolves.trans (lay s _ fun _ => trimInRange_zero rfl) (settleByWire_evolves _)) fun _ => refl s

theorem layRestart_evolves (s : State) : Evolves scope s (layRestart s) :=
  ite (fun _ => refl s) fun _ => Evolves.trans (lay s _ fun _ => trimInRange_zero rfl) (settleByWire_evolves _)

/-! ## Knot monitor -/

theorem changeKnot_evolves (f : KnotMonitor → KnotMonitor) (s : State) (history : (f s.knot).history = s.knot.history)
    (run : ∀ r, (f s.knot).faultRun = some r → s.knot.faultRun = some r) : Evolves scope s (changeKnot f s) :=
  knot s (f s.knot) history run

theorem countKnot_evolves (i : Nat) (s : State) : Evolves scope s (countKnot i s) :=
  ite (fun _ => refl s) fun _ => knot s _ rfl fun _ => id

theorem knotStopTest_evolves (stops : scope.stops = true) (r : RowSummary) (s : State) : Evolves scope s (knotStopTest r s) := by
  unfold knotStopTest
  split
  · exact refl s
  · refine ite (fun _ => ?_) fun _ => refl s
    exact Evolves.trans ((giveHold_evolves .knotStop s nofun nofun (by simp [stops])).trans (latch_evolves_of _ (by simp [stops])))
      (knot _ _ rfl fun _ => id)

theorem endKnotRun_evolves (s : State) : Evolves scope s (endKnotRun s) := knot s _ rfl nofun

theorem closeKnotRun_evolves (s : State) : Evolves scope s (closeKnotRun s) := by
  intro bounded b
  unfold closeKnotRun
  split
  · rename_i run hrun
    exact .then (endKnotRun_evolves s) b fun b' => raiseMark_path _ _ rfl (fun h => (b h).knot run hrun) b'
  · exact .refl s

theorem extendKnotRun_start (run : Option KnotFaultRun) (r : RowSummary) (pitch : Nat) :
    (extendKnotRun run r pitch).start = (run.map KnotFaultRun.start).getD r.start := by
  cases run <;> rfl

theorem feedKnotRun_path (r : RowSummary) (s : State) (within : bounded → r.start ≤ maxCount)
    (b : bounded → Bounded s) : Path bounded scope s (feedKnotRun r s) := by
  unfold feedKnotRun
  split
  · exact closeKnotRun_evolves s bounded b
  · have extended : Path bounded scope s
        (changeKnot (fun k => { k with faultRun := some (extendKnotRun s.knot.faultRun r s.effective.rowPitch) }) s) := by
      refine .knot s _ id fun h held r' hr => ?_
      cases hr
      rw [extendKnotRun_start]
      cases run : s.knot.faultRun with
      | none => exact within h
      | some open_ => exact held.knot open_ run
    simp only
    split
    · exact extended.trans (closeKnotRun_evolves _ bounded (bounded_of extended b))
    · exact extended

theorem enterHistory_length (r : RowSummary) (history : List RowSummary) :
    (enterHistory r history).length ≤ historyPlaces := List.length_take_le _ _

theorem enterRow_evolves (r : RowSummary) (s : State) : Evolves scope s (enterRow r s) :=
  of_path fun _ => .knot s _ (fun _ => enterHistory_length _ _) fun _ held => held.knot

theorem changeSections_evolves (f : Section → Section) (s : State) :
    Evolves scope s (changeKnot (fun k => { k with sections := k.sections.map f }) s) :=
  changeKnot_evolves _ s rfl fun _ => id

/-- What a row with knots does after its entry. -/
theorem countedRow_path (stops : scope.stops = true) (r : RowSummary) (s : State)
    (within : bounded → r.start ≤ maxCount) (b : bounded → Bounded s) :
    Path bounded scope s (feedKnotRun r (knotStopTest r
      (changeKnot (fun k => { k with sections := k.sections.map sectionAfterRow }) s))) :=
  .then ((changeSections_evolves sectionAfterRow s).trans (knotStopTest_evolves stops r _)) b fun b' =>
    feedKnotRun_path r _ within b'

theorem evaluateRow_evolves (stops : scope.stops = true) (s : State) : Evolves scope s (evaluateRow s) := by
  intro bounded b
  unfold evaluateRow
  refine .then (enterRow_evolves (rowSummary s.knot.rowSerial s.length.runCount s.knot.sections) s) b fun b' => ?_
  simp only
  split
  · exact changeSections_evolves clearCount _ bounded b'
  · have counted := countedRow_path (scope := scope) stops
      (rowSummary s.knot.rowSerial s.length.runCount s.knot.sections) _ (fun h => (b h).count) b'
    exact counted.trans (changeSections_evolves clearCount _ bounded (bounded_of counted b'))

theorem knotRowEdge_evolves (stops : scope.stops = true) (s : State) : Evolves scope s (knotRowEdge s) := by
  unfold knotRowEdge
  split
  · exact refl s
  · exact knot s _ rfl fun _ => id
  · exact evaluateRow_evolves stops s

theorem knotSeesHeld_evolves (s : State) : Evolves scope s (knotSeesHeld s) :=
  ite (fun _ => closeKnotRun_evolves s) fun _ => refl s

theorem knotActivation_evolves (s : State) : Evolves scope s (knotActivation s) := by
  unfold knotActivation
  refine ite (fun _ => refl s) fun _ => ?_
  exact Evolves.trans (Evolves.trans (changeKnot_evolves _ s rfl fun _ => id) (closeKnotRun_evolves _))
    (changeKnot_evolves _ _ rfl fun _ => id)

theorem knotEntry_evolves (s : State) : Evolves scope s (knotEntry s) :=
  ite (fun _ => knot s _ rfl fun _ => id) fun _ => refl s

theorem knotRestart_evolves (s : State) : Evolves scope s (knotRestart s) :=
  ite (fun _ => refl s) fun _ => knot s _ rfl nofun

/-! ## Lots, firing and placing -/

theorem rebuild_evolves (r : LotRecord) (s : State) : Evolves scope s (rebuild r s) := by
  refine Evolves.trans (Evolves.trans ?_ (layActivation_evolves _)) (knotActivation_evolves _)
  exact lots s _ id

theorem lotChange_evolves (tag : Nat) (s : State) : Evolves scope s (lotChange tag s) := by
  unfold lotChange
  refine ite (fun _ => refl s) fun _ => ?_
  split
  · refine Evolves.trans ?_ (rebuild_evolves _ _)
    exact lots s _ id
  · refine Evolves.trans ?_ (latch_evolves _ _)
    exact lots s _ id

theorem fireMark_path (m : Mark) (s : State) (within : bounded → m.position ≤ maxCount) (b : bounded → Bounded s) :
    Path bounded scope s (fireMark m s) := by
  unfold fireMark
  split
  · exact (((lotChange_evolves _ s).trans (builderTakes_evolves _ _ _)).trans (forward_evolves _ _)) bounded b
  · exact fireOrdinary_path m s within b

/-- The first waiting mark fires: what it had to wait for is within the ceiling, as every waiting mark is. -/
theorem fireHead_evolves {m : Mark} {rest : List Mark} {s : State} (head : s.marks.marks = m :: rest) :
    Evolves scope s (fireHead m rest s) := by
  intro bounded b
  have popped : Evolves scope s (withWaiting rest s) := waiting s _ (by rw [head]; exact List.sublist_cons_self _ _)
  refine .then popped b fun b' => ?_
  have fired := fireMark_path (scope := scope) m (withWaiting rest s)
    (fun h => (b h).marks m (by rw [head]; exact List.mem_cons_self)) b'
  exact fired.trans (cutTest_evolves _ bounded (bounded_of fired b'))

theorem fireReached_evolves (n : Nat) (s : State) : Evolves scope s (fireReached n s) := by
  induction n generalizing s with
  | zero => exact refl s
  | succ n ih =>
    unfold fireReached
    split
    · exact ite (fun _ => (fireHead_evolves ‹_›).trans (ih _)) fun _ => refl s
    · exact refl s

theorem farthestOrdinary_spec (marks : List Mark) (best : Option Mark) :
    let far := marks.foldl (fun best w =>
      if w.kind.isBoundary then best
      else match best with
        | none => some w
        | some b => if b.position ≤ w.position then some w else best) best
    (∀ w, far = some w → w ∈ marks ∨ best = some w) ∧ (0 < ordinaryWaiting marks ∨ best ≠ none → far ≠ none) := by
  induction marks generalizing best with
  | nil => exact ⟨fun w h => .inr h, fun h => h.elim (fun h => absurd h (lt_irrefl 0)) id⟩
  | cons w marks ih =>
    rw [List.foldl_cons]
    have count : ordinaryWaiting (w :: marks) = ordinaryWaiting marks + if w.kind.isBoundary then 0 else 1 := by
      unfold ordinaryWaiting
      rw [List.countP_cons]
      cases w.kind.isBoundary <;> rfl
    rw [count]
    cases boundary : w.kind.isBoundary with
    | true =>
      obtain ⟨mem, found⟩ := ih best
      exact ⟨fun v h => (mem v h).imp_left (List.mem_cons_of_mem _), fun h => found (by simpa using h)⟩
    | false =>
      have step : ∀ v, (match best with
          | none => some w
          | some b => if b.position ≤ w.position then some w else best) = v → v = some w ∨ (v = best ∧ best ≠ none) := by
        rintro v rfl
        cases best with
        | none => exact .inl rfl
        | some b =>
          dsimp only
          split
          · exact .inl rfl
          · exact .inr ⟨rfl, nofun⟩
      simp only [Bool.false_eq_true, if_false]
      generalize hv : (match best with
          | none => some w
          | some b => if b.position ≤ w.position then some w else best) = v
      obtain ⟨mem, found⟩ := ih v
      refine ⟨fun x h => ?_, fun _ => found (.inr ?_)⟩
      · rcases mem x h with h | h
        · exact .inl (List.mem_cons_of_mem _ h)
        · obtain e | ⟨e, -⟩ := step v hv
          · rw [e] at h
            cases h
            exact .inl List.mem_cons_self
          · exact .inr (e ▸ h)
      · obtain e | ⟨e, ne⟩ := step v hv
        · rw [e]
          nofun
        · rw [e]
          exact ne

theorem farthestOrdinary_mem {marks : List Mark} {w : Mark} (h : farthestOrdinary marks = some w) : w ∈ marks :=
  ((farthestOrdinary_spec marks none).1 w h).resolve_right nofun

theorem farthestOrdinary_ne_none {marks : List Mark} (h : 0 < ordinaryWaiting marks) : farthestOrdinary marks ≠ none :=
  (farthestOrdinary_spec marks none).2 (.inl h)

@[simp] theorem raiseLoss_waiting (i : LossInterval) (s : State) : (raiseLoss i s).marks.marks = s.marks.marks := by
  unfold raiseLoss
  split
  · rw [(fireOrdinary_frame _ _ (bs := [.feeds, .builder, .hold, .port, .link])) .marks (by decide)]
    rfl
  · rfl

@[simp] theorem addInterval_waiting (i : LossInterval) (s : State) : (addInterval i s).marks.marks = s.marks.marks := by
  unfold addInterval
  rw [raiseLoss_waiting, (offerInterval_frame i s (bs := [.feeds, .builder, .link])) .marks (by decide)]

theorem evict_waiting {s : State} {w : Mark} (far : farthestOrdinary s.marks.marks = some w) :
    (evict s).marks.marks = s.marks.marks.erase w := by
  unfold evict
  rw [far]
  change (addInterval _ _).marks.marks = _
  rw [addInterval_waiting, (cutTest_frame _ (bs := [.builder, .hold, .port])) .marks (by decide)]
  rfl

theorem evict_length (s : State) : (evict s).length = s.length :=
  (evict_frame s (bs := [.marks, .feeds, .builder, .hold, .port, .link])) .length (by decide)

theorem evict_evolves (s : State) : Evolves scope s (evict s) := by
  intro bounded b
  unfold evict
  split
  · rename_i w far
    have popped : Evolves scope s (withWaiting (s.marks.marks.erase w) s) := waiting s _ List.erase_sublist
    exact .then (popped.trans (cutTest_evolves _)) b fun b' =>
      lostInterval_path w .evicted _ (fun h => (b h).marks w (farthestOrdinary_mem far)) b'
  · exact .refl s

theorem refuseBoundary_evolves (s : State) : Evolves scope s (refuseBoundary s) := by
  have held := (giveHold_evolves (scope := scope) .boundaryLost s nofun nofun).trans (latch_evolves .boundaryLost _)
  exact held.trans (waiting _ _ (List.Sublist.refl _))

/-- A mark placed by an eviction may be stored once the ordinary mark has gone. -/
theorem storable_of_evicts {m : Mark} {s : State} (fit : MarksFit s.marks.marks) (fresh : placementOf m s ≠ .duplicate)
    (ahead : s.length.runCount < m.position) (merged : (mergedOut m s).isSome = (sameLotWaiting m s).isSome)
    (evicts : capacity m (waitingAfterMerge m s) = .evicts) : Storable (evict (mergeOut m s)) m := by
  obtain ⟨boundary, some_ordinary⟩ := capacity_evicts evicts
  obtain ⟨w, far⟩ := Option.ne_none_iff_exists'.1 (farthestOrdinary_ne_none some_ordinary)
  have mem := farthestOrdinary_mem far
  have waiting := evict_waiting (s := mergeOut m s) (by rwa [mergeOut_waiting])
  rw [mergeOut_waiting] at waiting
  have sub : ∀ x ∈ (evict (mergeOut m s)).marks.marks, x ∈ waitingAfterMerge m s := fun x hx =>
    List.mem_of_mem_erase (waiting ▸ hx)
  refine ⟨by rw [evict_length, mergeOut_length]; exact ahead,
    fun x hx => isDuplicate_eq_false fresh x ((waitingAfterMerge_sublist m s).subset (sub x hx)),
    fun x hx kind => lot_ne_of_merged fit merged kind x (sub x hx), ?_, fun h => by rw [boundary] at h; cases h⟩
  rw [waiting, List.length_erase_of_mem mem]
  have := List.length_pos_of_mem mem
  have := (waitingAfterMerge_sublist m s).length_le.trans fit.places
  omega

theorem placeMark_path (m : Mark) (s : State) (within : bounded → m.position ≤ maxCount) (b : bounded → Bounded s) :
    Path bounded scope s (placeMark m s) := by
  have cases := placementOf_cases m s
  unfold placeMark
  split
  · exact countDuplicate_evolves s bounded b
  · exact countMerge_evolves s bounded b
  · refine .then (mergeOut_evolves m s) b fun b' => ?_
    have fired := fireMark_path (scope := scope) m _ within b'
    exact fired.trans (offerMerge_evolves m s _ bounded (bounded_of fired b'))
  · rename_i stored
    rw [stored] at cases
    obtain ⟨ahead, merged, room⟩ := cases.resolve_left nofun |>.resolve_left nofun |>.resolve_left nofun
    exact .then (mergeOut_evolves m s) b fun b' => storeMark_path m _ (fun h =>
      ⟨within h, storable_of_stored (b h).fit (by rw [stored]; nofun) ahead merged room.symm⟩) b'
  · rename_i evicts
    rw [evicts] at cases
    obtain ⟨ahead, merged, room⟩ := cases.resolve_left nofun |>.resolve_left nofun |>.resolve_left nofun
    exact .then ((mergeOut_evolves m s).trans (evict_evolves _)) b fun b' => storeMark_path m _ (fun h =>
      ⟨within h, storable_of_evicts (b h).fit (by rw [evicts]; nofun) ahead merged room.symm⟩) b'
  · split
    · exact (((mergeOut_evolves m s).trans (refuseBoundary_evolves _)).trans (offerMerge_evolves m s _)) bounded b
    · exact lostInterval_path m .refused s within b

theorem raiseAny_path (r : Raising) (s : State) (within : bounded → r.position ≤ maxCount) (b : bounded → Bounded s) :
    Path bounded scope s (raiseAny r s) :=
  .then (takeSerial_evolves s) b fun b' => placeMark_path _ _ (fun h => completeMark_le (within h) (b h).count) b'

end Sys2Proof.Machine
end

section
/-! PROOFS. Advances and counts of the length unit, and the edges of the sense unit: the chains of moves, and why after an
advance every waiting mark lies ahead again. -/

namespace Sys2Proof.Machine

-- One theorem after another: side by side they need more threads than the memory of the check allows.
set_option Elab.async false

open Evolves

variable {bounded : Prop} {scope : Scope}

/-! ## What an advance leaves ahead -/

theorem Ahead.of_marks {s t : State} (h : Ahead s) (marks : t.marks.marks = s.marks.marks)
    (count : t.length.runCount ≤ s.length.runCount) : Ahead t := fun m hm =>
  count.trans_lt (h m (marks ▸ hm))

theorem Evolves.ahead {s t : State} (e : Evolves .still s t) (within : Bounded s) (h : Ahead s) : Ahead t :=
  (e (Bounded s) id).ahead within h

theorem Evolves.within {s t : State} (e : Evolves scope s t) (within : Bounded s) : Bounded t :=
  (e (Bounded s) id).bounded_kept within within

/-- Where the first waiting mark is ahead of the run count, all are. -/
theorem ahead_of_head {s : State} (sorted : s.marks.marks.Pairwise fun a b => a.position ≤ b.position)
    (head : ∀ m rest, s.marks.marks = m :: rest → s.length.runCount < m.position) : Ahead s := by
  intro m hm
  cases marks : s.marks.marks with
  | nil => rw [marks] at hm; cases hm
  | cons first rest =>
    have ahead := head first rest marks
    rw [marks] at sorted hm
    obtain rfl | hm := List.mem_cons.1 hm
    · exact ahead
    · exact ahead.trans_le ((List.pairwise_cons.1 sorted).1 m hm)

theorem fireReached_ahead (n : Nat) (s : State) (within : Bounded s) (enough : reachedCount s ≤ n) :
    Ahead (fireReached n s) := by
  induction n generalizing s with
  | zero => exact (ahead_iff s).2 (Nat.le_zero.1 enough)
  | succ n ih =>
    unfold fireReached
    cases marks : s.marks.marks with
    | nil =>
      intro m hm
      rw [marks] at hm
      cases hm
    | cons first rest =>
      simp only
      split
      · rename_i reached
        have popped : Evolves .still s (withWaiting rest s) :=
          waiting s _ (by rw [marks]; exact List.sublist_cons_self _ _)
        have within' := popped.within within
        have fired := (fireMark_path (scope := .still) (bounded := Bounded s) first (withWaiting rest s)
          (fun h => h.marks first (by rw [marks]; exact List.mem_cons_self)) fun _ => within').trans
            (cutTest_evolves _ _ fun _ => (fireMark_path (scope := .still) (bounded := Bounded s) first
              (withWaiting rest s) (fun h => h.marks first (by rw [marks]; exact List.mem_cons_self))
                fun _ => within').bounded_kept within within')
        refine ih _ (fired.bounded_kept within within') ((fired.reachedCount_le within).trans ?_)
        have : reachedCount s = reachedCount (withWaiting rest s) + 1 := by
          unfold reachedCount
          rw [marks, List.countP_cons_of_pos (by simpa using reached)]
          rfl
        omega
      · refine ahead_of_head within.fit.sorted fun m rest' h => ?_
        rw [marks] at h
        cases h
        omega

/-! ## Advances -/

theorem changeInput_evolves (i : Nat) (f : SenseInput → SenseInput) (s : State) : Evolves scope s (changeInput i f s) :=
  sense s _ (by simp)

theorem capGauge_evolves (i : Nat) (s : State) : Evolves scope s (capGauge i s) := by
  intro bounded b
  unfold capGauge
  split
  · split
    · have raised := raiseMark_path (scope := scope) (gaugeFault _ faultSpanCap true) s rfl
        (fun h => (Nat.le_of_add_right_le ‹_›).trans (b h).count) b
      exact raised.trans (changeInput_evolves _ _ _ bounded (bounded_of raised b))
    · exact .refl s
  · exact .refl s

theorem foldl_evolves {α : Type} (f : State → α → State) (step : ∀ s a, Evolves scope s (f s a)) (l : List α)
    (s : State) : Evolves scope s (l.foldl f s) := by
  induction l generalizing s with
  | nil => exact refl s
  | cons a rest ih => exact (step s a).trans (ih _)

theorem capGauges_evolves (s : State) : Evolves scope s (capGauges s) :=
  foldl_evolves _ (fun t i => capGauge_evolves i t) _ s

theorem passed_evolves (added : List LossInterval) (s : State) :
    Evolves scope s (withLosses (passed s.length.runCount added s.feeds.losses) s) :=
  of_path fun _ => .feeds s _ (fun _ _ fits => by
    obtain ⟨table, fits⟩ := (feedsFit_iff _).1 fits
    exact (feedsFit_iff _).2 ⟨table, fits.sublist List.filter_sublist⟩) fun _ => rfl

/-- What an advance does once it has fired the marks it reached. -/
theorem afterFiring_evolves (added : List LossInterval) (s : State) :
    Evolves scope s (capGauges (builderAdvance (withLosses
      (passed (lossTest s.feeds.losses s).length.runCount added (lossTest s.feeds.losses s).feeds.losses)
      (lossTest s.feeds.losses s)))) :=
  (((lossTest_evolves _ s).trans (passed_evolves added _)).trans (builderAdvance_evolves _)).trans (capGauges_evolves _)

theorem advance_evolves (s : State) : Evolves scope s (advance s) :=
  (fireReached_evolves _ s).trans (afterFiring_evolves _ _)

theorem advance_ahead (s : State) (within : Bounded s) : Ahead (advance s) :=
  (afterFiring_evolves (scope := .still) ((reachedMarks s).filterMap relayedBy) _).ahead
    ((fireReached_evolves (scope := .still) s.marks.marks.length s).within within)
    (fireReached_ahead _ s within List.countP_le_length)

/-! ## Operations that may move the run count -/

/-- An operation that may raise the run count is a chain of moves that leaves every waiting mark ahead. -/
structure Rises (s t : State) : Prop where
  path : Evolves .free s t
  ahead : Bounded s → Ahead s → Ahead t

namespace Rises

variable {s t u : State}

theorem of_evolves (e : ∀ counts, Evolves ⟨counts, true, true, true, true⟩ s t) : Rises s t := ⟨e true, (e false).ahead⟩

theorem refl (s : State) : Rises s s := of_evolves fun _ => Evolves.refl s

theorem trans (first : Rises s t) (second : Rises t u) : Rises s u :=
  ⟨first.path.trans second.path, fun h ahead => second.ahead (first.path.within h) (first.ahead h ahead)⟩

theorem ite {p : Prop} [Decidable p] (yes : p → Rises s t) (no : ¬p → Rises s u) : Rises s (if p then t else u) := by
  split
  · exact yes ‹_›
  · exact no ‹_›

theorem of_advance (path : Evolves .free s t) : Rises s (advance t) :=
  ⟨path.trans (advance_evolves t), fun h _ => advance_ahead t (path.within h)⟩

end Rises

/-- What a reverse count starts from: the floor does not lie above the run count. -/
structure Counted (s : State) : Prop where
  within : Bounded s
  floor : s.floor ≤ s.length.runCount

/-- A wheel count is a chain of moves that leaves every waiting mark ahead. -/
structure Settles (s t : State) : Prop where
  path : ∀ bounded, (bounded → Counted s) → Path bounded .free s t
  ahead : Counted s → Ahead s → Ahead t

theorem Rises.settles {s t : State} (e : Rises s t) : Settles s t :=
  ⟨fun bounded b => e.path bounded fun h => (b h).within, fun h => e.ahead h.within⟩

theorem Settles.ite {p : Prop} [Decidable p] {s t u : State} (yes : p → Settles s t) (no : ¬p → Settles s u) :
    Settles s (if p then t else u) := by
  split
  · exact yes ‹_›
  · exact no ‹_›

/-- An operation that leaves the floor and the run count comes first. -/
theorem Settles.after {s t u : State} (e : ∀ counts, Evolves ⟨counts, true, true, true, true⟩ s t) (floor : t.floor = s.floor)
    (count : t.length.runCount = s.length.runCount) (second : Settles t u) : Settles s u where
  path bounded b :=
    (e true bounded fun h => (b h).within).trans (second.path bounded fun h =>
      ⟨(e true).within (b h).within, by rw [floor, count]; exact (b h).floor⟩)
  ahead h ahead := second.ahead ⟨(e true).within h.within, by rw [floor, count]; exact h.floor⟩
    ((e false).ahead h.within ahead)

theorem CoilLaw.withLength {s : State} (law : CoilLaw s) {v : LengthUnit} (count : v.runCount ≤ maxCount)
    (fraction : v.fraction < 65536) (floor : s.floor ≤ v.runCount)
    (saturated : v.saturated = true → v.runCount = maxCount ∧ v.fraction = 65535) : CoilLaw (s.withLength v) :=
  ⟨⟨count, fraction, floor, saturated, law.1.2.2.2.2⟩, law.2⟩

/-- A change of the length unit that leaves its position. -/
theorem length_evolves {s : State} {v : LengthUnit} (count : v.runCount = s.length.runCount)
    (fraction : v.fraction = s.length.fraction) (saturated : v.saturated = s.length.saturated) :
    Evolves scope s (s.withLength v) :=
  of_path fun _ => .length s v (fun _ => count) (fun _ h => ⟨count ▸ h.count, fraction ▸ h.fraction⟩) fun law =>
    law.withLength (count ▸ law.1.1) (fraction ▸ law.1.2.1) (count ▸ law.1.2.2.1)
      (by rw [count, fraction, saturated]; exact law.1.2.2.2.1)

theorem reachCeiling_evolves (s : State) : Evolves .free s (reachCeiling s) := by
  refine Evolves.trans (of_path fun _ => ?_) ((giveHold_evolves .countLimit _ nofun nofun).trans (latch_evolves _ _))
  exact .length s { s.length with runCount := maxCount, fraction := 65535, saturated := true } nofun
    (fun _ _ => ⟨le_rfl, by simp⟩) fun law =>
      law.withLength le_rfl (by simp) (law.1.2.2.1.trans law.1.1) fun _ => ⟨rfl, rfl⟩

theorem fullPosition_le_div {s : State} {p : Nat} (le : s.fullPosition ≤ p) : s.length.runCount ≤ p / 65536 := by
  unfold State.fullPosition at le
  omega

/-- The count moved to a position on either side of the one standing, but not below the floor. -/
theorem atPosition_path {s : State} (p : Nat) (within : bounded → p / 65536 ≤ maxCount)
    (coil : CoilLaw s → p / 65536 ≤ maxCount) (floor : CoilLaw s → s.floor ≤ p / 65536)
    (free : s.length.saturated = false) : Path bounded .free s (changeLength (atPosition p) s) :=
  .length s (atPosition p s.length) nofun (fun h _ => ⟨within h, Nat.mod_lt _ (by decide)⟩) fun law =>
    law.withLength (coil law) (Nat.mod_lt _ (by decide)) (floor law) fun h => by
      rw [show (atPosition p s.length).saturated = s.length.saturated from rfl, free] at h
      cases h

theorem moveForward_evolves {p : Nat} {s : State} (le : s.fullPosition ≤ p) (free : s.length.saturated = false) :
    Evolves .free s (moveForward p s) :=
  ite (fun _ => reachCeiling_evolves s) fun below => of_path fun _ =>
    atPosition_path p (fun _ => by omega) (fun _ => by omega) (fun law => law.1.2.2.1.trans (fullPosition_le_div le)) free

theorem moveForward_marks (p : Nat) (s : State) : (moveForward p s).marks = s.marks := by
  unfold moveForward reachCeiling
  split
  · exact ((giveHold_frame _ _ (bs := [.hold, .port, .link])).trans (latch_frame _ _)) .marks (by decide)
  · rfl

/-! ## Counts -/

theorem handOnRise_evolves (old : Nat) (s : State) : Evolves scope s (handOnRise old s) :=
  ite (fun _ => advance_evolves s) fun _ => refl s

/-- A rise is handed on as an advance; without one, the marks that were ahead still are. -/
theorem handOnRise_ahead {old : Nat} {s : State} (within : Bounded s)
    (still : s.length.runCount ≤ old → Ahead s) : Ahead (handOnRise old s) := by
  unfold handOnRise
  split
  · exact advance_ahead s within
  · exact still (by omega)

theorem forwardCount_rises (s : State) : Rises s (forwardCount s) := by
  unfold forwardCount
  refine .ite (fun _ => .refl s) fun free => ?_
  have moved := moveForward_evolves (s := s) (p := s.fullPosition + s.profile.wheelStep) (Nat.le_add_right _ _)
    (by simpa using free)
  have marks := moveForward_marks (s.fullPosition + s.profile.wheelStep) s
  generalize moveForward (s.fullPosition + s.profile.wheelStep) s = t at moved marks
  have same : t.marks.marks = s.marks.marks := congrArg MarkList.marks marks
  have asked := useOrder_evolves (scope := .still) t
  dsimp only
  refine .ite (fun _ => .ite (fun _ => ?_) fun _ => ?_) fun _ => ?_
  · refine ⟨(moved.trans (useOrder_evolves t)).trans
      ((layCapTest_evolves _).trans (handOnRise_evolves _ _)), fun h ahead => ?_⟩
    have tested := asked.trans (layCapTest_evolves t.useOrder)
    have count := (tested (Bounded t) id).runCount_eq rfl
    exact handOnRise_ahead (tested.within (moved.within h)) fun le => tested.ahead (moved.within h)
      (ahead.of_marks same (count ▸ le))
  · refine ⟨(moved.trans (useOrder_evolves t)).trans
      ((handOnRise_evolves _ _).trans (layCapTest_evolves _)), fun h ahead => ?_⟩
    have within := asked.within (moved.within h)
    exact (layCapTest_evolves _).ahead ((handOnRise_evolves (scope := .still) _ _).within within)
      (handOnRise_ahead within fun le => ahead.of_marks same le)
  · exact ⟨moved.trans (handOnRise_evolves _ t), fun h ahead =>
      handOnRise_ahead (moved.within h) fun le => ahead.of_marks same le⟩

/-- A count that does not rise leaves the waiting marks ahead. -/
theorem Settles.of_fall {s t : State} (path : ∀ bounded, (bounded → Counted s) → Path bounded .free s t)
    (marks : t.marks = s.marks) (count : Counted s → t.length.runCount ≤ s.length.runCount) : Settles s t :=
  ⟨path, fun h ahead => ahead.of_marks (congrArg MarkList.marks marks) (count h)⟩

theorem reverseCount_settles (s : State) : Settles s (reverseCount s) := by
  unfold reverseCount
  refine .ite (fun _ => (Rises.refl s).settles) fun free => .ite (fun below => ?_) fun above => ?_
  · refine .of_fall (fun bounded b => ?_) rfl fun h => h.floor
    refine .length s { s.length with runCount := s.floor, fraction := 0, reverseClamps := tally s.length.reverseClamps }
      nofun (fun h _ => ⟨(b h).floor.trans (b h).within.count, by simp⟩) fun law =>
        law.withLength (law.1.2.2.1.trans law.1.1) (by simp) le_rfl fun h => absurd h free
  · have le : (s.fullPosition - s.profile.wheelStep) / 65536 ≤ s.fullPosition / 65536 :=
      Nat.div_le_div_right (Nat.sub_le _ _)
    refine .of_fall (fun bounded b => ?_) rfl fun h => ?_
    · refine atPosition_path _ (fun h => ?_) (fun law => ?_) (fun _ => by omega) (by simpa using free)
      · exact (le.trans (fullPosition_div (b h).within.fraction).le).trans (b h).within.count
      · exact (le.trans (fullPosition_div law.1.2.1).le).trans law.1.1
    · exact le.trans (fullPosition_div h.within.fraction).le

theorem wheelCount_settles (forward : Bool) (s : State) : Settles s (wheelCount forward s) :=
  .ite (fun _ => (forwardCount_rises s).settles) fun _ => reverseCount_settles s

theorem changeLength_evolves (f : LengthUnit → LengthUnit) (s : State) (count : (f s.length).runCount = s.length.runCount)
    (fraction : (f s.length).fraction = s.length.fraction) (saturated : (f s.length).saturated = s.length.saturated) :
    Evolves scope s (changeLength f s) := length_evolves count fraction saturated

theorem decodeWheel_settles (new : Bool × Bool) (s : State) : Settles s (decodeWheel new s) := by
  unfold decodeWheel
  split
  · exact (Rises.refl s).settles
  · have follows := fun counts => changeLength_evolves (scope := ⟨counts, true, true, true, true⟩)
      (fun l => { l with reference := some new }) s rfl rfl rfl
    dsimp only
    split
    · exact (Rises.refl s).settles
    · exact .after follows rfl rfl (wheelCount_settles true _)
    · exact .after follows rfl rfl (wheelCount_settles false _)
    · exact .after follows rfl rfl (Rises.of_evolves fun _ => changeLength_evolves _ _ rfl rfl rfl).settles

/-! ## Rows -/

theorem rowAdvance_rises (s : State) : Rises s (rowAdvance s) := by
  unfold rowAdvance
  refine .ite (fun _ => .refl s) fun free => .ite (fun _ => ?_) fun below => ?_
  · exact .of_advance (reachCeiling_evolves s)
  · refine .of_advance (of_path fun _ => ?_)
    refine .length s { s.length with runCount := s.length.runCount + s.effective.rowPitch } nofun
      (fun _ h => ⟨by simp only; omega, h.fraction⟩) fun law =>
        law.withLength (by simp only; omega) law.1.2.1 (law.1.2.2.1.trans (Nat.le_add_right _ _)) fun h => absurd h free

theorem rowEdge_rises (s : State) : Rises s (rowEdge s) :=
  have own := Rises.of_evolves fun _ => knotRowEdge_evolves rfl s
  .ite (fun _ => own.trans (rowAdvance_rises _)) fun _ => own

/-! ## The sense unit -/

theorem openGauge_evolves (i : Nat) (s : State) : Evolves scope s (openGauge i s) := changeInput_evolves _ _ _

theorem gaugeActive_evolves (i : Nat) (s : State) : Evolves scope s (gaugeActive i s) := by
  unfold gaugeActive
  split
  · exact refl s
  · exact openGauge_evolves i s

theorem gaugeInactive_evolves (i : Nat) (s : State) : Evolves scope s (gaugeInactive i s) := by
  intro bounded b
  unfold gaugeInactive
  split
  · refine .then (changeInput_evolves i (fun inp => { inp with gauge := none }) s) b fun b' => ?_
    split
    · exact .refl _
    · exact raiseMark_path _ _ rfl (fun h => (min_le_right _ _).trans (b h).count) b'
  · exact .refl s

/-- A mark of an ordinary kind raised at the run count. -/
theorem edgeMark_evolves (kind : MarkKind) (detail : Nat) (s : State) (ordinary : kind.isBoundary = false) :
    Evolves scope s (raiseMark (edgeMark kind detail s.length.runCount) s) := fun _ b =>
  raiseMark_path _ _ ordinary (fun h => (b h).count) b

theorem handEdge_rises (i : Nat) (s : State) : Rises s (handEdge i s) := by
  unfold handEdge
  split
  · exact .of_evolves fun _ => countKnot_evolves i s
  · exact rowEdge_rises s
  · exact .of_evolves fun _ => edgeMark_evolves _ _ s rfl
  · exact .of_evolves fun _ => edgeMark_evolves _ _ s rfl
  · exact .of_evolves fun _ => cutDone_evolves s
  · exact .refl s
  · exact .refl s

theorem handLevel_evolves (i : Nat) (active : Bool) (s : State) : Evolves scope s (handLevel i active s) :=
  ite (fun _ => ite (fun _ => gaugeActive_evolves i s) fun _ => gaugeInactive_evolves i s) fun _ => refl s

theorem handChange_rises (i : Nat) (level : Bool) (s : State) : Rises s (handChange i level s) := by
  unfold handChange
  split
  · exact .ite (fun _ => handEdge_rises i s) fun _ => .refl s
  · exact .ite (fun _ => .refl s) fun _ => handEdge_rises i s
  · exact .of_evolves fun _ => handLevel_evolves i _ s
  · exact .of_evolves fun _ => handLevel_evolves i _ s

theorem takeLevel_rises (i : Nat) (level : Bool) (s : State) : Rises s (takeLevel i level s) :=
  (Rises.of_evolves fun _ => changeInput_evolves i _ s).trans (handChange_rises i level _)

theorem filterRaw_rises (i : Nat) (level : Bool) (s : State) : Rises s (filterRaw i level s) :=
  .ite (fun _ => .of_evolves fun _ => changeInput_evolves i _ s) fun _ =>
    .ite (fun _ => takeLevel_rises i level s) fun _ => .of_evolves fun _ => changeInput_evolves i _ s

theorem pins_evolves (s : State) (v : Pins) (inputs : v.sns.length = s.pins.sns.length) : Evolves scope s (s.withPins v) :=
  of_path fun _ => .pins s v inputs

theorem rawChange_rises (i : Nat) (level : Bool) (s : State) : Rises s (rawChange i level s) := by
  unfold rawChange
  refine .ite (fun _ => .refl s) fun _ => ?_
  have moved : Rises s (s.withPins { s.pins with sns := s.pins.sns.set i level }) :=
    .of_evolves fun _ => pins_evolves s _ (by simp)
  exact .ite (fun _ => moved.trans (filterRaw_rises i level _)) fun _ => moved

theorem filterExpiry_rises (i : Nat) (s : State) : Rises s (filterExpiry i s) := by
  unfold filterExpiry
  split
  · exact .ite (fun _ => takeLevel_rises i _ s) fun _ => .refl s
  · exact .refl s

theorem spinChange_evolves (level : Bool) (s : State) : Evolves scope s (spinChange level s) := by
  unfold spinChange
  refine ite (fun _ => refl s) fun _ => ?_
  have moved := pins_evolves (scope := scope) s { s.pins with spin := level } rfl
  exact ite (fun _ => moved.trans (sense _ _ rfl)) fun _ => moved

theorem spinExpiry_evolves (s : State) : Evolves scope s (spinExpiry s) := by
  unfold spinExpiry
  split
  · rename_i p _
    refine ite (fun _ => ?_) fun _ => refl s
    have taken := sense (scope := scope) s { s.sense with spinFiltered := some p.level, spinPending := none } rfl
    exact ite (fun _ => taken.trans (spindleEdge_evolves _)) fun _ => taken
  · exact refl s

theorem inputEntry_evolves (i : Nat) (s : State) : Evolves scope s (inputEntry i s) := by
  unfold inputEntry
  refine ite (fun _ => refl s) fun _ => ?_
  exact ite (fun _ => (changeInput_evolves i _ s).trans (openGauge_evolves i _)) fun _ => changeInput_evolves i _ s

theorem senseEntry_evolves (s : State) : Evolves scope s (senseEntry s) := by
  unfold senseEntry
  have entered := foldl_evolves (scope := scope) (fun u i => inputEntry i u) (fun t i => inputEntry_evolves i t)
    (List.range 32) s
  generalize (List.range 32).foldl (fun u i => inputEntry i u) s = t at entered
  exact entered.trans (sense t { t.sense with spinFiltered := some t.pins.spin, spinPending := none } rfl)

theorem inputRestart_evolves (i : Nat) (s : State) : Evolves scope s (inputRestart i s) := changeInput_evolves i _ s

theorem senseRestart_evolves (s : State) : Evolves scope s (senseRestart s) :=
  foldl_evolves _ (fun t i => inputRestart_evolves i t) _ s

end Sys2Proof.Machine
end

section
/-! PROOFS. The feed table, the wire and the line bus port as chains of moves. -/

namespace Sys2Proof.Machine

-- One theorem after another: side by side they need more threads than the memory of the check allows.
set_option Elab.async false

open Evolves

variable {bounded : Prop} {scope : Scope} {counts clears stops talks : Bool}

/-! ## The feed table -/

theorem ListFits.mono {lost lost' : Nat → Prop} {l : List LossInterval} (fits : ListFits lost l)
    (kept : ∀ f, lost f → lost' f) : ListFits lost' l :=
  ⟨fits.sorted, fits.places, fun i hi h => have ⟨f, e, hf⟩ := fits.tied i hi h; ⟨f, e, kept f hf⟩, fits.runs, fits.apart⟩

/-- A change of one entry leaves a LOST feed LOST, but for that entry. -/
theorem LostIn.modify {table : List FeedEntry} {f i : Nat} {g : FeedEntry → FeedEntry} (lost : LostIn table f)
    (kept : f = i → ∀ e, table[i]? = some e → e.state = .lost → (g e).state = .lost) : LostIn (table.modify i g) f := by
  obtain ⟨e, he, state⟩ := lost
  by_cases same : f = i
  · subst same
    exact ⟨g e, by rw [List.getElem?_modify_eq, he]; rfl, kept rfl e he state⟩
  · exact ⟨e, by simp [Ne.symm same, he], state⟩

theorem changeFeed_evolves (i : Nat) (g : FeedEntry → FeedEntry) (s : State)
    (kept : ∀ e, s.feeds.table[i]? = some e → e.state = .lost → (g e).state = .lost) :
    Evolves ⟨counts, clears, stops, talks, true⟩ s (changeFeed i g s) :=
  of_path fun _ => .feeds s _ (fun _ _ fits => by
    obtain ⟨table, fits⟩ := (feedsFit_iff _).1 fits
    exact (feedsFit_iff _).2 ⟨by simpa using table, fits.mono fun f lost => lost.modify fun _ => kept⟩) nofun

/-- An interval list that already stands, offered: the tests that follow. -/
theorem afterOffer_evolves (i : LossInterval) (s : State) : Evolves scope s (retroTest i.low (offerBuilder i s)) :=
  (offerBuilder_evolves i s).trans (retroTest_evolves i.low _)

/-- A feed goes LOST and its OPEN interval enters the list, as one move. -/
theorem goesLost_evolves {i : Nat} {e : FeedEntry} {s : State} (low : Nat) (entry : s.feeds.table[i]? = some e)
    (up : e.state ≠ .lost) : Evolves ⟨counts, clears, stops, talks, true⟩ s
      (withLosses (addOpen (openInterval i low) s.feeds.losses)
        (changeFeed i (fun e => { e with state := .lost, silenceSince := none }) s)) := by
  refine of_path fun _ => .feeds s { s.feeds with
    table := s.feeds.table.modify i fun e => { e with state := .lost, silenceSince := none }
    losses := addOpen (openInterval i low) s.feeds.losses } (fun _ _ fits => ?_) nofun
  obtain ⟨table, fits⟩ := (feedsFit_iff _).1 fits
  have table' : (s.feeds.table.modify i fun e => { e with state := .lost, silenceSince := none }).length ≤ 4 := by
    simpa using table
  have lost : LostIn (s.feeds.table.modify i fun e => { e with state := .lost, silenceSince := none }) i :=
    ⟨_, by rw [List.getElem?_modify_eq, entry]; rfl, rfl⟩
  refine (feedsFit_iff _).2 ⟨table', (fits.mono fun f lost => lost.modify fun _ _ _ _ => rfl).addOpen
    (LostIn.lt_four table') rfl rfl lost fun j hj opened same => ?_⟩
  obtain ⟨f, tied, e', he', state⟩ := fits.tied j hj opened
  rw [same] at tied
  cases tied
  rw [entry] at he'
  cases he'
  exact up state

theorem feedSilent_evolves (i : Nat) (s : State) : Evolves ⟨counts, clears, stops, talks, true⟩ s (feedSilent i s) := by
  unfold feedSilent
  split
  · rename_i e entry
    refine ite (fun due => ?_) fun _ => refl s
    exact ((latch_evolves .feedLost s).trans (goesLost_evolves (e.lastLocal + e.reach) entry due.1)).trans
      (afterOffer_evolves (openInterval i (e.lastLocal + e.reach)) _)
  · exact refl s

/-- A feed is heard again and its OPEN interval closes, as one move. -/
theorem isHeard_evolves (i high : Nat) (s : State) : Evolves ⟨counts, clears, stops, talks, true⟩ s
    (withLosses (closeOpen i high s.feeds.losses)
      (changeFeed i (fun e => { e with state := .heard, expectedSerial := none }) s)) := by
  refine of_path fun _ => .feeds s { s.feeds with
    table := s.feeds.table.modify i fun e => { e with state := .heard, expectedSerial := none }
    losses := closeOpen i high s.feeds.losses } (fun _ _ fits => ?_) nofun
  obtain ⟨table, fits⟩ := (feedsFit_iff _).1 fits
  exact (feedsFit_iff _).2 ⟨by simpa using table, fits.closeOpen i high fun f ne lost =>
    lost.modify fun same => absurd same ne⟩

/-- With no OPEN interval of the feed, nothing closes. -/
theorem closeOpen_of_none {i high : Nat} {s : State} (none_open : closingInterval i high s = none) :
    closeOpen i high s.feeds.losses = s.feeds.losses := by
  have found : s.feeds.losses.find? (isOpenOf i) = none := by simpa [closingInterval] using none_open
  rw [closeOpen, found]

theorem feedFound_evolves (i : Nat) (e : FeedEntry) (s : State) : Evolves ⟨counts, clears, stops, talks, true⟩ s (feedFound i e s) := by
  have heard := (latch_evolves (scope := ⟨counts, clears, stops, talks, true⟩) .feedFound s).trans
    (isHeard_evolves i (min (s.length.runCount + e.reach) maxCount) _)
  unfold feedFound closeInterval
  split
  · exact (heard.trans (offerBuilder_evolves _ _)).trans (raiseLoss_evolves _ _)
  · rename_i none_open
    have same := closeOpen_of_none (s := latch .feedFound s) none_open
    rw [same] at heard
    exact heard

/-- Once found, a feed is heard. -/
theorem feedFound_entry (i : Nat) (e : FeedEntry) (s : State) :
    (feedFound i e s).feeds.table = s.feeds.table.modify i fun e => { e with state := .heard, expectedSerial := none } := by
  unfold feedFound closeInterval
  split
  · rw [raiseLoss_feeds]
    exact congrArg FeedUnit.table ((lossTest_frame _ _ (bs := [.builder])) .feeds (by decide))
  · rfl

theorem feedHears_evolves {i : Nat} {e : FeedEntry} {s : State} (entry : s.feeds.table[i]? = some e) :
    Evolves ⟨counts, clears, stops, talks, true⟩ s (feedHears i e s) := by
  unfold feedHears
  by_cases lost : e.state = .lost
  · rw [if_pos lost]
    refine (feedFound_evolves i e s).trans (changeFeed_evolves _ _ _ fun e' he' state => ?_)
    rw [feedFound_entry, List.getElem?_modify_eq, entry] at he'
    cases he'
    cases state
  · rw [if_neg lost]
    refine changeFeed_evolves _ _ _ fun e' he' state => ?_
    rw [entry] at he'
    cases he'
    exact absurd state lost

theorem storePosition_evolves (i : Nat) (p : PositionPayload) (s : State) :
    Evolves ⟨counts, clears, stops, talks, true⟩ s (storePosition i p s) :=
  changeFeed_evolves _ _ _ fun _ _ => id

theorem gapInterval_runs (e : FeedEntry) (stamp : Nat) {localCount : Nat} (count : localCount ≤ maxCount) :
    Runs (gapInterval e stamp localCount) := by
  have reach : localCount ≤ min (localCount + e.reach) maxCount := le_min (Nat.le_add_right _ _) count
  intro h hh
  cases hh
  unfold gapInterval
  dsimp only
  split
  · split
    · exact reach
    · exact not_lt.1 ‹_›
  · exact reach

theorem serialCheck_evolves (i : Nat) (e : FeedEntry) (serial stamp : Nat) (s : State) :
    Evolves ⟨counts, clears, stops, talks, true⟩ s (serialCheck i e serial stamp s) := by
  have stored : ∀ t : State, Evolves ⟨counts, clears, stops, talks, true⟩ t (changeFeed i
      (fun e => { e with expectedSerial := some (nextSerial8 serial), prevStamp := some stamp }) t) :=
    fun t => changeFeed_evolves _ _ _ fun _ _ => id
  intro bounded b
  unfold serialCheck
  split
  · refine .then (latch_evolves .gap s) b fun b' => ?_
    have added := addInterval_path (scope := ⟨counts, clears, stops, talks, true⟩)
      (i := gapInterval e stamp s.length.runCount) (latch .gap s) rfl
      (fun h => gapInterval_runs e stamp (b h).count) b'
    exact added.trans (stored _ bounded (bounded_of added b'))
  · exact stored s bounded b

theorem translatePosition_le {e : FeedEntry} {stamp position localCount : Nat} {p : Nat × Bool × Bool}
    (count : localCount ≤ maxCount) (h : translatePosition e stamp position localCount = some p) : p.1 ≤ maxCount := by
  unfold translatePosition at h
  dsimp only at h
  split at h
  · cases h
    exact count
  · split at h
    · cases h
    · split at h
      · cases h
        exact le_rfl
      · cases h
        omega

theorem translate_le {i : Nat} {e : FeedEntry} {k : MarkKind} {m : MarkPayload} {stamp localCount : Nat} {mark : Mark}
    (count : localCount ≤ maxCount) (h : translate i e k m stamp localCount = some mark) : mark.position ≤ maxCount := by
  obtain ⟨p, hp, rfl⟩ := Option.map_eq_some_iff.1 h
  exact translatePosition_le count hp

/-- A change of the feed unit that leaves the table and the loss list. -/
theorem feedTally_evolves (s : State) (v : FeedUnit) (table : v.table = s.feeds.table) (losses : v.losses = s.feeds.losses) :
    Evolves scope s (s.withFeeds v) :=
  of_path fun _ => .feeds s v (fun _ _ fits => by
    unfold FeedsFit
    rw [table, losses]
    exact fits) fun _ => table

theorem takeMark_evolves (i : Nat) (e : FeedEntry) (m : MarkPayload) (stamp : Nat) (s : State) :
    Evolves scope s (takeMark i e m stamp s) := by
  unfold takeMark
  split
  · exact feedTally_evolves s _ rfl rfl
  · split
    · rename_i mark translated
      exact fun _ b => placeMark_path mark s (fun h => translate_le (b h).count translated) b
    · exact feedTally_evolves s _ rfl rfl

theorem feedTakes_evolves (i serial stamp : Nat) (payload : Payload) (s : State) :
    Evolves ⟨counts, clears, stops, talks, true⟩ s (feedTakes i serial stamp payload s) := by
  unfold feedTakes
  split
  · exact refl s
  · rename_i e entry
    have heard := feedHears_evolves (counts := counts) (clears := clears) (stops := stops) (talks := talks) entry
    dsimp only
    split
    · exact heard.trans (storePosition_evolves i _ _)
    · exact heard
    · exact heard
    · split
      · exact heard
      · exact (heard.trans (serialCheck_evolves i _ _ _ _)).trans (takeMark_evolves i _ _ _ _)

/-! ## The wire -/


theorem hold_evolves (s : State) (v : HoldUnit) (own : v.own = s.hold.own)
    (holders : HoldersFit s.hold.holders → HoldersFit v.holders) : Evolves ⟨counts, clears, stops, true, true⟩ s (s.withHold v) :=
  of_path fun _ => .hold s v own holders rfl

theorem wireChange_evolves (level : Bool) (s : State) : Evolves ⟨counts, clears, stops, true, true⟩ s (wireChange level s) := by
  unfold wireChange
  refine ite (fun _ => refl s) fun _ => ?_
  exact (pins_evolves s { s.pins with holdw := level } rfl).trans (hold_evolves _ _ rfl id)

theorem seeHeld_evolves (s : State) : Evolves ⟨counts, clears, stops, true, true⟩ s (seeHeld s) :=
  (((hold_evolves s { s.hold with observed := .held, pending := none } rfl id).trans (latch_evolves .lineHeld _)).trans
    (laySeesHeld_evolves _)).trans (knotSeesHeld_evolves _)

theorem holdersFit_nil : HoldersFit [] := ⟨Nat.zero_le _, .nil⟩

theorem seeRunning_evolves (s : State) : Evolves ⟨counts, clears, stops, true, true⟩ s (seeRunning s) :=
  ((hold_evolves s { s.hold with observed := .running, pending := none, holders := [], uncounted := false } rfl
    fun _ => holdersFit_nil).trans (latch_evolves .lineReleased _)).trans (laySeesRunning_evolves _)

theorem wireExpiry_evolves (s : State) : Evolves ⟨counts, clears, stops, true, true⟩ s (wireExpiry s) := by
  unfold wireExpiry
  split
  · refine ite (fun _ => ?_) fun _ => refl s
    split
    · exact seeHeld_evolves s
    · exact seeRunning_evolves s
  · exact refl s

theorem holderReleases_evolves (station : Nat) (s : State) : Evolves ⟨counts, clears, stops, true, true⟩ s (holderReleases station s) :=
  hold_evolves s _ rfl fun ⟨places, stations⟩ =>
    ⟨(List.length_filter_le _ _).trans places, stations.sublist List.filter_sublist⟩

theorem holderHolds_evolves (station : Nat) (reasons : HoldSet) (s : State) :
    Evolves ⟨counts, clears, stops, true, true⟩ s (holderHolds station reasons s) := by
  unfold holderHolds
  refine ite (fun _ => holderReleases_evolves station s) fun _ => ite (fun _ => ?_) fun unheld =>
    ite (fun room => ?_) fun _ => hold_evolves s _ rfl id
  · refine hold_evolves s _ rfl fun ⟨places, stations⟩ => ⟨by simpa using places, ?_⟩
    rw [List.pairwise_map]
    refine stations.imp fun ne => ?_
    split <;> split <;> exact ne
  · refine hold_evolves s _ rfl fun ⟨_, stations⟩ => ⟨by simpa using room, ?_⟩
    refine List.pairwise_append.2 ⟨stations, List.pairwise_singleton _ _, fun a ha b hb => ?_⟩
    rw [List.mem_singleton.1 hb]
    simp only [Bool.not_eq_true, List.any_eq_false, decide_eq_true_eq] at unheld
    exact unheld a ha

/-! ## The port -/

theorem port_path (s : State) (v : BusPort) (fits : PortFits s.port → PortFits v)
    (silent : s.port.state = .silent → v.state = .silent) : Path bounded ⟨counts, clears, stops, true, true⟩ s (s.withPort v) :=
  .port s v fits (fun _ => silent) nofun

theorem port_evolves (s : State) (v : BusPort) (fits : PortFits s.port → PortFits v)
    (silent : s.port.state = .silent → v.state = .silent) : Evolves ⟨counts, clears, stops, true, true⟩ s (s.withPort v) :=
  of_path fun _ => port_path s v fits silent

/-- A port that differs in its state and score alone. -/
theorem PortFits.rescore {p v : BusPort} (fits : PortFits p) (fifo : ∀ slot, fifoOf v slot = fifoOf p slot)
    (serial : v.serialCounter = p.serialCounter) (score : v.score ≤ 255) (mute : v.state ≠ .muted → v.score < muteScore) :
    PortFits v := by
  obtain ⟨class1, own, forwarded, attempts, counter, -⟩ := fits
  have h1 : v.class1 = p.class1 := fifo .class1
  have h2 : v.own = p.own := fifo .own
  have h3 : v.forwarded = p.forwarded := fifo .forwarded
  exact ⟨h1 ▸ class1, h2 ▸ own, h3 ▸ forwarded, fun slot q hq => attempts slot q (fifo slot ▸ hq), serial ▸ counter,
    score, mute⟩

theorem PortFits.score_lt {p : BusPort} (fits : PortFits p) (state : p.state ≠ .muted) : p.score < muteScore :=
  fits.2.2.2.2.2.2 state

theorem PortFits.fifo_length {p : BusPort} (fits : PortFits p) (slot : Slot) : (fifoOf p slot).length ≤ fifoPlaces := by
  obtain ⟨class1, own, forwarded, -⟩ := fits
  cases slot
  case class1 => exact class1
  case own => exact own
  case forwarded => exact forwarded
  all_goals exact Option.length_toList_le.trans (by decide)

/-- The score rises and the port mutes where it has reached 192, as one move. -/
theorem raiseScore_evolves (n : Nat) (s : State) : Evolves ⟨counts, clears, stops, true, true⟩ s (raiseScore n s) := by
  unfold raiseScore
  refine ite (fun active => ?_) fun _ => refl s
  have notSilent {state : PortState} : s.port.state = .silent → state = .silent := fun h => by
    rw [active] at h
    cases h
  unfold muteTest
  split
  · refine Evolves.trans (port_evolves s
      { s.port with score := min (s.port.score + n) 255, state := .muted, idleGaps := 0 } (fun fits => ?_) notSilent)
      (latch_evolves .busMuted _)
    exact fits.rescore (fun slot => by cases slot <;> rfl) rfl (min_le_right _ _) fun h => absurd rfl h
  · rename_i below
    refine port_evolves s { s.port with score := min (s.port.score + n) 255 } (fun fits => ?_) notSilent
    refine fits.rescore (fun slot => by cases slot <;> rfl) rfl (min_le_right _ _) fun _ => ?_
    exact not_le.1 fun h => below ⟨active, h⟩

theorem lowerScore_evolves (s : State) : Evolves ⟨counts, clears, stops, true, true⟩ s (lowerScore s) := by
  unfold lowerScore
  refine ite (fun active => ?_) fun _ => refl s
  refine port s _ (fun fits => fits.rescore (fun slot => by cases slot <;> rfl) rfl ?_ fun h => ?_) rfl
  · exact (Nat.sub_le _ _).trans fits.2.2.2.2.2.1
  · exact (Nat.sub_le _ _).trans_lt (fits.score_lt h)

theorem idleGap_evolves (s : State) : Evolves ⟨counts, clears, stops, true, true⟩ s (idleGap s) := by
  unfold idleGap
  split
  · exact refl s
  · rename_i listen
    refine port_evolves s _ (fun fits => fits.rescore (fun slot => by cases slot <;> rfl) rfl fits.2.2.2.2.2.1 fun _ =>
      fits.score_lt (by rw [listen]; nofun)) fun h => ?_
    rw [listen] at h
    cases h
  · exact port s _ (fun fits => fits.congr (fun slot => by cases slot <;> rfl) rfl rfl rfl) rfl
  · rename_i muted
    refine ite (fun _ => ?_) fun _ => ?_
    · exact port s _ (fun fits => fits.congr (fun slot => by cases slot <;> rfl) rfl rfl rfl) rfl
    · refine Evolves.trans (port_evolves s _ (fun fits => ?_) fun h => ?_) (latch_evolves .busActive _)
      · exact fits.rescore (fun slot => by cases slot <;> rfl) rfl (Nat.zero_le _) fun _ => (by decide : 0 < muteScore)
      · rw [muted] at h
        cases h

/-- A change of the port that leaves its queues, its counter, its score and its state. -/
theorem changePort_evolves (f : BusPort → BusPort) (s : State) (fifo : ∀ slot, fifoOf (f s.port) slot = fifoOf s.port slot)
    (serial : (f s.port).serialCounter = s.port.serialCounter) (score : (f s.port).score = s.port.score)
    (state : (f s.port).state = s.port.state) : Evolves ⟨counts, clears, stops, true, true⟩ s (changePort f s) :=
  port s _ (fun fits => fits.congr fifo serial score state) state

theorem startFrame_evolves (s : State) : Evolves ⟨counts, clears, stops, true, true⟩ s (startFrame s) := by
  unfold startFrame
  refine ite (fun _ => ?_) fun _ => refl s
  split
  · exact changePort_evolves _ s (fun slot => by cases slot <;> rfl) rfl rfl rfl
  · exact refl s

theorem stopSending_evolves (s : State) : Evolves ⟨counts, clears, stops, true, true⟩ s (changePort stopSending s) :=
  changePort_evolves _ s (fun slot => by cases slot <;> rfl) rfl rfl rfl

theorem loseArbitration_evolves (s : State) : Evolves ⟨counts, clears, stops, true, true⟩ s (loseArbitration s) :=
  ite (fun _ => stopSending_evolves s) fun _ => refl s

theorem PortFits.removeNotice {p : BusPort} (fits : PortFits p) (slot : Slot) : PortFits (removeNotice slot p) :=
  (fits.withFifo slot _ ((List.tail_sublist _).length_le.trans (fits.fifo_length slot)) fun n hn =>
    fits.2.2.2.1 slot n (List.mem_of_mem_tail hn)).congr (fun other => by cases other <;> rfl) rfl rfl rfl

theorem removeNotice_state (slot : Slot) (p : BusPort) : (removeNotice slot p).state = p.state :=
  withFifo_state p slot _

theorem frameSent_evolves (s : State) : Evolves ⟨counts, clears, stops, true, true⟩ s (frameSent s) := by
  unfold frameSent
  split
  · rename_i f _
    refine Evolves.trans (port s _ (fun fits => ?_) ?_) (lowerScore_evolves _)
    · refine PortFits.congr (p := if f.superseded then s.port else Machine.removeNotice f.slot s.port) ?_
        (fun slot => by cases slot <;> rfl) rfl rfl rfl
      split
      · exact fits
      · exact fits.removeNotice f.slot
    · dsimp only
      split
      · rfl
      · exact removeNotice_state _ _
  · exact refl s

/-- A queue whose head has been charged, and has not failed for the third time, keeps the port within its limits. -/
theorem PortFits.charge {p : BusPort} (fits : PortFits p) (slot : Slot)
    (below : ∀ n, (chargeAttempt (fifoOf p slot)).head? = some n → n.attempts < 3) :
    PortFits (Machine.withFifo p slot (chargeAttempt (fifoOf p slot))) := by
  refine fits.withFifo slot _ ?_ fun n hn => ?_
  · refine le_of_eq_of_le ?_ (fits.fifo_length slot)
    cases fifoOf p slot <;> rfl
  · have held := fits.2.2.2.1 slot
    cases queue : fifoOf p slot with
    | nil => rw [queue] at hn; cases hn
    | cons q rest =>
      rw [queue] at hn held below
      obtain rfl | hn := List.mem_cons.1 hn
      · exact below _ rfl
      · exact held n (List.mem_cons_of_mem _ hn)

theorem fifoOf_charged_head (p : BusPort) (slot : Slot) :
    (fifoOf (withFifo p slot (chargeAttempt (fifoOf p slot))) slot).head? = (chargeAttempt (fifoOf p slot)).head? := by
  cases slot
  case class0 | class3 => simp [withFifo, fifoOf]
  all_goals rfl

theorem removeNotice_charged (p : BusPort) (slot : Slot) :
    removeNotice slot (withFifo p slot (chargeAttempt (fifoOf p slot))) = removeNotice slot p := by
  cases slot
  case class0 => cases h : p.class0 <;> simp [removeNotice, withFifo, fifoOf, chargeAttempt, h]
  case class3 => cases h : p.class3 <;> simp [removeNotice, withFifo, fifoOf, chargeAttempt, h]
  case class1 => cases h : p.class1 <;> simp [removeNotice, withFifo, fifoOf, chargeAttempt, h]
  case own => cases h : p.own <;> simp [removeNotice, withFifo, fifoOf, chargeAttempt, h]
  case forwarded => cases h : p.forwarded <;> simp [removeNotice, withFifo, fifoOf, chargeAttempt, h]

/-- A failed attempt as one move: the head of the queue is charged, or gone. -/
theorem failAttempt_evolves (slot : Slot) (s : State) : Evolves ⟨counts, clears, stops, true, true⟩ s (failAttempt slot s) := by
  unfold failAttempt
  simp only [changePort, State.withPort_port, fifoOf_charged_head]
  have charged (below : ∀ n, (chargeAttempt (fifoOf s.port slot)).head? = some n → n.attempts < 3) :
      Evolves ⟨counts, clears, stops, true, true⟩ s (s.withPort (withFifo s.port slot (chargeAttempt (fifoOf s.port slot)))) :=
    port s _ (fun fits => fits.charge slot below) (withFifo_state _ _ _)
  split
  · rename_i n head
    refine ite (fun _ => ?_) fun below => charged fun n' h => ?_
    · rw [removeNotice_charged]
      exact Evolves.trans (port s (removeNotice slot s.port) (fun fits => fits.removeNotice slot)
        (removeNotice_state _ _)) (dropNotice_evolves _)
    · rw [head] at h
      cases h
      omega
  · rename_i none_left
    exact charged fun n h => by rw [none_left] at h; cases h

theorem bitError_evolves (s : State) : Evolves ⟨counts, clears, stops, true, true⟩ s (bitError s) := by
  unfold bitError
  split
  · have stopped := stopSending_evolves (counts := counts) (clears := clears) (stops := stops) s
    exact Evolves.trans (ite (fun _ => stopped) fun _ => stopped.trans (failAttempt_evolves _ _)) (raiseScore_evolves 8 _)
  · exact refl s

/-! ## Receiving -/

theorem holdUnitTakes_evolves (station : Nat) (payload : Payload) (s : State) :
    Evolves ⟨counts, clears, stops, true, true⟩ s (holdUnitTakes station payload s) := by
  cases payload with
  | hold reasons => exact holderHolds_evolves station reasons s
  | release => exact holderReleases_evolves station s
  | mark m => exact refl s
  | position p => exact refl s

theorem feedUnitTakes_evolves (f : RxFrame) (payload : Payload) (s : State) :
    Evolves ⟨counts, clears, stops, talks, true⟩ s (feedUnitTakes f payload s) := by
  unfold feedUnitTakes
  split
  · exact feedTakes_evolves _ _ _ _ s
  · exact refl s

theorem takeFrame_evolves (f : RxFrame) (s : State) : Evolves ⟨counts, clears, stops, true, true⟩ s (takeFrame f s) :=
  (holdUnitTakes_evolves _ _ s).trans (feedUnitTakes_evolves f _ _)

theorem judgeReceived_evolves (early : Bool) (bits : List Bool) (s : State) :
    Evolves ⟨counts, clears, stops, true, true⟩ s (judgeReceived early bits s) := by
  unfold judgeReceived
  split
  · exact raiseScore_evolves 1 s
  · exact raiseScore_evolves 1 s
  · refine ite (fun _ => ?_) fun _ => ite (fun _ => ?_) fun _ => (lowerScore_evolves s).trans (takeFrame_evolves _ _)
    · exact (changePort_evolves _ s (fun slot => by cases slot <;> rfl) rfl rfl rfl).trans (lowerScore_evolves _)
    · exact (changePort_evolves _ s (fun slot => by cases slot <;> rfl) rfl rfl rfl).trans (raiseScore_evolves 8 _)

theorem receiveFrame_evolves (early : Bool) (bits : List Bool) (s : State) :
    Evolves ⟨counts, clears, stops, true, true⟩ s (receiveFrame early bits s) := by
  unfold receiveFrame
  refine ite (fun _ => ?_) fun _ => refl s
  have ended := changePort_evolves (counts := counts) (clears := clears) (stops := stops) (frameOver bits) s
    (fun slot => by cases slot <;> rfl) rfl rfl rfl
  exact ite (fun _ => ended) fun _ => ended.trans (judgeReceived_evolves early bits _)

theorem positionExpiry_evolves (s : State) : Evolves ⟨counts, clears, stops, true, true⟩ s (positionExpiry s) := by
  unfold positionExpiry
  refine ite (fun _ => ?_) fun _ => refl s
  exact (offerClass3_evolves _ s).trans (changePort_evolves _ _ (fun slot => by cases slot <;> rfl) rfl rfl rfl)

end Sys2Proof.Machine
end

section
/-! PROOFS. The commands of the table as chains of moves, RESTART RUN among them. -/

namespace Sys2Proof.Machine

-- One theorem after another: side by side they need more threads than the memory of the check allows.
set_option Elab.async false

open Evolves

variable {bounded : Prop} {scope : Scope}

/-! ## The link -/

variable {counts clears stops talks : Bool}

theorem countLost_evolves (len : Nat) (s : State) : Evolves ⟨counts, clears, stops, true, true⟩ s (countLost len s) :=
  ite (fun _ => link s _ rfl) fun _ => refl s

theorem placeReply_evolves (len : Nat) (r : Reply) (s : State) :
    Evolves ⟨counts, clears, stops, true, true⟩ s (placeReply len r s) := link s _ rfl

theorem finishFrame_evolves (len : Nat) (r : Reply) (s : State) : Evolves ⟨counts, clears, stops, true, true⟩ s (finishFrame len r s) :=
  (countLost_evolves len s).trans (placeReply_evolves _ _ _)

theorem refuseFrame_evolves (len : Nat) (code : ResultCode) (s : State) :
    Evolves ⟨counts, clears, stops, true, true⟩ s (refuseFrame len code s) :=
  Evolves.trans (link s { s.link with badFrames := tally s.link.badFrames } rfl) (finishFrame_evolves _ _ _)

theorem clearTallies_evolves (s : State) : Evolves ⟨counts, clears, stops, true, true⟩ s (clearTallies s) := by
  have length := length_evolves (scope := ⟨counts, clears, stops, true, true⟩) (s := s)
    (v := { s.length with reverseClamps := 0, wheelSkips := 0 }) rfl rfl rfl
  refine Evolves.trans (Evolves.trans (Evolves.trans (Evolves.trans (length.trans
    (waiting _ { s.marks with duplicates := 0, merges := 0, lost := 0, discarded := 0 } (List.Sublist.refl _)))
    (feedTally_evolves _ { s.feeds with far := 0, badMarks := 0 } rfl rfl))
    (withBuilder_evolves_of_eq _ { s.builder with repeatedCuts := 0, unrecordedCuts := 0 } rfl rfl le_rfl rfl))
    (port _ { s.port with dropped := 0, unfit := 0, ownNumber := 0 } (fun fits => ?_) rfl)) (link _ _ rfl)
  exact fits.congr (fun slot => by cases slot <;> rfl) rfl rfl rfl

theorem readTallies_evolves (len : Nat) (s : State) : Evolves ⟨counts, clears, stops, true, true⟩ s (readTallies len s) :=
  (clearTallies_evolves s).trans (finishFrame_evolves _ _ _)

theorem readTalliesAfterLoss_evolves (len : Nat) (s : State) : Evolves ⟨counts, clears, stops, true, true⟩ s (readTalliesAfterLoss len s) :=
  ((countLost_evolves len s).trans (clearTallies_evolves _)).trans (placeReply_evolves _ _ _)

/-! ## Holds, lots and marks -/

theorem holdCommand_evolves {counts : Bool} (fill : Nat) (own : HoldSet) (s : State) (cut : hasReason .cut own = hasReason .cut s.hold.own)
    (full : hasReason .logFull own = hasReason .logFull s.hold.own) : Evolves ⟨counts, true, true, true, true⟩ s (holdCommand fill own s) :=
  ite (fun _ => (setReasons_evolves (scope := ⟨counts, true, true, true, true⟩) s own cut full
    ⟨nofun, nofun⟩).trans (finishFrame_evolves _ _ _)) fun _ => finishFrame_evolves _ _ s

theorem insertRecord_length (r : LotRecord) (table : List LotRecord) :
    (insertRecord r table).length ≤ table.length + 1 ∧
      ((∃ q ∈ table, q.tag = r.tag) → table.Pairwise (fun a b => a.tag < b.tag) →
        (insertRecord r table).length = table.length) := by
  induction table with
  | nil => exact ⟨le_rfl, by rintro ⟨q, hq, -⟩; cases hq⟩
  | cons v rest ih =>
    unfold insertRecord
    split
    · refine ⟨Nat.succ_le_succ ih.1, fun ⟨q, hq, tag⟩ sorted => ?_⟩
      obtain rfl | hq := List.mem_cons.1 hq
      · omega
      · exact congrArg Nat.succ (ih.2 ⟨q, hq, tag⟩ (List.pairwise_cons.1 sorted).2)
    · split
      · exact ⟨by simp, fun _ _ => by simp⟩
      · refine ⟨by simp, fun ⟨q, hq, tag⟩ sorted => ?_⟩
        obtain rfl | hq := List.mem_cons.1 hq
        · omega
        · have := (List.pairwise_cons.1 sorted).1 q hq
          omega

theorem storeRecord_evolves (r : LotRecord) (s : State)
    (room : heldRecord s.lots.table r.tag = none → s.lots.table.length < lotPlaces) :
    Evolves scope s (storeRecord r s) :=
  lots s _ fun ⟨places, sorted⟩ => by
    refine ⟨?_, insertRecord_sorted r _ sorted⟩
    obtain ⟨le, same⟩ := insertRecord_length r s.lots.table
    cases held : heldRecord s.lots.table r.tag with
    | none => exact le.trans (room held)
    | some q =>
      have tag := List.find?_some held
      exact (same ⟨q, List.mem_of_find?_eq_some held, by simpa using tag⟩ sorted).trans_le places

/-- A LOT LOAD that is not refused finds its tag held or a place free. -/
theorem room_of_loadRefusal {r : LotRecord} {s : State} (h : loadRefusal r s = none)
    (held : heldRecord s.lots.table r.tag = none) : s.lots.table.length < lotPlaces := by
  unfold loadRefusal at h
  split at h
  · cases h
  · split at h
    · cases h
    · split at h
      · cases h
      · split at h
        · cases h
        · split at h
          · cases h
          · rename_i full
            exact not_le.1 fun le => full ⟨held, le⟩

theorem loadRecord_evolves (r : LotRecord) (s : State) (taken : loadRefusal r s = none) :
    Evolves scope s (loadRecord r s) :=
  have stored := storeRecord_evolves (scope := scope) r s (room_of_loadRefusal taken)
  ite (fun _ => stored.trans (rebuild_evolves r _)) fun _ => stored

theorem execLotLoad_evolves (r : LotRecord) (fill : Nat) (s : State) :
    ∃ t, execLotLoad r fill s = .next t ∧ ∀ counts, Evolves ⟨counts, true, true, true, true⟩ s t := by
  unfold execLotLoad
  dsimp only
  split
  · exact ⟨_, rfl, fun _ => finishFrame_evolves _ _ s⟩
  · exact ⟨_, rfl, fun _ => (loadRecord_evolves r s ‹_›).trans (finishFrame_evolves _ _ _)⟩

theorem execLotDrop_evolves (tag fill : Nat) (s : State) :
    ∃ t, execLotDrop tag fill s = .next t ∧ ∀ counts, Evolves ⟨counts, true, true, true, true⟩ s t := by
  unfold execLotDrop
  dsimp only
  split
  · exact ⟨_, rfl, fun _ => finishFrame_evolves _ _ s⟩
  · refine ⟨_, rfl, fun _ => Evolves.trans (lots s _ fun ⟨places, sorted⟩ => ?_) (finishFrame_evolves _ _ _)⟩
    exact ⟨(List.length_filter_le _ _).trans places, sorted.sublist List.filter_sublist⟩

theorem execLotStart_evolves (tag fill : Nat) (s : State) :
    ∃ t, execLotStart tag fill s = .next t ∧ ∀ counts, Evolves ⟨counts, true, true, true, true⟩ s t := by
  unfold execLotStart
  dsimp only
  split
  · exact ⟨_, rfl, fun _ => finishFrame_evolves _ _ s⟩
  · refine ⟨_, rfl, fun _ => Evolves.trans (fun bounded b => ?_) (finishFrame_evolves _ _ _)⟩
    exact raiseAny_path _ s (fun h => (b h).count) b

/-- What MARK PLACE raises is cut to the ceiling. -/
theorem placeCheck_le {kind offset detail : Nat} {s : State} {r : Raising}
    (h : placeCheck kind offset detail s = .ok r) : r.position ≤ maxCount := by
  unfold placeCheck at h
  split at h
  · cases h
  · split at h
    · cases h
    · dsimp only at h
      split at h
      · cases h
      · cases h
        exact min_le_right _ _

theorem execMarkPlace_evolves (kind offset detail fill : Nat) (s : State) :
    ∃ t, execMarkPlace kind offset detail fill s = .next t ∧ ∀ counts, Evolves ⟨counts, true, true, true, true⟩ s t := by
  unfold execMarkPlace
  dsimp only
  split
  · exact ⟨_, rfl, fun _ => finishFrame_evolves _ _ s⟩
  · rename_i r checked
    refine ⟨_, rfl, fun _ => Evolves.trans (fun bounded b => ?_) (finishFrame_evolves _ _ _)⟩
    exact raiseAny_path r s (fun _ => placeCheck_le checked) b

/-! ## The coil builder's commands -/

theorem room_of_appendCheck {lotTag target count packageByte : Nat} {s : State} {e : PlanEntry}
    (h : appendCheck lotTag target count packageByte s = .ok e) : s.builder.plan.length < planPlaces := by
  unfold appendCheck at h
  split at h
  · cases h
  · split at h
    · cases h
    · split at h
      · cases h
      · split at h
        · cases h
        · omega

theorem appendEntry_evolves (e : PlanEntry) (s : State) (room : s.builder.plan.length < planPlaces) :
    Evolves scope s (appendEntry e s) := by
  have appended : Evolves scope s (s.withBuilder { s.builder with plan := s.builder.plan ++ [e] }) :=
    builder s _
      { bits := id, off := fun _ => id, log := id, coil := CoilKept.coilLaw (by exact .of_eq id (fun _ => id) rfl)
        plan := fun _ => by simpa using room }
  unfold appendEntry
  exact ite (fun _ => appended.trans (lateTake_evolves _)) fun _ => appended

theorem execPlanAppend_evolves (lotTag target count packageByte fill : Nat) (s : State) :
    ∃ t, execPlanAppend lotTag target count packageByte fill s = .next t ∧ ∀ counts, Evolves ⟨counts, true, true, true, true⟩ s t := by
  unfold execPlanAppend
  dsimp only
  split
  · exact ⟨_, rfl, fun _ => finishFrame_evolves _ _ s⟩
  · exact ⟨_, rfl, fun _ => (appendEntry_evolves _ s (room_of_appendCheck ‹_›)).trans (finishFrame_evolves _ _ _)⟩

theorem clearPlan_evolves (s : State) : Evolves scope s (clearPlan s) :=
  Evolves.trans (withBuilder_evolves_of_eq s { s.builder with plan := [] } rfl rfl (Nat.zero_le _) rfl)
    (changeCoil_evolves _ _ fun _ => ⟨rfl, rfl, id⟩)

theorem takeCoil_evolves {c : Coil} {rest : List Coil} (s : State) (log : s.builder.log = c :: rest) :
    Evolves scope s (takeCoil rest s) := by
  have sub : ∀ d ∈ rest, d ∈ s.builder.log := fun d hd => log ▸ List.mem_cons_of_mem c hd
  have shorter : rest.length < s.builder.log.length := by rw [log]; exact Nat.lt_succ_self _
  unfold takeCoil
  refine ite (fun due => ?_) fun _ => ?_
  · exact enterCutting_evolves s rest (.inr due) sub fun fits => shorter.trans_le fits.1
  · exact builder s _
      { bits := id, off := fun _ => id
        log := fun fits => ⟨shorter.le.trans fits.1, fun cutting => shorter.trans (fits.2 cutting)⟩
        coil := CoilKept.coilLaw (by exact .of_eq id sub rfl), plan := id }

theorem execCoilTake_evolves (fill : Nat) (s : State) :
    ∃ t, execCoilTake fill s = .next t ∧ ∀ counts, Evolves ⟨counts, true, true, true, true⟩ s t := by
  unfold execCoilTake
  dsimp only
  split
  · exact ⟨_, rfl, fun _ => finishFrame_evolves _ _ s⟩
  · exact ⟨_, rfl, fun _ => (takeCoil_evolves s ‹_›).trans (finishFrame_evolves _ _ _)⟩

theorem orderCut_evolves (s : State) : Evolves scope s (orderCut s) :=
  ite (fun building => startReached_evolves _ s building) fun _ => changeCauses_evolves _ s

/-- The builder goes between CUTTING and CUT_FAILED, keeping its hold reason and the free place of its log. -/
theorem changeCutting_evolves (s : State) (state : BuilderState) (timer : Option Nat)
    (old : s.builder.state = .cutting ∨ s.builder.state = .cutFailed) (new : state = .cutting ∨ state = .cutFailed) :
    Evolves scope s (s.withBuilder { s.builder with state := state, cutTimer := timer }) := by
  have notOff : s.builder.state ≠ .off := by rcases old with h | h <;> rw [h] <;> nofun
  have notOff' : state ≠ .off := by rcases new with h | h <;> rw [h] <;> nofun
  have notDue : s.builder.state ≠ .cutDue := by rcases old with h | h <;> rw [h] <;> nofun
  have notDue' : state ≠ .cutDue := by rcases new with h | h <;> rw [h] <;> nofun
  refine builder s _
    { bits := fun ⟨cut, full⟩ => ⟨?_, ?_⟩, off := fun _ h => absurd h notOff
      log := fun fits => ⟨fits.1, fun _ => fits.2 old⟩
      coil := CoilKept.coilLaw (by exact .of_eq (fun h => absurd h notOff') (fun _ => id) rfl), plan := id }
  · rw [cut]
    exact ⟨fun _ => new, fun _ => old⟩
  · rw [full]
    exact ⟨fun h => absurd h notDue, fun h => absurd h notDue'⟩

theorem cutFailed_of_notFailed {s : State} (h : notFailed s ≠ true) : s.builder.state = .cutFailed := by
  have := h
  unfold notFailed at this
  by_contra ne
  simp [ne] at this

/-! ## The profile -/

/-- The inputs and the feed slots of a profile keep their number. -/
def SameSlots (p q : Profile) : Prop := q.inputs.length = p.inputs.length ∧ q.feeds.length = p.feeds.length

theorem feedField_slots {p q : Profile} {index : Nat} {c : Option FeedConfig} (h : feedField p index c = some q) :
    SameSlots p q := by
  unfold feedField at h
  split at h
  · obtain ⟨v, -, rfl⟩ := Option.map_eq_some_iff.1 h
    exact ⟨rfl, List.length_set⟩
  · cases h

theorem inputField_slots {p q : Profile} {index : Nat} {a : Option Assignment} (h : inputField p index a = some q) :
    SameSlots p q := by
  unfold inputField at h
  split at h
  · obtain ⟨v, -, rfl⟩ := Option.map_eq_some_iff.1 h
    exact ⟨List.length_set, rfl⟩
  · cases h

theorem unindexed_slots {p q : Profile} {index : Nat} {o : Option Profile} (slots : ∀ q, o = some q → SameSlots p q)
    (h : unindexed index o = some q) : SameSlots p q := by
  unfold unindexed at h
  split at h
  · exact slots q h
  · cases h

theorem unindexed_map_slots {α : Type} {p q : Profile} {index : Nat} {o : Option α} {f : α → Profile}
    (h : unindexed index (o.map f) = some q) (slots : ∀ v, SameSlots p (f v)) : SameSlots p q :=
  unindexed_slots (fun q hq => by
    obtain ⟨v, -, rfl⟩ := Option.map_eq_some_iff.1 hq
    exact slots v) h

theorem writeBase_slots {p q : Profile} {bit value : Nat} (h : writeBase p bit value = some q) : SameSlots p q := by
  unfold writeBase at h
  split at h
  · split at h
    · cases h
      exact ⟨rfl, rfl⟩
    · cases h
  · cases h

theorem writeProfile_slots {p q : Profile} {field index value : Nat} (h : writeProfile p field index value = some q) :
    SameSlots p q := by
  unfold writeProfile at h
  split at h
  case h_3 | h_4 | h_5 | h_6 => exact feedField_slots h
  case h_10 | h_11 | h_12 | h_13 => exact inputField_slots h
  case h_22 =>
    refine unindexed_slots (fun q hq => ?_) h
    split at hq
    · cases hq
      exact ⟨rfl, rfl⟩
    · cases hq
  case h_24 =>
    split at h
    · exact unindexed_slots (fun q hq => writeBase_slots hq) h
    · cases h
  all_goals exact unindexed_map_slots h fun _ => ⟨rfl, rfl⟩

theorem execProfileSet_evolves (field index value fill : Nat) (s : State) :
    ∃ t, execProfileSet field index value fill s = .next t ∧ ∀ counts, Evolves ⟨counts, true, true, true, true⟩ s t := by
  unfold execProfileSet
  dsimp only
  split
  · exact ⟨_, rfl, fun _ => finishFrame_evolves _ _ s⟩
  · split
    · rename_i written
      obtain ⟨inputs, feeds⟩ := writeProfile_slots written
      exact ⟨_, rfl, fun _ => Evolves.trans (of_path fun _ => .profile s _ inputs feeds) (finishFrame_evolves _ _ _)⟩
    · exact ⟨_, rfl, fun _ => finishFrame_evolves _ _ s⟩

/-! ## RESTART RUN -/

theorem building_of_restartRefusal {s : State} (h : restartRefusal s = none) :
    s.builder.state = .off ∨ s.builder.state = .building ∧ s.builder.log.length < logPlaces := by
  unfold restartRefusal at h
  split at h
  · cases h
  · split at h
    · cases h
    · cases h
    · cases h
    · split at h
      · exact .inr ⟨‹_›, ‹_›⟩
      · cases h
    · exact .inl ‹_›

theorem builderEnds_evolves (s : State) (taken : restartRefusal s = none) : Evolves scope s (builderEnds s) := by
  unfold builderEnds
  refine ite (fun _ => refl s) fun atWork => ?_
  obtain ⟨building, room⟩ := (building_of_restartRefusal taken).resolve_left atWork
  refine Evolves.trans (closeCoil_building_evolves (oneCause .restart) false false s building room) ?_
  exact withBuilder_evolves_of_eq _ _ rfl rfl le_rfl rfl

theorem closeCoil_current (causes : CauseSet) (lateCut confirmed : Bool) (s : State) :
    (closeCoil causes lateCut confirmed s).builder.current = none := by
  unfold closeCoil
  split
  · assumption
  · rfl

/-- Once its builder has ended its coil for a restart, the part has none. -/
theorem builderEnds_current {s t : State} (builder : t.builder = (builderEnds s).builder) (law : CoilLaw t) :
    t.builder.current = none := by
  by_cases off : s.builder.state = .off
  · refine law.1.2.2.2.2 ?_
    rw [builder, builderEnds, if_pos off, off]
  · rw [builder, builderEnds, if_neg off]
    exact closeCoil_current _ _ _ _

theorem PortFits.shift {p : BusPort} (fits : PortFits p) (f : Queued → Queued) (same : ∀ q, (f q).attempts = q.attempts) :
    PortFits { p with class1 := p.class1.map f, own := p.own.map f, forwarded := p.forwarded.map f } := by
  obtain ⟨class1, own, forwarded, attempts, rest⟩ := fits
  have mapped : ∀ slot, ∀ q ∈ (fifoOf p slot).map f, q.attempts < 3 := fun slot q hq => by
    obtain ⟨q', hq', rfl⟩ := List.mem_map.1 hq
    rw [same]
    exact attempts slot q' hq'
  refine ⟨by simpa using class1, by simpa using own, by simpa using forwarded, fun slot q hq => ?_, rest⟩
  cases slot
  case class1 => exact mapped .class1 q hq
  case own => exact mapped .own q hq
  case forwarded => exact mapped .forwarded q hq
  case class0 => exact attempts .class0 q hq
  case class3 => exact attempts .class3 q hq

theorem portRestart_evolves (s : State) : Evolves scope s (portRestart s) :=
  offer s _ (fun fits => fits.shift (shiftStamp s.length.runCount) fun _ => rfl) rfl

theorem discardMarks_evolves (s : State) : Evolves scope s (discardMarks s) := waiting s _ (List.nil_sublist _)

/-- The count goes back to 0 while no coil is open. -/
theorem lengthRestart_evolves (s : State) (closed : CoilLaw s → s.builder.current = none) :
    Evolves .free s (lengthRestart s) := by
  refine Evolves.trans (of_path fun _ => ?_) (removeHold_evolves .countLimit _ nofun nofun)
  refine .length s { s.length with runCount := 0, fraction := 0, saturated := false, speed := 0, sampleBase := 0 } nofun
    (fun _ _ => ⟨Nat.zero_le _, by simp⟩) fun law => law.withLength (Nat.zero_le _) (by simp) ?_ nofun
  rw [State.floor, closed law]

/-! ### The loss list after a restart -/

/-- The OPEN intervals of LOST feeds, added one after another, make a list that fits. -/
theorem foldl_addOpen_fits {table : List FeedEntry} (four : table.length ≤ 4) (lost : List (FeedEntry × Nat))
    (held : List LossInterval) (fits : ListFits (LostIn table) held) (inTable : ∀ p ∈ lost, LostIn table p.2)
    (indices : lost.Pairwise fun p q => p.2 ≠ q.2)
    (fresh : ∀ p ∈ lost, ∀ j ∈ held, j.high = none → j.feed ≠ some p.2) (room : held.length + lost.length ≤ 4) :
    ListFits (LostIn table) (lost.foldl (fun held p => addOpen (openInterval p.2 p.1.reach) held) held) := by
  induction lost generalizing held with
  | nil => exact fits
  | cons p rest ih =>
    obtain ⟨others, indices⟩ := List.pairwise_cons.1 indices
    have short : held.length < lossPlaces := by
      rw [List.length_cons] at room
      have : lossPlaces = 8 := rfl
      omega
    have added : addOpen (openInterval p.2 p.1.reach) held = insertInterval (openInterval p.2 p.1.reach) held :=
      congrArg _ (if_pos short)
    rw [List.foldl_cons]
    refine ih (addOpen (openInterval p.2 p.1.reach) held) (fits.addOpen (LostIn.lt_four four) rfl rfl
      (inTable p List.mem_cons_self) (fresh p List.mem_cons_self))
      (fun q hq => inTable q (List.mem_cons_of_mem _ hq)) indices (fun q hq j hj opened => ?_) ?_
    · rw [added] at hj
      obtain rfl | hj := (mem_insertInterval _ _ _).1 hj
      · exact fun e => others q hq (Option.some.inj e)
      · exact fresh q (List.mem_cons_of_mem _ hq) j hj opened
    · rw [added, (insertInterval_perm _ held).length_eq]
      simp only [List.length_cons] at room ⊢
      omega

theorem feedsRestart_evolves (s : State) : Evolves ⟨counts, clears, stops, talks, true⟩ s (feedsRestart s) :=
  of_path fun _ => .feeds s _ (fun _ _ fits => by
    obtain ⟨four, -⟩ := (feedsFit_iff _).1 fits
    refine (feedsFit_iff _).2 ⟨by simpa using four, ?_⟩
    have stays : ∀ f, LostIn s.feeds.table f → LostIn (s.feeds.table.map fun e => { e with lastLocal := 0 }) f := by
      rintro f ⟨e, he, state⟩
      exact ⟨{ e with lastLocal := 0 }, by rw [List.getElem?_map, he]; rfl, state⟩
    refine (foldl_addOpen_fits four _ [] ⟨.nil, Nat.zero_le _, nofun, nofun, .nil⟩ (fun p hp => ?_) ?_ (fun _ _ _ h => by
      cases h) ?_).mono stays
    · obtain ⟨mem, state⟩ := List.mem_filter.1 hp
      exact ⟨p.1, (List.mem_zipIdx_iff_getElem?.1 mem), by simpa using state⟩
    · refine List.Pairwise.sublist List.filter_sublist ?_
      have := List.nodup_zipIdx_map_snd s.feeds.table
      rw [List.Nodup, List.pairwise_map] at this
      exact this
    · have := List.length_filter_le (fun p : FeedEntry × Nat => decide (p.1.state = .lost)) s.feeds.table.zipIdx
      simp only [List.length_zipIdx] at this
      simpa using this.trans four) nofun

/-- What a RESTART RUN does once the run count is back at 0, up to the opening of the new coil. -/
theorem monitorsRestart_evolves (s : State) :
    Evolves ⟨counts, clears, stops, talks, true⟩ s (knotRestart (layRestart (feedsRestart (senseRestart s)))) :=
  (((senseRestart_evolves s).trans (feedsRestart_evolves _)).trans (layRestart_evolves _)).trans (knotRestart_evolves _)

theorem monitorsRestart_frame (s : State) {bs : List Block} (h : Within [.sense, .feeds, .lay, .knot] bs := by decide) :
    SameOutside bs s (knotRestart (layRestart (feedsRestart (senseRestart s)))) :=
  (((senseRestart_frame s).trans (feedsRestart_frame _)).trans (layRestart_frame _)).trans (knotRestart_frame _)
    |>.mono h

/-- The builder that a RESTART RUN's new coil opens in is the one that its old coil has closed in. -/
theorem restartedBuilder_eq (s : State) :
    (knotRestart (layRestart (feedsRestart (senseRestart (lengthRestart (discardMarks (portRestart (builderEnds s)))))))).builder =
      (builderEnds s).builder := by
  have monitors := monitorsRestart_frame (bs := [.sense, .feeds, .lay, .knot])
    (lengthRestart (discardMarks (portRestart (builderEnds s))))
  have length := lengthRestart_frame (discardMarks (portRestart (builderEnds s))) (bs := [.length, .hold, .port])
  exact (monitors .builder (by decide)).trans (length .builder (by decide))

/-- The faults carried over a RESTART RUN come from the record of the coil that it closes. -/
theorem restart_carriedFits (s : State) (atWork : s.builder.state ≠ .off) :
    CarriedFits (carriedFaults s) (builderEnds s) := by
  have fits := carriedFaults_fit (oneCause .restart) false false s s rfl
  unfold builderEnds
  rw [if_neg atWork]
  exact fits

theorem builderEnds_state (s : State) : (builderEnds s).builder.state = s.builder.state := by
  unfold builderEnds
  split
  · rfl
  · exact closeCoil_state _ _ _ _

theorem builderBegins_evolves (s t : State) (builder : t.builder = (builderEnds s).builder) :
    Evolves scope t (builderBegins (carriedFaults s) t) := by
  refine ite (fun _ => refl t) fun atWork => openCoil_evolves 0 _ t atWork (Nat.zero_le _) ?_
  have fits := restart_carriedFits s (by rwa [builder, builderEnds_state] at atWork)
  unfold CarriedFits at *
  rwa [builder]

theorem restart_rises (s : State) (taken : restartRefusal s = none) : Rises s (restart s) := by
  have ended := ((builderEnds_evolves (scope := .free) s taken).trans (portRestart_evolves _)).trans
    (discardMarks_evolves _)
  have back := ended.trans (lengthRestart_evolves _ (builderEnds_current (s := s) rfl))
  have marks : (lengthRestart (discardMarks (portRestart (builderEnds s)))).marks.marks = [] :=
    congrArg MarkList.marks ((lengthRestart_frame _ (bs := [.length, .hold, .port])) .marks (by decide))
  have begun (counts : Bool) := (monitorsRestart_evolves (counts := counts) (clears := true) (stops := true) (talks := true) _).trans
    (builderBegins_evolves s _ (restartedBuilder_eq s))
  exact ⟨back.trans (begun true), fun within _ => (begun false).ahead (back.within within) fun m hm => by
    rw [marks] at hm
    cases hm⟩

theorem execRestartRun_rises (fill : Nat) (s : State) : ∃ t, execRestartRun fill s = .next t ∧ Rises s t := by
  unfold execRestartRun
  dsimp only
  split
  · exact ⟨_, rfl, .of_evolves fun _ => finishFrame_evolves _ _ s⟩
  · exact ⟨_, rfl, (restart_rises s ‹_›).trans (.of_evolves fun _ => finishFrame_evolves _ _ _)⟩

/-! ## Timers and pins -/

theorem execSpeedSample_evolves (s : State) :
    ∃ t, execSpeedSample s = .next t ∧ ∀ counts, Evolves ⟨counts, true, true, true, true⟩ s t := by
  refine ⟨_, rfl, fun _ => ?_⟩
  split
  · exact ite (fun _ => changeLength_evolves _ s rfl rfl rfl) fun _ => refl s
  · exact refl s

theorem execCutTimerExpiry_evolves (s : State) :
    ∃ t, execCutTimerExpiry s = .next t ∧ ∀ counts, Evolves ⟨counts, true, true, true, true⟩ s t :=
  ⟨_, rfl, fun _ => ite (fun due => (changeCutting_evolves s .cutFailed none (.inl due.1) (.inr rfl)).trans
    (latch_evolves _ _)) fun _ => refl s⟩

theorem trim_evolves (s : State) (v : TrimOutput) (law : TrimLaw s → TrimLaw (s.withTrim v)) :
    Evolves scope s (s.withTrim v) := of_path fun _ => .trim s v law

theorem trimHigh_mem {s : State} (law : TrimInRange s.lay) : 100 ≤ trimHigh s ∧ trimHigh s ≤ 900 := by
  unfold trimHigh
  obtain ⟨low, high⟩ := law
  split <;> omega

theorem startTrimPeriod_evolves (t : Nat) (s : State) : Evolves scope s (startTrimPeriod t s) :=
  trim_evolves s _ fun ⟨low, high, _⟩ => ⟨low, high, fun _ => trimHigh_mem ⟨low, high⟩⟩

theorem execTrimPeriodStart_evolves (s : State) :
    ∃ t, execTrimPeriodStart s = .next t ∧ ∀ counts, Evolves ⟨counts, true, true, true, true⟩ s t := by
  refine ⟨_, rfl, fun _ => ?_⟩
  split
  · exact ite (fun _ => startTrimPeriod_evolves _ s) fun _ => refl s
  · exact refl s

theorem execTrimHighTimeEnd_evolves (s : State) :
    ∃ t, execTrimHighTimeEnd s = .next t ∧ ∀ counts, Evolves ⟨counts, true, true, true, true⟩ s t :=
  ⟨_, rfl, fun _ => ite (fun _ => trim_evolves s _ id) fun _ => refl s⟩

theorem execWheelChange_settles (wha whb : Bool) (s : State) :
    ∃ t, execWheelChange wha whb s = .next t ∧ Settles s t := by
  have moved := fun counts => pins_evolves (scope := ⟨counts, true, true, true, true⟩) s { s.pins with wha := wha, whb := whb } rfl
  exact ⟨_, rfl, .ite (fun _ => .after moved rfl rfl (decodeWheel_settles _ _)) fun _ => (Rises.of_evolves moved).settles⟩

/-! ## Every command but the resets and the close of the profile -/

/-- Whether a command enters RUNNING or resets the station. -/
def Starts : Instr → Prop
  | .powerOnReset | .reset _ | .profileClose _ => True
  | _ => False

theorem settles_of_evolves {s : State} {o : Host.Outcome State Fault Refusal}
    (h : ∃ t, o = .next t ∧ ∀ counts, Evolves ⟨counts, true, true, true, true⟩ s t) : ∃ t, o = .next t ∧ Settles s t :=
  have ⟨t, ht, e⟩ := h
  ⟨t, ht, (Rises.of_evolves e).settles⟩

theorem settles_of_rises {s : State} {o : Host.Outcome State Fault Refusal} (h : ∃ t, o = .next t ∧ Rises s t) :
    ∃ t, o = .next t ∧ Settles s t :=
  have ⟨t, ht, e⟩ := h
  ⟨t, ht, e.settles⟩

theorem execBadFrame_evolves (bytes : List Byte) (s : State) :
    ∃ t, execBadFrame bytes s = .next t ∧ ∀ counts, Evolves ⟨counts, true, true, true, true⟩ s t := by
  refine ⟨_, rfl, fun _ => ?_⟩
  split
  · exact refuseFrame_evolves _ _ s
  · exact refuseFrame_evolves _ _ s
  · exact refl s

theorem execAttentionEnable_evolves (mask fill : Nat) (s : State) :
    ∃ t, execAttentionEnable mask fill s = .next t ∧ ∀ counts, Evolves ⟨counts, true, true, true, true⟩ s t := by
  unfold execAttentionEnable
  dsimp only
  split
  · rename_i conditions _
    exact ⟨_, rfl, fun _ => (link s { s.link with enabled := conditions } rfl).trans (finishFrame_evolves _ _ _)⟩
  · exact ⟨_, rfl, fun _ => finishFrame_evolves _ _ s⟩

theorem execTalliesRead_evolves (fill : Nat) (s : State) :
    ∃ t, execTalliesRead fill s = .next t ∧ ∀ counts, Evolves ⟨counts, true, true, true, true⟩ s t :=
  ⟨_, rfl, fun _ => ite (fun _ => ite (fun _ => (useOrder_evolves s).trans (readTalliesAfterLoss_evolves _ _)) fun _ =>
    (useOrder_evolves s).trans (readTallies_evolves _ _)) fun _ => readTallies_evolves _ s⟩

theorem execPlanClear_evolves (fill : Nat) (s : State) :
    ∃ t, execPlanClear fill s = .next t ∧ ∀ counts, Evolves ⟨counts, true, true, true, true⟩ s t := by
  unfold execPlanClear
  dsimp only
  split
  · exact ⟨_, rfl, fun _ => finishFrame_evolves _ _ s⟩
  · exact ⟨_, rfl, fun _ => (clearPlan_evolves s).trans (finishFrame_evolves _ _ _)⟩

theorem execCutOrder_evolves (fill : Nat) (s : State) :
    ∃ t, execCutOrder fill s = .next t ∧ ∀ counts, Evolves ⟨counts, true, true, true, true⟩ s t := by
  unfold execCutOrder
  dsimp only
  split
  · exact ⟨_, rfl, fun _ => finishFrame_evolves _ _ s⟩
  · exact ⟨_, rfl, fun _ => (orderCut_evolves s).trans (finishFrame_evolves _ _ _)⟩

theorem execCutRetry_evolves (fill : Nat) (s : State) :
    ∃ t, execCutRetry fill s = .next t ∧ ∀ counts, Evolves ⟨counts, true, true, true, true⟩ s t := by
  unfold execCutRetry
  dsimp only
  split
  · exact ⟨_, rfl, fun _ => finishFrame_evolves _ _ s⟩
  · exact ⟨_, rfl, fun _ => (changeCutting_evolves s .cutting (some s.now) (.inr (cutFailed_of_notFailed ‹_›))
      (.inl rfl)).trans (finishFrame_evolves _ _ _)⟩

theorem execCutConfirm_evolves (fill : Nat) (s : State) :
    ∃ t, execCutConfirm fill s = .next t ∧ ∀ counts, Evolves ⟨counts, true, true, true, true⟩ s t := by
  unfold execCutConfirm
  dsimp only
  split
  · exact ⟨_, rfl, fun _ => finishFrame_evolves _ _ s⟩
  · exact ⟨_, rfl, fun _ => (settleCut_evolves false true s (.inr (cutFailed_of_notFailed ‹_›))).trans
      (finishFrame_evolves _ _ _)⟩

theorem withoutStops_cut (own : HoldSet) : hasReason .cut (withoutStops own) = hasReason .cut own := by
  simp only [withoutStops]
  rw [hasReason_remove_other _ _ _ (by decide), hasReason_remove_other _ _ _ (by decide),
    hasReason_remove_other _ _ _ (by decide)]

theorem withoutStops_logFull (own : HoldSet) : hasReason .logFull (withoutStops own) = hasReason .logFull own := by
  simp only [withoutStops]
  rw [hasReason_remove_other _ _ _ (by decide), hasReason_remove_other _ _ _ (by decide),
    hasReason_remove_other _ _ _ (by decide)]

theorem exec_settles (i : Instr) (s : State) (ordinary : ¬Starts i) : ∃ t, exec i s = .next t ∧ Settles s t := by
  cases i with
  | powerOnReset => exact absurd trivial ordinary
  | reset fill => exact absurd trivial ordinary
  | profileClose fill => exact absurd trivial ordinary
  | wheelChange wha whb => exact execWheelChange_settles wha whb s
  | senseRawChange input level => exact settles_of_rises ⟨_, rfl, rawChange_rises _ level s⟩
  | senseFilterExpiry input => exact settles_of_rises ⟨_, rfl, filterExpiry_rises _ s⟩
  | spinRawChange level => exact settles_of_evolves ⟨_, rfl, fun _ => spinChange_evolves level s⟩
  | spinFilterExpiry => exact settles_of_evolves ⟨_, rfl, fun _ => spinExpiry_evolves s⟩
  | speedSample => exact settles_of_evolves (execSpeedSample_evolves s)
  | feedTimeout feed => exact settles_of_evolves ⟨_, rfl, fun _ => feedSilent_evolves _ s⟩
  | cutTimerExpiry => exact settles_of_evolves (execCutTimerExpiry_evolves s)
  | trimPeriodStart => exact settles_of_evolves (execTrimPeriodStart_evolves s)
  | trimHighTimeEnd => exact settles_of_evolves (execTrimHighTimeEnd_evolves s)
  | holdWireChange level => exact settles_of_evolves ⟨_, rfl, fun _ => wireChange_evolves level s⟩
  | holdDebounceExpiry => exact settles_of_evolves ⟨_, rfl, fun _ => wireExpiry_evolves s⟩
  | positionTimerExpiry => exact settles_of_evolves ⟨_, rfl, fun _ => positionExpiry_evolves s⟩
  | idle => exact settles_of_evolves ⟨_, rfl, fun _ => idleGap_evolves s⟩
  | frameStart => exact settles_of_evolves ⟨_, rfl, fun _ => startFrame_evolves s⟩
  | arbitrationLost => exact settles_of_evolves ⟨_, rfl, fun _ => loseArbitration_evolves s⟩
  | bitError => exact settles_of_evolves ⟨_, rfl, fun _ => bitError_evolves s⟩
  | frameSent => exact settles_of_evolves ⟨_, rfl, fun _ => frameSent_evolves s⟩
  | frameReceived early bits => exact settles_of_evolves ⟨_, rfl, fun _ => receiveFrame_evolves early bits s⟩
  | badFrame bytes => exact settles_of_evolves (execBadFrame_evolves bytes s)
  | attentionRead fill =>
    exact settles_of_evolves ⟨_, rfl, fun _ => Evolves.trans (of_path fun _ => .latch s 0 ⟨nofun, nofun⟩) (finishFrame_evolves _ _ _)⟩
  | attentionEnable mask fill => exact settles_of_evolves (execAttentionEnable_evolves mask fill s)
  | talliesRead fill => exact settles_of_evolves (execTalliesRead_evolves fill s)
  | restartRun fill => exact settles_of_rises (execRestartRun_rises fill s)
  | profileSet field index value fill => exact settles_of_evolves (execProfileSet_evolves field index value fill s)
  | lotLoad record fill => exact settles_of_evolves (execLotLoad_evolves record fill s)
  | lotDrop tag fill => exact settles_of_evolves (execLotDrop_evolves tag fill s)
  | lotStart tag fill => exact settles_of_evolves (execLotStart_evolves tag fill s)
  | hold fill =>
    exact settles_of_evolves ⟨_, rfl, fun _ => holdCommand_evolves fill _ s
      (hasReason_give_other .orderedHold .cut _ nofun) (hasReason_give_other .orderedHold .logFull _ nofun)⟩
  | release fill =>
    exact settles_of_evolves ⟨_, rfl, fun _ => holdCommand_evolves fill _ s
      (hasReason_remove_other .orderedHold .cut _ nofun) (hasReason_remove_other .orderedHold .logFull _ nofun)⟩
  | stopAck fill =>
    exact settles_of_evolves ⟨_, rfl, fun _ =>
      holdCommand_evolves fill _ s (withoutStops_cut _) (withoutStops_logFull _)⟩
  | planAppend lotTag target count packageByte fill =>
    exact settles_of_evolves (execPlanAppend_evolves lotTag target count packageByte fill s)
  | planClear fill => exact settles_of_evolves (execPlanClear_evolves fill s)
  | coilTake fill => exact settles_of_evolves (execCoilTake_evolves fill s)
  | cutOrder fill => exact settles_of_evolves (execCutOrder_evolves fill s)
  | cutRetry fill => exact settles_of_evolves (execCutRetry_evolves fill s)
  | cutConfirm fill => exact settles_of_evolves (execCutConfirm_evolves fill s)
  | markPlace kind offset detail fill => exact settles_of_evolves (execMarkPlace_evolves kind offset detail fill s)
  | status | lotRead | planRead | coilPeek | markRead | lossRead | feedRead | sectionRead | rowRead =>
    exact settles_of_evolves ⟨_, rfl, fun _ => finishFrame_evolves _ _ s⟩

end Sys2Proof.Machine
end

section
/-! PROOFS. The step laws (the tier 3 statements): the entry to RUNNING, the station resets, and what every step keeps. -/

namespace Sys2Proof.Machine

-- One theorem after another: side by side they need more threads than the memory of the check allows.
set_option Elab.async false

open Evolves

variable {scope : Scope}

/-! ## The entry to RUNNING -/

theorem lengthEntry_evolves (s : State) : Evolves scope s (lengthEntry s) := changeLength_evolves _ s rfl rfl rfl

theorem lotsEntry_evolves (s : State) : Evolves scope s (lotsEntry s) := lots s _ id

/-! ### What the opening of a coil leaves of the port -/

theorem setReasons_portState (own : HoldSet) (s : State) : (setReasons own s).port.state = s.port.state := by
  unfold setReasons
  split <;> rfl

theorem goOn_portState (s : State) : (goOn s).port.state = s.port.state := by
  unfold goOn enterCutting
  split
  · exact setReasons_portState _ _
  · exact setReasons_portState _ _

theorem startReached_portState (given : CauseSet) (s : State) : (startReached given s).port.state = s.port.state := by
  unfold startReached
  split
  · rfl
  · exact goOn_portState _

theorem cutTest_portState (s : State) : (cutTest s).port.state = s.port.state := by
  unfold cutTest
  split
  · split
    · split
      · exact startReached_portState _ _
      · rfl
    · rfl
  · rfl

theorem portState_of_frame {bs : List Block} {s t : State} (same : SameOutside bs s t) (out : .port ∉ bs := by decide) :
    t.port.state = s.port.state := congrArg BusPort.state (same .port out)

theorem openCoil_portState (start : Nat) (carried : List Event) (s : State) :
    (openCoil start carried s).port.state = s.port.state := by
  unfold openCoil
  rw [cutTest_portState]
  exact portState_of_frame (bs := [.builder, .link]) ((((SameOutside.withBuilder s _).trans (takeHead_frame _)).trans
    (changeRecord_frame _ _)).trans (lossTest_frame _ _))

theorem builderEntry_portState (s : State) : (builderEntry s).port.state = s.port.state := by
  unfold builderEntry
  split
  · exact openCoil_portState _ _ _
  · rfl

/-! ### The entry, block by block -/

/-- The entry up to the feed table. -/
def untilFeeds (s : State) : State := lotsEntry (senseEntry (lengthEntry (s.withStation .running)))

/-- The entry from the feed table to the coil builder. -/
def untilBuilder (s : State) : State := knotEntry (startTrimPeriod s.now (layEntry s))

theorem enterRunning_eq (s : State) :
    enterRunning s = portEntry (builderEntry (untilBuilder (feedsEntry (untilFeeds s)))) := rfl

theorem untilFeeds_evolves (s : State) : Evolves scope s (untilFeeds s) :=
  Evolves.trans (Evolves.trans (Evolves.trans (of_path fun _ => .running s) (lengthEntry_evolves _))
    (senseEntry_evolves _)) (lotsEntry_evolves _)

theorem untilFeeds_frame (s : State) : SameOutside [.station, .length, .sense, .lots] s (untilFeeds s) :=
  (((SameOutside.withStation s _).trans (lengthEntry_frame _)).trans (senseEntry_frame _)).trans (SameOutside.withLots _ _)

theorem untilBuilder_evolves (s : State) : Evolves scope s (untilBuilder s) :=
  ((layEntry_evolves s).trans (startTrimPeriod_evolves _ _)).trans (knotEntry_evolves _)

theorem untilBuilder_frame (s : State) : SameOutside [.lay, .trim, .knot] s (untilBuilder s) :=
  ((layEntry_frame s).trans (SameOutside.withTrim _ _)).trans (knotEntry_frame _)

/-- A law that every chain of moves keeps holds after the entry, where it bears the new feed table, the builder that starts
work, and the port that starts to listen. -/
theorem enterRunning_kept {L : State → Prop} (s : State) (along : ∀ t u, Evolves .still t u → L t → L u)
    (feeds : ∀ t, t.feeds = s.feeds → t.profile = s.profile → L t → L (feedsEntry t))
    (begins : ∀ t, t.station = .running → t.builder = s.builder → L t → L (t.withBuilder { t.builder with state := .building }))
    (enters : ∀ t, t.station = .running → t.port.state = s.port.state → L t → L (portEntry t)) (held : L s) :
    L (enterRunning s) := by
  have early := untilFeeds_frame s
  have all : SameOutside [.station, .length, .sense, .lots, .feeds, .lay, .trim, .knot] s
      (untilBuilder (feedsEntry (untilFeeds s))) :=
    ((early.mono (by decide)).trans (feedsEntry_frame _)).trans ((untilBuilder_frame _).mono (by decide))
  rw [enterRunning_eq]
  have station : (untilFeeds s).station = .running :=
    (((lengthEntry_frame (s.withStation .running) (bs := [.length, .sense, .lots])).trans (senseEntry_frame _)).trans
      (SameOutside.withLots _ _)) .station (by decide)
  have atBuilder : L (untilBuilder (feedsEntry (untilFeeds s))) :=
    along _ _ (untilBuilder_evolves _) (feeds _ (early .feeds (by decide)) (early .profile (by decide))
      (along _ _ (untilFeeds_evolves s) held))
  have builder : (untilBuilder (feedsEntry (untilFeeds s))).builder = s.builder :=
    all .builder (by decide)
  have port : (untilBuilder (feedsEntry (untilFeeds s))).port = s.port :=
    all .port (by decide)
  have running : (untilBuilder (feedsEntry (untilFeeds s))).station = .running :=
    (((feedsEntry_frame _ (bs := [.feeds, .lay, .trim, .knot])).trans ((untilBuilder_frame _).mono (by decide)))
      .station (by decide)).trans station
  generalize untilBuilder (feedsEntry (untilFeeds s)) = t at atBuilder builder port running
  have begun : L (t.withBuilder { t.builder with state := .building }) → L (openCoil 0 []
      (t.withBuilder { t.builder with state := .building })) :=
    along _ _ (openCoil_evolves 0 [] _ nofun (Nat.zero_le _) (.inl rfl))
  refine enters _ ?_ ?_ ?_
  · exact ((builderEntry_frame t (bs := [.builder, .hold, .port, .link])) .station (by decide)).trans running
  · rw [builderEntry_portState, port]
  · unfold builderEntry
    split
    · exact begun (begins t running builder atBuilder)
    · exact atBuilder

/-! ## Laws that every step keeps -/

/-- A law is kept by every step where a chain of moves keeps it, the station reset meets it, and so does the entry to
RUNNING; the laws of the count, where it needs them, are a premise. -/
structure Kept (L : State → Prop) (premise : State → Prop) : Prop where
  along : ∀ {s t}, Settles s t → premise s → L s → L t
  resets : ∀ s, L s → L (stationReset s)
  enters : ∀ s, s.station = .openState → premise s → L s → L (enterRunning s)

theorem Kept.exec {L premise : State → Prop} (kept : Kept L premise)
    (link : ∀ s v, L s → L (s.withLink v)) (i : Instr) {s t : State} (h : exec i s = .next t) (p : premise s) (held : L s) :
    L t := by
  by_cases starts : Starts i
  · cases i with
    | powerOnReset =>
      cases h
      exact kept.resets s held
    | reset fill =>
      cases h
      exact link _ _ (kept.resets s held)
    | profileClose fill =>
      have framed : ∀ u r, L u → L (finishFrame (frameLength 0 fill) r u) := fun u r hu => by
        rw [finishFrame_eq]
        exact link _ _ hu
      change execProfileClose fill s = .next t at h
      unfold execProfileClose at h
      dsimp only at h
      split at h
      · cases h
        exact framed s _ held
      · rename_i opened
        have station : s.station = .openState := by
          cases station : s.station with
          | openState => rfl
          | running => simp [State.isRunning, station] at opened
        split at h
        · cases h
          exact framed s _ held
        · obtain rfl := Host.Outcome.next.inj h
          exact framed _ _ (kept.enters s station p held)
    | _ => exact absurd starts id
  · obtain ⟨u, hu, settles⟩ := exec_settles i s starts
    rw [hu] at h
    cases h
    exact kept.along settles p held

theorem Kept.step {L premise : State → Prop} (kept : Kept L premise) (link : ∀ s v, L s → L (s.withLink v))
    (pending : ∀ s v, premise s → premise (s.withPending v)) {s t : State} (h : step s = .next t) (p : premise s)
    (held : L s) : L t := by
  have settles (v : State) (e : ∀ counts, Evolves ⟨counts, true, true, true, true⟩ s v) : L v :=
    kept.along (Rises.of_evolves e).settles p held
  unfold Machine.step at h
  split at h
  · rename_i c rest _
    exact kept.exec link c h (pending s rest p) (settles (s.withPending rest) fun _ => of_path fun _ => .pending s rest)
  · unfold idle at h
    split at h
    · exact kept.exec link _ h p held
    · cases h
      exact settles _ fun _ => of_path fun _ => .now s (s.now + 1)

/-! ## The laws at a station reset -/

theorem reset_portLaw : PortLaw State.reset :=
  ⟨Nat.zero_le _, Nat.zero_le _, Nat.zero_le _, (fun slot q hq => by cases slot <;> cases hq), Nat.zero_le _, Nat.zero_le _,
    fun _ => (by decide : 0 < muteScore), fun _ => rfl⟩

theorem reset_countLaw : CountLaw State.reset := ⟨Nat.zero_le _, (by decide : 0 < 65536), le_rfl, nofun, fun _ => rfl⟩

theorem reset_coilLaw : CoilLaw State.reset := ⟨reset_countLaw, nofun, nofun⟩

theorem reset_cutReasonLaw : CutReasonLaw State.reset := by
  have none_given (r : HoldReason) : ¬hasReason r State.reset.hold.own = true := by cases r <;> decide
  exact ⟨⟨fun h => absurd h (none_given _), nofun⟩, ⟨fun h => absurd h (none_given _), nofun⟩, fun _ => rfl⟩

theorem reset_logLaw : LogLaw State.reset := ⟨Nat.zero_le _, nofun⟩

theorem reset_placesLaw : PlacesLaw State.reset :=
  ⟨rfl, rfl, rfl, rfl, Nat.zero_le _, .nil, Nat.zero_le _, Nat.zero_le _, .nil, Nat.zero_le _⟩

theorem reset_trimLaw : TrimLaw State.reset := ⟨(by decide : (-400 : Int) ≤ 0), (by decide : (0 : Int) ≤ 400), nofun⟩

theorem reset_markLaw : MarkLaw State.reset := ⟨.nil, nofun, Nat.zero_le _, Nat.zero_le _, .nil, .nil, nofun, nofun⟩

theorem reset_openLaw : OpenLaw State.reset := fun _ =>
  ⟨rfl, rfl, rfl, rfl, rfl, rfl, rfl, rfl, rfl, rfl, rfl, rfl, rfl⟩

theorem feedsFit_reset : FeedsFit State.reset.feeds := ⟨Nat.zero_le _, .nil, Nat.zero_le _, nofun, .nil, nofun, .nil⟩

theorem lossLaw_iff (s : State) : LossLaw s ↔ OpenLaw s ∧ s.profile.feeds.length = 4 ∧ FeedsFit s.feeds := Iff.rfl

/-- Settles O5, law by law. -/
theorem resetStateKeepsEveryLaw : Obligations.ResetStateKeepsEveryLaw :=
  ⟨reset_openLaw, reset_countLaw, reset_markLaw, reset_cutReasonLaw, reset_logLaw, reset_coilLaw, reset_placesLaw,
    reset_portLaw, reset_trimLaw, (lossLaw_iff _).2 ⟨reset_openLaw, rfl, feedsFit_reset⟩⟩

/-! ## The step laws -/

theorem portLaw_kept : Kept PortLaw fun _ => True where
  along settles _ := (settles.path False nofun).portLaw
  resets _ _ := reset_portLaw
  enters s opened _ held := by
    have silent : s.port.state = .silent := held.2.2.2.2.2.2.2 opened
    refine enterRunning_kept s (fun _ _ e => (e False nofun).portLaw) (fun _ _ _ => id) (fun _ _ _ => id)
      (fun t running state held => ?_) held
    obtain ⟨class1, own, forwarded, attempts, serial, score, muted, -⟩ := held
    refine ⟨class1, own, forwarded, attempts, serial, score, fun _ => muted ?_, fun h => ?_⟩
    · rw [state, silent]
      nofun
    · rw [(portEntry_frame t (bs := [.port])) .station (by decide), running] at h
      cases h

/-- Settles O52, by the moves of the port: each keeps its queues, attempts and score within their limits. -/
theorem portLawIsKept : Obligations.PortLawIsKept := fun _ _ held h =>
  portLaw_kept.step (fun _ _ => id) (fun _ _ => id) h trivial held

theorem coilLaw_kept : Kept CoilLaw fun _ => True where
  along settles _ := (settles.path False nofun).coilLaw
  resets _ _ := reset_coilLaw
  enters s _ _ held :=
    enterRunning_kept s (fun _ _ e => (e False nofun).coilLaw) (fun _ _ _ => id)
      (fun _ _ _ => CoilKept.coilLaw (.of_eq nofun (fun _ => id) rfl)) (fun _ _ _ => id) held

/-- Settles O42, by the moves of the length unit and of the coil builder. -/
theorem countAndCoilLawIsKept : Obligations.CountAndCoilLawIsKept := fun _ _ held h =>
  coilLaw_kept.step (fun _ _ => id) (fun _ _ => id) h trivial held

theorem cutAndLogLaw_kept : Kept (fun s => CutReasonLaw s ∧ LogLaw s) fun _ => True where
  along settles _ := (settles.path False nofun).cutLaws
  resets _ _ := ⟨reset_cutReasonLaw, reset_logLaw⟩
  enters s opened _ held := by
    have off : s.builder.state = .off := held.1.2.2 opened
    refine enterRunning_kept s (fun _ _ e => (e False nofun).cutLaws) (fun _ _ _ => id)
      (fun t running builder held => ?_) (fun _ _ _ => id) held
    obtain ⟨⟨cut, full, -⟩, log, -⟩ := held
    rw [builder, off] at cut full
    exact ⟨⟨cut.trans (by simp), full.trans (by simp), fun h => by cases running.symm.trans h⟩, log, by simp⟩

/-- Settles O41, by the moves of the coil builder with its own hold reasons. -/
theorem cutAndLogLawIsKept : Obligations.CutAndLogLawIsKept := fun _ _ cut log h =>
  cutAndLogLaw_kept.step (fun _ _ => id) (fun _ _ => id) h trivial ⟨cut, log⟩

theorem placesAndTrimLaw_kept : Kept (fun s => PlacesLaw s ∧ TrimLaw s) fun _ => True where
  along settles _ := fun ⟨places, trim⟩ =>
    ⟨(settles.path False nofun).placesLaw places, (settles.path False nofun).trimLaw trim⟩
  resets _ held := ⟨⟨held.1.1, reset_placesLaw.2⟩, reset_trimLaw⟩
  enters s _ _ held :=
    enterRunning_kept (L := fun s => PlacesLaw s ∧ TrimLaw s) s (fun _ _ e held =>
      ⟨(e False nofun).placesLaw held.1, (e False nofun).trimLaw held.2⟩)
      (fun _ _ _ => id) (fun _ _ _ => id) (fun _ _ _ => id) held

/-- Settles O60, by the moves of the collections and of the trim correction. -/
theorem placesAndTrimLawIsKept : Obligations.PlacesAndTrimLawIsKept := fun _ _ places trim h =>
  placesAndTrimLaw_kept.step (fun _ _ => id) (fun _ _ => id) h trivial ⟨places, trim⟩

theorem counted_of_laws {s : State} (marks : MarkLaw s) (count : CountLaw s) : Counted s :=
  ⟨bounded_of_laws marks count, count.2.2.1⟩

theorem Settles.markLaw {s t : State} (settles : Settles s t) (count : CountLaw s) (marks : MarkLaw s) : MarkLaw t :=
  have counted := counted_of_laws marks count
  ((settles.path (Counted s) id).bounded_kept counted counted.within).markLaw (settles.ahead counted marks.2.1)

theorem markLaw_kept : Kept MarkLaw CountLaw where
  along settles := settles.markLaw
  resets _ _ := reset_markLaw
  enters s _ count marks := by
    have kept : Bounded (enterRunning s) ∧ Ahead (enterRunning s) :=
      enterRunning_kept (L := fun t => Bounded t ∧ Ahead t) s
        (fun _ _ e held => ⟨e.within held.1, e.ahead held.1 held.2⟩) (fun _ _ _ held =>
          ⟨⟨held.1.count, held.1.fraction, held.1.fit, held.1.marks, held.1.knot⟩, held.2⟩)
        (fun _ _ _ held => ⟨⟨held.1.count, held.1.fraction, held.1.fit, held.1.marks, held.1.knot⟩, held.2⟩)
        (fun _ _ _ held => ⟨⟨held.1.count, held.1.fraction, held.1.fit, held.1.marks, held.1.knot⟩, held.2⟩)
        ⟨bounded_of_laws marks count, marks.2.1⟩
    exact kept.1.markLaw kept.2

/-- Settles O24, by the moves of the mark list: a mark is stored ahead of the run count only, and an advance fires every
mark that the new run count reaches. -/
theorem markLawIsKept : Obligations.MarkLawIsKept := fun _ _ marks count h =>
  markLaw_kept.step (fun _ _ => id) (fun _ _ => id) h count marks

end Sys2Proof.Machine
end

section
/-! PROOFS. What every command leaves alone: the clock and the queue (O2), the profile and the station state (O3), the
working state in OPEN (O30, O59). -/

namespace Sys2Proof.Machine

-- One theorem after another: side by side they need more threads than the memory of the check allows.
set_option Elab.async false

open SameOutside

/-! ## The blocks a command may change -/

/-- Every block but the station, the profile, the clock and the queue of commands. -/
abbrev workingBlocks : List Block :=
  [.pins, .length, .sense, .marks, .feeds, .lay, .trim, .knot, .lots, .builder, .hold, .port, .link, .orders]

/-- A host command has ended its frame, and has changed the part only where it is answered DONE. -/
def Answered (bs : List Block) (s : State) (o : Host.Outcome State Fault Refusal) : Prop :=
  ∃ len r t, o = .next (finishFrame len r t) ∧ SameOutside bs s t ∧ (r.code = .done ∨ t = s)

namespace Answered

variable {bs : List Block} {s t : State}

theorem done (len : Nat) (data : List Byte) (same : SameOutside bs s t) :
    Answered bs s (.next (finishFrame len (Machine.done data) t)) := ⟨len, _, t, rfl, same, .inl rfl⟩

/-- A command that changes nothing but the reply. -/
theorem read (len : Nat) (r : Reply) : Answered bs s (.next (finishFrame len r s)) :=
  ⟨len, r, s, rfl, SameOutside.refl _ _, .inr rfl⟩

end Answered

theorem execProfileSet_answered (field index value fill : Nat) (s : State) :
    Answered [.profile] s (execProfileSet field index value fill s) := by
  unfold execProfileSet
  dsimp only
  split
  · exact .read _ _
  · split
    · exact .done _ _ (withProfile _ _)
    · exact .read _ _

theorem execProfileClose_answered (fill : Nat) (s : State) : Answered entryBlocks s (execProfileClose fill s) := by
  unfold execProfileClose
  dsimp only
  split
  · exact .read _ _
  · split
    · exact .read _ _
    · exact .done _ _ (enterRunning_frame s)

theorem execHoldCommand_answered (fill : Nat) (own : HoldSet) (s : State) :
    Answered workingBlocks s (.next (holdCommand fill own s)) := by
  unfold holdCommand
  dsimp only
  split
  · exact .done _ _ (setReasons_frame own s)
  · exact .read _ _

/-- Every host command but the resets, TALLIES READ and the profile's two commands. -/
theorem exec_answered (c : Instr) (s : State) (host : isHostCommand c = true) (noReset : ¬isStationReset c)
    (noTallies : ∀ fill, c ≠ .talliesRead fill) (noSet : ∀ f i v fill, c ≠ .profileSet f i v fill)
    (noClose : ∀ fill, c ≠ .profileClose fill) : Answered workingBlocks s (exec c s) := by
  cases c with
  | reset fill => exact absurd trivial noReset
  | talliesRead fill => exact absurd rfl (noTallies fill)
  | profileSet f i v fill => exact absurd rfl (noSet f i v fill)
  | profileClose fill => exact absurd rfl (noClose fill)
  | attentionRead fill => exact .done _ _ (withLink _ _)
  | attentionEnable mask fill =>
    change Answered _ _ (execAttentionEnable mask fill s)
    unfold execAttentionEnable
    dsimp only
    split
    · exact .done _ _ (withLink _ _)
    · exact .read _ _
  | restartRun fill =>
    change Answered _ _ (execRestartRun fill s)
    unfold execRestartRun
    dsimp only
    split
    · exact .read _ _
    · exact .done _ _ (restart_frame s)
  | lotLoad r fill =>
    change Answered _ _ (execLotLoad r fill s)
    unfold execLotLoad
    dsimp only
    split
    · exact .read _ _
    · exact .done _ _ (loadRecord_frame r s)
  | lotDrop tag fill =>
    change Answered _ _ (execLotDrop tag fill s)
    unfold execLotDrop
    dsimp only
    split
    · exact .read _ _
    · exact .done _ _ (withLots _ _)
  | lotStart tag fill =>
    change Answered _ _ (execLotStart tag fill s)
    unfold execLotStart
    dsimp only
    split
    · exact .read _ _
    · exact .done _ _ (raiseAny_frame _ s)
  | hold fill => exact execHoldCommand_answered fill _ s
  | release fill => exact execHoldCommand_answered fill _ s
  | stopAck fill => exact execHoldCommand_answered fill _ s
  | planAppend a b d e fill =>
    change Answered _ _ (execPlanAppend a b d e fill s)
    unfold execPlanAppend
    dsimp only
    split
    · exact .read _ _
    · exact .done _ _ (appendEntry_frame _ s)
  | planClear fill =>
    change Answered _ _ (execPlanClear fill s)
    unfold execPlanClear
    dsimp only
    split
    · exact .read _ _
    · exact .done _ _ (clearPlan_frame s)
  | coilTake fill =>
    change Answered _ _ (execCoilTake fill s)
    unfold execCoilTake
    dsimp only
    split
    · exact .read _ _
    · exact .done _ _ (takeCoil_frame _ s)
  | cutOrder fill =>
    change Answered _ _ (execCutOrder fill s)
    unfold execCutOrder
    dsimp only
    split
    · exact .read _ _
    · exact .done _ _ (orderCut_frame s)
  | cutRetry fill =>
    change Answered _ _ (execCutRetry fill s)
    unfold execCutRetry
    dsimp only
    split
    · exact .read _ _
    · exact .done _ _ (withBuilder _ _)
  | cutConfirm fill =>
    change Answered _ _ (execCutConfirm fill s)
    unfold execCutConfirm
    dsimp only
    split
    · exact .read _ _
    · exact .done _ _ (settleCut_frame _ _ s)
  | markPlace k o d fill =>
    change Answered _ _ (execMarkPlace k o d fill s)
    unfold execMarkPlace
    dsimp only
    split
    · exact .read _ _
    · exact .done _ _ (raiseAny_frame _ s)
  | status | lotRead | planRead | coilPeek | markRead | lossRead | feedRead | sectionRead | rowRead => exact .read _ _
  | _ => cases host

/-- What a TALLIES READ changes, in either order of a lost reply. -/
theorem execTalliesRead_frame (fill : Nat) (s : State) :
    ∃ t, execTalliesRead fill s = .next t ∧ replyCode t = some .done ∧
      SameOutside [.orders, .length, .marks, .feeds, .builder, .port, .link] s t := by
  refine ⟨_, rfl, ?_, ?_⟩
  · split
    · split <;> rfl
    · rfl
  · split
    · split
      · exact ((useOrder_frame s).trans (countLost_frame _ _)).trans ((clearTallies_frame _).trans (placeReply_frame _ _ _))
      · exact (useOrder_frame s).trans ((clearTallies_frame _).trans (finishFrame_frame _ _ _))
    · exact (clearTallies_frame s).trans (finishFrame_frame _ _ _)

/-- What an event of the pins, the time base, the bus or a bad frame changes. -/
theorem exec_event_frame (c : Instr) (s : State) (event : isHostCommand c = false) (noReset : ¬isStationReset c) :
    ∃ t, exec c s = .next t ∧ SameOutside workingBlocks s t := by
  cases c with
  | powerOnReset => exact absurd trivial noReset
  | wheelChange wha whb =>
    refine ⟨_, rfl, ?_⟩
    split
    · exact (withPins s _).trans (decodeWheel_frame _ _)
    · exact withPins s _
  | senseRawChange input level => exact ⟨_, rfl, rawChange_frame _ level s⟩
  | senseFilterExpiry input => exact ⟨_, rfl, filterExpiry_frame _ s⟩
  | spinRawChange level => exact ⟨_, rfl, spinChange_frame level s⟩
  | spinFilterExpiry => exact ⟨_, rfl, spinExpiry_frame s⟩
  | speedSample =>
    refine ⟨_, rfl, ?_⟩
    split
    · exact SameOutside.ite (changeLength_frame _ s) (refl _ _)
    · exact refl _ _
  | feedTimeout feed => exact ⟨_, rfl, feedSilent_frame _ s⟩
  | cutTimerExpiry => exact ⟨_, rfl, SameOutside.ite ((withBuilder s _).trans (latch_frame _ _)) (refl _ _)⟩
  | trimPeriodStart =>
    refine ⟨_, rfl, ?_⟩
    split
    · exact SameOutside.ite (withTrim s _) (refl _ _)
    · exact refl _ _
  | trimHighTimeEnd => exact ⟨_, rfl, SameOutside.ite (withTrim s _) (refl _ _)⟩
  | holdWireChange level => exact ⟨_, rfl, wireChange_frame level s⟩
  | holdDebounceExpiry => exact ⟨_, rfl, wireExpiry_frame s⟩
  | positionTimerExpiry => exact ⟨_, rfl, positionExpiry_frame s⟩
  | idle => exact ⟨_, rfl, idleGap_frame s⟩
  | frameStart => exact ⟨_, rfl, startFrame_frame s⟩
  | arbitrationLost => exact ⟨_, rfl, loseArbitration_frame s⟩
  | bitError => exact ⟨_, rfl, bitError_frame s⟩
  | frameSent => exact ⟨_, rfl, frameSent_frame s⟩
  | frameReceived early bits => exact ⟨_, rfl, receiveFrame_frame early bits s⟩
  | badFrame bytes =>
    refine ⟨_, rfl, ?_⟩
    split
    · exact refuseFrame_frame _ _ s
    · exact refuseFrame_frame _ _ s
    · exact refl _ _
  | _ => cases event

theorem Answered.frame {bs : List Block} {s : State} {o : Host.Outcome State Fault Refusal} (answered : Answered bs s o)
    {cs : List Block} (within : Within (.link :: bs) cs := by decide) : ∃ t, o = .next t ∧ SameOutside cs s t := by
  obtain ⟨len, r, t, rfl, same, -⟩ := answered
  exact ⟨_, rfl, sameOutside_finishFrame len r same within⟩

/-- Every command but a station reset, PROFILE SET and PROFILE CLOSE leaves the station, the profile, the clock and the
queue. -/
theorem exec_frame (c : Instr) (s : State) (noReset : ¬isStationReset c)
    (noSet : ∀ f i v fill, c ≠ .profileSet f i v fill) (noClose : ∀ fill, c ≠ .profileClose fill) :
    ∃ t, exec c s = .next t ∧ SameOutside workingBlocks s t := by
  cases host : isHostCommand c with
  | false => exact exec_event_frame c s host noReset
  | true =>
    by_cases tallies : ∃ fill, c = .talliesRead fill
    · obtain ⟨fill, rfl⟩ := tallies
      obtain ⟨t, ht, -, same⟩ := execTalliesRead_frame fill s
      exact ⟨t, ht, same.mono (by decide)⟩
    · exact (exec_answered c s host noReset (fun fill e => tallies ⟨fill, e⟩) noSet noClose).frame

/-! ## The queue and the clock -/

/-- Settles O1: a step takes the queue's front. -/
theorem stepTakesTheFirstCommand : Obligations.StepTakesTheFirstCommand := by
  intro c rest s pending
  rw [step, pending]

/-- A command completes, and leaves the queue and the clock. -/
theorem exec_pending_now (c : Instr) (s : State) :
    ∃ t, exec c s = .next t ∧ t.pending = s.pending ∧ t.now = s.now := by
  have of_frame {bs : List Block} {o : Host.Outcome State Fault Refusal} (h : ∃ t, o = .next t ∧ SameOutside bs s t)
      (pending : .pending ∉ bs) (now : .now ∉ bs) : ∃ t, o = .next t ∧ t.pending = s.pending ∧ t.now = s.now :=
    have ⟨t, ht, same⟩ := h
    ⟨t, ht, same .pending pending, same .now now⟩
  by_cases reset : isStationReset c
  · cases c with
    | powerOnReset => exact ⟨_, rfl, rfl, rfl⟩
    | reset fill => exact ⟨_, rfl, rfl, rfl⟩
    | _ => cases reset
  · by_cases set : ∃ f i v fill, c = .profileSet f i v fill
    · obtain ⟨f, i, v, fill, rfl⟩ := set
      exact of_frame (bs := [.profile, .link]) (execProfileSet_answered f i v fill s).frame (by decide) (by decide)
    · by_cases close : ∃ fill, c = .profileClose fill
      · obtain ⟨fill, rfl⟩ := close
        exact of_frame (bs := entryBlocks) (execProfileClose_answered fill s).frame (by decide) (by decide)
      · exact of_frame (bs := workingBlocks) (exec_frame c s reset (fun f i v fill e => set ⟨f, i, v, fill, e⟩)
          fun fill e => close ⟨fill, e⟩) (by decide) (by decide)

theorem dueAt_eq {due : Option Nat} {now : Nat} {event e : Instr} (h : dueAt due now event = some e) : e = event := by
  unfold dueAt at h
  split at h
  · exact (Option.some.inj h).symm
  · cases h

/-- What falls due is one of the nine expiries of the time base. -/
theorem dueEvent_cases {s : State} {e : Instr} (h : dueEvent s = some e) :
    (∃ i, e = .senseFilterExpiry i) ∨ e = .spinFilterExpiry ∨ e = .speedSample ∨ (∃ i, e = .feedTimeout i) ∨
      e = .cutTimerExpiry ∨ e = .trimPeriodStart ∨ e = .trimHighTimeEnd ∨ e = .holdDebounceExpiry ∨
      e = .positionTimerExpiry := by
  simp only [dueEvent, Option.orElse_eq_orElse, Option.orElse_eq_or, Option.or_eq_some_iff] at h
  rcases h with h | ⟨-, h | ⟨-, h | ⟨-, h | ⟨-, h | ⟨-, h | ⟨-, h | ⟨-, h | ⟨-, h⟩⟩⟩⟩⟩⟩⟩⟩
  case _ | _ | _ | _ | _ | _ | _ => simp [dueAt_eq h]
  · obtain ⟨i, -, hi⟩ := List.exists_of_findSome?_eq_some h
    exact .inl ⟨i, dueAt_eq hi⟩
  · obtain ⟨i, -, hi⟩ := List.exists_of_findSome?_eq_some h
    exact .inr (.inr (.inr (.inl ⟨i, dueAt_eq hi⟩)))

/-- Settles O2, by the frame of every command and the order of the expiries. -/
theorem everyCommandCompletes : Obligations.EveryCommandCompletes := by
  refine ⟨exec_pending_now, fun s empty => ⟨fun none_due => ?_, fun e due => ⟨?_, dueEvent_cases due⟩⟩⟩
  · simp only [step, empty, idle, none_due]
  · simp only [step, empty, idle, due]

/-! ## Station and profile -/

theorem isRunning_of_running {s : State} (running : s.station = .running) : s.isRunning = true := by
  simp [State.isRunning, running]

theorem isRunning_of_open {s : State} (opened : s.station = .openState) : s.isRunning = false := by
  simp [State.isRunning, opened]

theorem exec_profileSet_running (field index value fill : Nat) {s : State} (running : s.station = .running) :
    exec (.profileSet field index value fill) s = .next (finishFrame (frameLength 6 fill) (bare .wrongState) s) :=
  if_pos (isRunning_of_running running)

theorem exec_profileClose_running (fill : Nat) {s : State} (running : s.station = .running) :
    exec (.profileClose fill) s = .next (finishFrame (frameLength 0 fill) (bare .wrongState) s) :=
  if_pos (isRunning_of_running running)

theorem exec_profileClose_failed (fill : Nat) {s : State} {n : Nat} (opened : s.station = .openState)
    (failed : failedCheck s.profile = some n) : exec (.profileClose fill) s =
      .next (finishFrame (frameLength 0 fill) { code := .inconsistent, data := be 1 n } s) := by
  change execProfileClose fill s = _
  rw [execProfileClose]
  simp only [isRunning_of_open opened, failed]
  rfl

theorem exec_profileClose_passed (fill : Nat) {s : State} (opened : s.station = .openState)
    (passed : failedCheck s.profile = none) : exec (.profileClose fill) s =
      .next (finishFrame (frameLength 0 fill) (done []) (enterRunning s)) := by
  change execProfileClose fill s = _
  rw [execProfileClose]
  simp only [isRunning_of_open opened, passed]
  rfl

theorem enterRunning_station (s : State) : (enterRunning s).station = .running := by
  have later : SameOutside [.length, .sense, .feeds, .lay, .trim, .knot, .lots, .builder, .hold, .port, .link]
      (s.withStation .running) (enterRunning s) :=
    ((((((((lengthEntry_frame _).trans (senseEntry_frame _)).trans (withLots _ _)).trans (feedsEntry_frame _)).trans
      (layEntry_frame _)).trans (withTrim _ _)).trans (knotEntry_frame _)).trans (builderEntry_frame _)).trans
      (portEntry_frame _)
  exact later .station (by decide)

/-- Settles O3: the frame of every command but the profile's two takes in neither the profile nor the station. -/
theorem profileIsFrozenWhileRunning : Obligations.ProfileIsFrozenWhileRunning := by
  intro c s t h noReset
  by_cases set : ∃ f i v fill, c = .profileSet f i v fill
  · obtain ⟨f, i, v, fill, rfl⟩ := set
    obtain ⟨u, hu, same⟩ := (execProfileSet_answered f i v fill s).frame (cs := [.profile, .link])
    obtain rfl := Host.Outcome.next.inj (hu.symm.trans h)
    refine ⟨?_, .inl (same .station (by decide))⟩
    cases station : s.station with
    | openState => exact .inr ⟨rfl, f, i, v, fill, rfl⟩
    | running =>
      obtain rfl := Host.Outcome.next.inj (h.symm.trans (exec_profileSet_running f i v fill station))
      exact .inl ((finishFrame_frame _ _ s (bs := [.link])) .profile (by decide))
  · by_cases close : ∃ fill, c = .profileClose fill
    · obtain ⟨fill, rfl⟩ := close
      obtain ⟨u, hu, same⟩ := (execProfileClose_answered fill s).frame (cs := entryBlocks)
      obtain rfl := Host.Outcome.next.inj (hu.symm.trans h)
      refine ⟨.inl (same .profile (by decide)), ?_⟩
      have framed (r : Reply) (v : State) : (finishFrame (frameLength 0 fill) r v).station = v.station :=
        (finishFrame_frame _ _ v (bs := [.link])) .station (by decide)
      cases station : s.station with
      | running =>
        obtain rfl := Host.Outcome.next.inj (h.symm.trans (exec_profileClose_running fill station))
        exact .inl ((framed _ s).trans station)
      | openState =>
        cases check : failedCheck s.profile with
        | some n =>
          obtain rfl := Host.Outcome.next.inj (h.symm.trans (exec_profileClose_failed fill station check))
          exact .inl ((framed _ s).trans station)
        | none =>
          obtain rfl := Host.Outcome.next.inj (h.symm.trans (exec_profileClose_passed fill station check))
          exact .inr ⟨rfl, (framed _ _).trans (enterRunning_station s), rfl, fill, rfl⟩
    · obtain ⟨u, hu, same⟩ := exec_frame c s noReset (fun f i v fill e => set ⟨f, i, v, fill, e⟩)
        fun fill e => close ⟨fill, e⟩
      rw [hu] at h
      cases h
      exact ⟨.inl (same .profile (by decide)), .inl (same .station (by decide))⟩

/-! ## In OPEN -/

/-- The part stands in OPEN with every working block at its reset values. -/
structure AtRest (s : State) : Prop where
  station : s.station = .openState
  law : OpenLaw s

namespace AtRest

variable {s t : State} (rest : AtRest s)

include rest

theorem builder_off : s.builder.state = .off := congrArg CoilBuilder.state (rest.law rest.station).2.2.2.2.2.2.2.2.1

theorem lay_off : s.lay.state = .off := congrArg LayMonitor.state (rest.law rest.station).2.2.2.2.1

theorem knot_off : s.knot.state = .off := congrArg KnotMonitor.state (rest.law rest.station).2.2.2.2.2.2.1

theorem notRunning : s.isRunning = false := isRunning_of_open rest.station

/-- What is changed beside the blocks at rest and the hold unit leaves the part at rest. -/
theorem openLaw_of_frame (same : SameOutside [.profile, .pins, .link, .orders] s t) : OpenLaw t := by
  obtain ⟨length, sense, marks, feeds, lay, trim, knot, lots, builder, port, own, holders, uncounted⟩ :=
    rest.law rest.station
  have hold := same .hold (by decide)
  exact fun _ => ⟨(same .length (by decide)).trans length, (same .sense (by decide)).trans sense,
    (same .marks (by decide)).trans marks, (same .feeds (by decide)).trans feeds, (same .lay (by decide)).trans lay,
    (same .trim (by decide)).trans trim, (same .knot (by decide)).trans knot, (same .lots (by decide)).trans lots,
    (same .builder (by decide)).trans builder, (same .port (by decide)).trans port,
    (congrArg HoldUnit.own hold).trans own, (congrArg HoldUnit.holders hold).trans holders,
    (congrArg HoldUnit.uncounted hold).trans uncounted⟩

/-- What is changed of the hold unit, its own reasons and holders standing, leaves the part at rest. -/
theorem openLaw_of_hold (v : HoldUnit) (own : v.own = s.hold.own) (holders : v.holders = [])
    (uncounted : v.uncounted = false) : OpenLaw (s.withHold v) := by
  obtain ⟨length, sense, marks, feeds, lay, trim, knot, lots, builder, port, none_given, -⟩ := rest.law rest.station
  exact fun _ => ⟨length, sense, marks, feeds, lay, trim, knot, lots, builder, port, own.trans none_given, holders,
    uncounted⟩

end AtRest

end Sys2Proof.Machine
end

section
/-! PROOFS. In OPEN no command moves the working state (O30, O59), and what a station reset leaves (O4). -/

namespace Sys2Proof.Machine

-- One theorem after another: side by side they need more threads than the memory of the check allows.
set_option Elab.async false

open SameOutside

/-! ## Refusals in OPEN -/

theorem builderShut_of_open {s : State} (opened : s.station = .openState) : builderShut s = true := by
  simp [builderShut, isRunning_of_open opened]

theorem notFailed_of_open {s : State} (opened : s.station = .openState) : notFailed s = true := by
  simp [notFailed, isRunning_of_open opened]

/-- The commands that change working state are refused in OPEN (R175). -/
theorem exec_wrongState_of_open {record : LotRecord} {a b c' d fill : Nat} {c : Instr} {s : State}
    (opened : s.station = .openState)
    (command : c ∈ [.lotLoad record fill, .lotDrop a fill, .lotStart a fill, .planAppend a b c' d fill, .planClear fill,
      .cutOrder fill, .cutRetry fill, .cutConfirm fill, .markPlace a b c' fill, .hold fill, .release fill,
      .stopAck fill, .restartRun fill]) : ∃ len, exec c s = .next (finishFrame len (bare .wrongState) s) := by
  have notRunning := isRunning_of_open opened
  have shut := builderShut_of_open opened
  have held (own : HoldSet) : holdCommand fill own s = finishFrame (frameLength 0 fill) (bare .wrongState) s := by
    simp [holdCommand, notRunning]
  simp only [List.mem_cons, List.not_mem_nil, or_false] at command
  rcases command with rfl | rfl | rfl | rfl | rfl | rfl | rfl | rfl | rfl | rfl | rfl | rfl | rfl
  · refine ⟨frameLength 25 fill, ?_⟩
    change execLotLoad record fill s = _
    have refused : loadRefusal record s = some (bare .wrongState) := if_pos notRunning
    simp only [execLotLoad, refused]
  · refine ⟨frameLength 1 fill, ?_⟩
    change execLotDrop a fill s = _
    have refused : dropRefusal a s = some .wrongState := if_pos notRunning
    simp only [execLotDrop, refused]
  · refine ⟨frameLength 1 fill, ?_⟩
    change execLotStart a fill s = _
    have refused : startRefusal a s = some .wrongState := if_pos notRunning
    simp only [execLotStart, refused]
  · refine ⟨frameLength 7 fill, ?_⟩
    change execPlanAppend a b c' d fill s = _
    have refused : appendCheck a b c' d s = .error .wrongState := if_pos shut
    simp only [execPlanAppend, refused]
  · exact ⟨_, if_pos shut⟩
  · exact ⟨_, if_pos shut⟩
  · exact ⟨_, if_pos (notFailed_of_open opened)⟩
  · exact ⟨_, if_pos (notFailed_of_open opened)⟩
  · refine ⟨frameLength 7 fill, ?_⟩
    change execMarkPlace a b c' fill s = _
    have refused : placeCheck a b c' s = .error .wrongState := if_pos notRunning
    simp only [execMarkPlace, refused]
  · exact ⟨_, congrArg _ (held _)⟩
  · exact ⟨_, congrArg _ (held _)⟩
  · exact ⟨_, congrArg _ (held _)⟩
  · refine ⟨frameLength 0 fill, exec_restartRun_refused fill (if_pos opened)⟩

@[simp] theorem replyCode_finishFrame (len : Nat) (r : Reply) (s : State) :
    replyCode (finishFrame len r s) = some r.code := by
  rw [finishFrame_eq]
  rfl

/-- Settles O59: a host command has changed the part only where it is answered DONE. -/
theorem refusedCommandsChangeNothing : Obligations.RefusedCommandsChangeNothing := by
  refine ⟨fun c s t host h notDone => ?_, fun record a b c' d fill c s opened command => ?_⟩
  · have answered {bs : List Block} (answered : Answered bs s (exec c s)) : SameOutside [.link] s t ∧
        t.link.latched = s.link.latched ∧ t.link.enabled = s.link.enabled ∧ t.link.badFrames = s.link.badFrames := by
      obtain ⟨len, r, u, hu, -, done_or_same⟩ := answered
      obtain rfl := Host.Outcome.next.inj (hu.symm.trans h)
      rw [replyCode_finishFrame] at notDone
      obtain rfl := done_or_same.resolve_left fun e => notDone (congrArg some e)
      exact ⟨finishFrame_frame _ _ _, finishFrame_latched _ _ _, finishFrame_enabled _ _ _, by rw [finishFrame_eq]; rfl⟩
    by_cases tallies : ∃ fill, c = .talliesRead fill
    · obtain ⟨fill, rfl⟩ := tallies
      obtain ⟨u, hu, code, -⟩ := execTalliesRead_frame fill s
      obtain rfl := Host.Outcome.next.inj (hu.symm.trans h)
      exact absurd code notDone
    · by_cases set : ∃ f i v fill, c = .profileSet f i v fill
      · obtain ⟨f, i, v, fill, rfl⟩ := set
        exact answered (execProfileSet_answered f i v fill s)
      · by_cases close : ∃ fill, c = .profileClose fill
        · obtain ⟨fill, rfl⟩ := close
          exact answered (execProfileClose_answered fill s)
        · by_cases reset : isStationReset c
          · cases c with
            | reset fill =>
              cases h
              exact absurd rfl notDone
            | powerOnReset => cases host
            | _ => cases reset
          · exact answered (exec_answered c s host reset (fun fill e => tallies ⟨fill, e⟩)
              (fun f i v fill e => set ⟨f, i, v, fill, e⟩) fun fill e => close ⟨fill, e⟩)
  · obtain ⟨len, hc⟩ := exec_wrongState_of_open opened command
    exact ⟨_, hc, replyCode_finishFrame _ _ _, finishFrame_frame _ _ _⟩

/-! ## What the events do at rest -/

theorem getD_replicate_self {α : Type} (a : α) (n i : Nat) : (List.replicate n a).getD i a = a := by
  rw [List.getD_eq_getElem?_getD, List.getElem?_replicate]
  split <;> rfl

namespace AtRest

variable {s : State} (rest : AtRest s)

include rest

theorem length_eq : s.length = State.reset.length := (rest.law rest.station).1
theorem sense_eq : s.sense = State.reset.sense := (rest.law rest.station).2.1
theorem feeds_eq : s.feeds = State.reset.feeds := (rest.law rest.station).2.2.2.1
theorem trim_eq : s.trim = State.reset.trim := (rest.law rest.station).2.2.2.2.2.1
theorem builder_eq : s.builder = State.reset.builder := (rest.law rest.station).2.2.2.2.2.2.2.2.1
theorem port_eq : s.port = State.reset.port := (rest.law rest.station).2.2.2.2.2.2.2.2.2.1
theorem holders_eq : s.hold.holders = [] := (rest.law rest.station).2.2.2.2.2.2.2.2.2.2.2.1
theorem uncounted_eq : s.hold.uncounted = false := (rest.law rest.station).2.2.2.2.2.2.2.2.2.2.2.2

theorem rawChange_openLaw (i : Nat) (level : Bool) : OpenLaw (rawChange i level s) := by
  unfold rawChange
  split
  · exact rest.law
  · rw [if_neg (by simp [watched, State.isRunning, rest.station])]
    exact rest.openLaw_of_frame (withPins _ _)

theorem filterExpiry_eq (i : Nat) : filterExpiry i s = s := by
  have quiet : (senseInput s i).pending = none := by
    have : senseInput s i = resetInput := by
      rw [senseInput, rest.sense_eq]
      exact getD_replicate_self resetInput 32 i
    rw [this]
    rfl
  rw [filterExpiry, quiet]

theorem spinChange_openLaw (level : Bool) : OpenLaw (spinChange level s) := by
  unfold spinChange
  split
  · exact rest.law
  · rw [if_neg (by simp [rest.notRunning])]
    exact rest.openLaw_of_frame (withPins _ _)

theorem spinExpiry_eq : spinExpiry s = s := by
  have quiet : s.sense.spinPending = none := by rw [rest.sense_eq]; rfl
  rw [spinExpiry, quiet]

theorem feedSilent_eq (i : Nat) : feedSilent i s = s := by
  have none_used : s.feeds.table[i]? = none := by rw [rest.feeds_eq]; rfl
  rw [feedSilent, none_used]

theorem wireChange_openLaw (level : Bool) : OpenLaw (wireChange level s) := by
  unfold wireChange
  split
  · exact rest.law
  · have moved : AtRest (s.withPins { s.pins with holdw := level }) :=
      ⟨rest.station, rest.openLaw_of_frame (withPins _ _)⟩
    exact moved.openLaw_of_hold _ rfl rest.holders_eq rest.uncounted_eq

theorem wireExpiry_openLaw : OpenLaw (wireExpiry s) := by
  unfold wireExpiry
  split
  · split
    · split
      · have held : AtRest (s.withHold { s.hold with observed := .held, pending := none }) :=
          ⟨rest.station, rest.openLaw_of_hold _ rfl rest.holders_eq rest.uncounted_eq⟩
        have latched : AtRest (latch .lineHeld (s.withHold { s.hold with observed := .held, pending := none })) :=
          ⟨rest.station, held.openLaw_of_frame (latch_frame _ _)⟩
        rw [seeHeld, laySeesHeld, latched.lay_off, knotSeesHeld, latched.knot_off, if_neg nofun]
        exact latched.law
      · have freed : AtRest (s.withHold { s.hold with
            observed := .running, pending := none, holders := [], uncounted := false }) :=
          ⟨rest.station, rest.openLaw_of_hold _ rfl rfl rfl⟩
        have latched : AtRest (latch .lineReleased (s.withHold { s.hold with
            observed := .running, pending := none, holders := [], uncounted := false })) :=
          ⟨rest.station, freed.openLaw_of_frame (latch_frame _ _)⟩
        rw [seeRunning, laySeesRunning, latched.lay_off]
        exact latched.law
    · exact rest.law
  · exact rest.law

theorem positionExpiry_eq : positionExpiry s = s := by
  have quiet : positionDue s = none := by rw [positionDue, rest.port_eq]; rfl
  rw [positionExpiry, quiet]
  rfl

theorem idleGap_eq : idleGap s = s := by
  have silent : s.port.state = .silent := by rw [rest.port_eq]; rfl
  rw [idleGap, silent]

theorem startFrame_eq : startFrame s = s := by
  have closed : mayStart s.port = false := by rw [rest.port_eq]; rfl
  rw [startFrame, closed]
  rfl

theorem sending_eq : s.port.sending = none := by rw [rest.port_eq]; rfl

theorem receiveFrame_eq (early : Bool) (bits : List Bool) : receiveFrame early bits s = s := by
  have closed : takesFrames s.port = false := by rw [rest.port_eq]; rfl
  rw [receiveFrame, closed]
  rfl

theorem clearTallies_openLaw : OpenLaw (clearTallies s) := by
  obtain ⟨length, sense, marks, feeds, lay, trim, knot, lots, builder, port, own, holders, uncounted⟩ :=
    rest.law rest.station
  refine fun _ => ⟨?_, sense, ?_, ?_, lay, trim, knot, lots, ?_, ?_, own, holders, uncounted⟩
  · exact congrArg (fun l : LengthUnit => { l with reverseClamps := 0, wheelSkips := 0 }) length
  · exact congrArg (fun m : MarkList => { m with duplicates := 0, merges := 0, lost := 0, discarded := 0 }) marks
  · exact congrArg (fun u : FeedUnit => { u with far := 0, badMarks := 0 }) feeds
  · exact congrArg (fun b : CoilBuilder => { b with repeatedCuts := 0, unrecordedCuts := 0 }) builder
  · exact congrArg (fun p : BusPort => { p with dropped := 0, unfit := 0, ownNumber := 0 }) port

theorem talliesRead_openLaw (fill : Nat) : ∃ t, exec (.talliesRead fill) s = .next t ∧ OpenLaw t := by
  have cleared {t : State} (at_rest : AtRest t) : AtRest (clearTallies t) := ⟨at_rest.station, at_rest.clearTallies_openLaw⟩
  have ordered : AtRest s.useOrder := ⟨rest.station, rest.openLaw_of_frame (useOrder_frame s)⟩
  refine ⟨_, rfl, ?_⟩
  split
  · split
    · have counted : AtRest (countLost (frameLength 0 fill) s.useOrder) :=
        ⟨((countLost_frame _ _ (bs := [.link])) .station (by decide)).trans rest.station,
          ordered.openLaw_of_frame (countLost_frame _ _)⟩
      exact (cleared counted).openLaw_of_frame (placeReply_frame _ _ _)
    · exact (cleared ordered).openLaw_of_frame (finishFrame_frame _ _ _)
  · exact (cleared rest).openLaw_of_frame (finishFrame_frame _ _ _)

/-- An event leaves the part at rest. -/
theorem event_openLaw (c : Instr) (event : isHostCommand c = false) (noReset : ¬isStationReset c) :
    ∃ t, exec c s = .next t ∧ OpenLaw t := by
  have same {t : State} (h : t = s) : OpenLaw t := h ▸ rest.law
  cases c with
  | powerOnReset => exact absurd trivial noReset
  | wheelChange wha whb =>
    refine ⟨_, rfl, ?_⟩
    rw [if_neg (by simp [rest.notRunning])]
    exact rest.openLaw_of_frame (withPins _ _)
  | senseRawChange input level => exact ⟨_, rfl, rest.rawChange_openLaw _ level⟩
  | senseFilterExpiry input => exact ⟨_, rfl, same (rest.filterExpiry_eq _)⟩
  | spinRawChange level => exact ⟨_, rfl, rest.spinChange_openLaw level⟩
  | spinFilterExpiry => exact ⟨_, rfl, same rest.spinExpiry_eq⟩
  | speedSample =>
    have none_due : s.length.sampleDue = none := by rw [rest.length_eq]; rfl
    refine ⟨_, rfl, same ?_⟩
    rw [none_due]
  | feedTimeout feed => exact ⟨_, rfl, same (rest.feedSilent_eq _)⟩
  | cutTimerExpiry => exact ⟨_, rfl, same (if_neg (by simp [rest.builder_off]))⟩
  | trimPeriodStart =>
    have none_due : trimRiseDue s = none := by rw [trimRiseDue, rest.trim_eq]; rfl
    refine ⟨_, rfl, same ?_⟩
    rw [none_due]
  | trimHighTimeEnd =>
    have none_due : trimFallDue s = none := by rw [trimFallDue, rest.trim_eq]; rfl
    refine ⟨_, rfl, same ?_⟩
    rw [none_due]
    rfl
  | holdWireChange level => exact ⟨_, rfl, rest.wireChange_openLaw level⟩
  | holdDebounceExpiry => exact ⟨_, rfl, rest.wireExpiry_openLaw⟩
  | positionTimerExpiry => exact ⟨_, rfl, same rest.positionExpiry_eq⟩
  | idle => exact ⟨_, rfl, same rest.idleGap_eq⟩
  | frameStart => exact ⟨_, rfl, same rest.startFrame_eq⟩
  | arbitrationLost => exact ⟨_, rfl, same (if_neg (by simp [rest.sending_eq]))⟩
  | bitError =>
    refine ⟨_, rfl, same ?_⟩
    rw [bitError, rest.sending_eq]
  | frameSent =>
    refine ⟨_, rfl, same ?_⟩
    rw [frameSent, rest.sending_eq]
  | frameReceived early bits => exact ⟨_, rfl, same (rest.receiveFrame_eq early bits)⟩
  | badFrame bytes =>
    refine ⟨_, rfl, ?_⟩
    split
    · exact rest.openLaw_of_frame (refuseFrame_frame _ _ _)
    · exact rest.openLaw_of_frame (refuseFrame_frame _ _ _)
    · exact rest.law
  | _ => cases event

/-- A host command leaves the part at rest, but for the station resets and a PROFILE CLOSE. -/
theorem command_openLaw (c : Instr) (host : isHostCommand c = true) (noReset : ¬isStationReset c)
    (noClose : ∀ fill, c ≠ .profileClose fill) : ∃ t, exec c s = .next t ∧ OpenLaw t := by
  have framed (len : Nat) (r : Reply) {bs : List Block} {t : State} (same : SameOutside bs s t)
      (within : Within (.link :: bs) [.profile, .pins, .link, .orders]) : OpenLaw (finishFrame len r t) :=
    rest.openLaw_of_frame (sameOutside_finishFrame len r same within)
  have refused {record : LotRecord} {a b c' d fill : Nat} (command : c ∈ [.lotLoad record fill, .lotDrop a fill,
      .lotStart a fill, .planAppend a b c' d fill, .planClear fill, .cutOrder fill, .cutRetry fill, .cutConfirm fill,
      .markPlace a b c' fill, .hold fill, .release fill, .stopAck fill, .restartRun fill]) :
      ∃ t, exec c s = .next t ∧ OpenLaw t := by
    obtain ⟨len, hc⟩ := exec_wrongState_of_open rest.station command
    exact ⟨_, hc, framed len _ (SameOutside.refl [] s) (by decide)⟩
  have record : LotRecord := ⟨0, paramsFrom fun _ => none⟩
  cases c with
  | reset fill => exact absurd trivial noReset
  | profileClose fill => exact absurd rfl (noClose fill)
  | talliesRead fill => exact rest.talliesRead_openLaw fill
  | profileSet f i v fill =>
    obtain ⟨t, ht, same⟩ := (execProfileSet_answered f i v fill s).frame (cs := [.profile, .link])
    exact ⟨t, ht, rest.openLaw_of_frame (same.mono (by decide))⟩
  | attentionRead fill => exact ⟨_, rfl, framed _ _ (withLink s _ (bs := [.link])) (by decide)⟩
  | attentionEnable mask fill =>
    change ∃ t, execAttentionEnable mask fill s = _ ∧ _
    unfold execAttentionEnable
    dsimp only
    split
    · exact ⟨_, rfl, framed _ _ (withLink s _ (bs := [.link])) (by decide)⟩
    · exact ⟨_, rfl, framed _ _ (SameOutside.refl [] s) (by decide)⟩
  | coilTake fill =>
    have empty : s.builder.log = [] := by rw [rest.builder_eq]; rfl
    change ∃ t, execCoilTake fill s = _ ∧ _
    rw [execCoilTake, empty]
    exact ⟨_, rfl, framed _ _ (SameOutside.refl [] s) (by decide)⟩
  | lotLoad r fill => exact refused (record := r) (a := 0) (b := 0) (c' := 0) (d := 0) (fill := fill) (by simp)
  | lotDrop tag fill => exact refused (record := record) (a := tag) (b := 0) (c' := 0) (d := 0) (fill := fill) (by simp)
  | lotStart tag fill => exact refused (record := record) (a := tag) (b := 0) (c' := 0) (d := 0) (fill := fill) (by simp)
  | planAppend a b c d fill =>
    exact refused (record := record) (a := a) (b := b) (c' := c) (d := d) (fill := fill) (by simp)
  | markPlace a b c fill =>
    exact refused (record := record) (a := a) (b := b) (c' := c) (d := 0) (fill := fill) (by simp)
  | planClear fill | cutOrder fill | cutRetry fill | cutConfirm fill | hold fill | release fill | stopAck fill
  | restartRun fill => exact refused (record := record) (a := 0) (b := 0) (c' := 0) (d := 0) (fill := fill) (by simp)
  | status | lotRead | planRead | coilPeek | markRead | lossRead | feedRead | sectionRead | rowRead =>
    exact ⟨_, rfl, framed _ _ (SameOutside.refl [] s) (by decide)⟩
  | _ => cases host

end AtRest

end Sys2Proof.Machine
end

section
/-! PROOFS. Every step keeps the law of OPEN and the law of the loss list (O30), and the reset values (O4). -/

namespace Sys2Proof.Machine

-- One theorem after another: side by side they need more threads than the memory of the check allows.
set_option Elab.async false

open SameOutside

theorem Path.feedSlots {bounded : Prop} {scope : Scope} {s t : State} (path : Path bounded scope s t) :
    t.profile.feeds.length = s.profile.feeds.length := by
  induction path with
  | trans _ _ first second => exact second.trans first
  | profile s v inputs feeds => exact feeds
  | _ => rfl

/-- No command but a station reset brings the part back to OPEN from RUNNING, and in OPEN none moves what is at rest. -/
theorem exec_openLaw {c : Instr} {s t : State} (h : exec c s = .next t) (law : OpenLaw s) : OpenLaw t := by
  have of_running (running : t.station = .running) : OpenLaw t := fun opened => by cases running.symm.trans opened
  by_cases reset : isStationReset c
  · cases c with
    | powerOnReset =>
      cases h
      exact reset_openLaw
    | reset fill =>
      cases h
      exact reset_openLaw
    | _ => cases reset
  · cases station : s.station with
    | running =>
      refine of_running ?_
      obtain same | ⟨opened, -⟩ := (profileIsFrozenWhileRunning c s t h reset).2
      · exact same.trans station
      · cases opened.symm.trans station
    | openState =>
      have rest : AtRest s := ⟨station, law⟩
      by_cases close : ∃ fill, c = .profileClose fill
      · obtain ⟨fill, rfl⟩ := close
        cases check : failedCheck s.profile with
        | some n =>
          obtain rfl := Host.Outcome.next.inj (h.symm.trans (exec_profileClose_failed fill station check))
          exact rest.openLaw_of_frame (finishFrame_frame _ _ s)
        | none =>
          obtain rfl := Host.Outcome.next.inj (h.symm.trans (exec_profileClose_passed fill station check))
          exact of_running (((finishFrame_frame _ _ _ (bs := [.link])) .station (by decide)).trans (enterRunning_station s))
      · cases host : isHostCommand c with
        | false =>
          obtain ⟨u, hu, held⟩ := rest.event_openLaw c host reset
          exact Host.Outcome.next.inj (hu.symm.trans h) ▸ held
        | true =>
          obtain ⟨u, hu, held⟩ := rest.command_openLaw c host reset fun fill e => close ⟨fill, e⟩
          exact Host.Outcome.next.inj (hu.symm.trans h) ▸ held

theorem step_openLaw {s t : State} (h : step s = .next t) (law : OpenLaw s) : OpenLaw t := by
  unfold step at h
  split at h
  · exact exec_openLaw h law
  · unfold idle at h
    split at h
    · exact exec_openLaw h law
    · cases h
      exact law

/-- The feed table that the entry to RUNNING sets up has no more entries than there are feed slots. -/
theorem feedsEntry_fits {s : State} (four : s.profile.feeds.length = 4) (empty : s.feeds.losses = []) :
    FeedsFit (feedsEntry s).feeds := by
  refine (feedsFit_iff _).2 ⟨?_, ?_⟩
  · change ((feedsInUse s.profile).map _).length ≤ 4
    rw [List.length_map, feedsInUse]
    exact (List.length_take_le' _ _).trans four.le
  · change ListFits _ s.feeds.losses
    rw [empty]
    exact ⟨.nil, Nat.zero_le _, nofun, nofun, .nil⟩

theorem feedsFit_kept : Kept (fun s => s.profile.feeds.length = 4 ∧ FeedsFit s.feeds)
    fun s => MarkLaw s ∧ CountLaw s ∧ OpenLaw s where
  along settles laws held := by
    obtain ⟨marks, count, -⟩ := laws
    have path := settles.path True fun _ => counted_of_laws marks count
    exact ⟨path.feedSlots.trans held.1, path.feedsFit trivial (bounded_of_laws marks count) held.2⟩
  resets _ _ := ⟨rfl, feedsFit_reset⟩
  enters s opened laws held := by
    obtain ⟨marks, count, law⟩ := laws
    have rest : AtRest s := ⟨opened, law⟩
    have kept : Bounded (enterRunning s) ∧ (enterRunning s).profile.feeds.length = 4 ∧ FeedsFit (enterRunning s).feeds :=
      enterRunning_kept (L := fun t => Bounded t ∧ t.profile.feeds.length = 4 ∧ FeedsFit t.feeds) s
        (fun _ _ e held => ⟨e.within held.1, (e False nofun).feedSlots.trans held.2.1,
          (e True fun _ => held.1).feedsFit trivial held.1 held.2.2⟩)
        (fun t feeds _ held => ⟨⟨held.1.count, held.1.fraction, held.1.fit, held.1.marks, held.1.knot⟩, held.2.1,
          feedsEntry_fits held.2.1 (by rw [feeds, rest.feeds_eq]; rfl)⟩)
        (fun _ _ _ held => ⟨⟨held.1.count, held.1.fraction, held.1.fit, held.1.marks, held.1.knot⟩, held.2⟩)
        (fun _ _ _ held => ⟨⟨held.1.count, held.1.fraction, held.1.fit, held.1.marks, held.1.knot⟩, held.2⟩)
        ⟨bounded_of_laws marks count, held⟩
    exact kept.2

/-- Settles O30: in OPEN the blocks stay at rest, and in RUNNING every move of the loss list keeps it. -/
theorem openAndLossLawIsKept : Obligations.OpenAndLossLawIsKept := by
  intro s t loss marks count h
  obtain ⟨law, slots, fits⟩ := (lossLaw_iff s).1 loss
  exact (lossLaw_iff t).2 ⟨step_openLaw h law,
    feedsFit_kept.step (fun _ _ => id) (fun _ _ => id) h ⟨marks, count, law⟩ ⟨slots, fits⟩⟩

/-! ## Reset values and timers -/

/-- Settles O4: each block after a station reset, read off. -/
theorem stationResetLeavesResetValues : Obligations.StationResetLeavesResetValues := by
  intro s
  have quiet : State.reset.attn = false := by decide
  exact ⟨stationReset s, rfl, rfl, rfl, rfl, rfl, rfl, rfl, rfl, rfl, rfl, rfl, rfl, rfl, rfl, rfl, rfl, rfl, rfl, rfl,
    rfl, rfl, rfl, rfl, rfl, rfl, rfl, rfl, quiet, rfl, rfl, rfl, rfl, fun fill => rfl⟩

/-- Settles O19, timer by timer. -/
theorem timersActAtTheirTimes : Obligations.TimersActAtTheirTimes := by
  refine ⟨fun due s sample => ⟨fun come => ?_, fun early => ?_⟩,
    fun s start period => ⟨fun come => ?_, fun early => ?_, fun high come => ?_, fun quiet => ?_⟩,
    fun s since timer => ⟨fun come => ?_, fun early => ?_⟩⟩
  · refine ⟨changeLength (takeSample due) s, ?_, ?_, withLength _ _⟩
    · change execSpeedSample s = _
      simp only [execSpeedSample, sample, if_pos come]
    · rfl
  · change execSpeedSample s = _
    simp only [execSpeedSample, sample, if_neg (not_le.2 early)]
  · have due : trimRiseDue s = some (start + 1000) := by simp [trimRiseDue, period, trimPeriod]
    refine ⟨startTrimPeriod (start + 1000) s, ?_, rfl, withTrim _ _⟩
    change execTrimPeriodStart s = _
    simp only [execTrimPeriodStart, due, if_pos come]
  · have due : trimRiseDue s = some (start + 1000) := by simp [trimRiseDue, period, trimPeriod]
    change execTrimPeriodStart s = _
    simp only [execTrimPeriodStart, due, if_neg (not_le.2 early)]
  · have due : timeCome (trimFallDue s) s.now = true := by simpa [trimFallDue, period, high, timeCome] using come
    exact ⟨_, congrArg Host.Outcome.next (if_pos due), rfl, withTrim _ _⟩
  · have due : ¬timeCome (trimFallDue s) s.now = true := by
      obtain low | early := quiet
      · simp [trimFallDue, low, timeCome]
      · cases level : s.trim.level <;> simp [trimFallDue, period, level, timeCome, early]
    exact congrArg Host.Outcome.next (if_neg due)
  · have due : positionDue s = some (since + s.profile.positionInterval * 100) := by simp [positionDue, timer, perMs]
    have taken : positionExpiry s = changePort (fun p => { p with positionSince := positionDue s })
        (offerClass3 (.position (positionPayload s)) s) := if_pos (by simpa [due, timeCome] using come)
    refine ⟨_, rfl, ?_, positionExpiry_frame s⟩
    rw [taken, due]
    rfl
  · have due : ¬timeCome (positionDue s) s.now = true := by simpa [positionDue, timer, perMs, timeCome] using early
    exact congrArg Host.Outcome.next (if_neg due)

end Sys2Proof.Machine
end

section
/-! PROOFS. The profile's commands (11.3, 11.4): what PROFILE SET writes (O6) and the checks of PROFILE CLOSE (O7). -/

namespace Sys2Proof.Machine

-- One theorem after another: side by side they need more threads than the memory of the check allows.
set_option Elab.async false

open SameOutside

/-! ## The end of a frame leaves every block but the link -/

@[simp] theorem finishFrame_station (len : Nat) (r : Reply) (s : State) : (finishFrame len r s).station = s.station :=
  (finishFrame_frame len r s (bs := [.link])) .station (by decide)
@[simp] theorem finishFrame_profile (len : Nat) (r : Reply) (s : State) : (finishFrame len r s).profile = s.profile :=
  (finishFrame_frame len r s (bs := [.link])) .profile (by decide)
@[simp] theorem finishFrame_length (len : Nat) (r : Reply) (s : State) : (finishFrame len r s).length = s.length :=
  (finishFrame_frame len r s (bs := [.link])) .length (by decide)
@[simp] theorem finishFrame_sense (len : Nat) (r : Reply) (s : State) : (finishFrame len r s).sense = s.sense :=
  (finishFrame_frame len r s (bs := [.link])) .sense (by decide)
@[simp] theorem finishFrame_marks (len : Nat) (r : Reply) (s : State) : (finishFrame len r s).marks = s.marks :=
  (finishFrame_frame len r s (bs := [.link])) .marks (by decide)
@[simp] theorem finishFrame_feeds (len : Nat) (r : Reply) (s : State) : (finishFrame len r s).feeds = s.feeds :=
  (finishFrame_frame len r s (bs := [.link])) .feeds (by decide)
@[simp] theorem finishFrame_lay (len : Nat) (r : Reply) (s : State) : (finishFrame len r s).lay = s.lay :=
  (finishFrame_frame len r s (bs := [.link])) .lay (by decide)
@[simp] theorem finishFrame_trim (len : Nat) (r : Reply) (s : State) : (finishFrame len r s).trim = s.trim :=
  (finishFrame_frame len r s (bs := [.link])) .trim (by decide)
@[simp] theorem finishFrame_knot (len : Nat) (r : Reply) (s : State) : (finishFrame len r s).knot = s.knot :=
  (finishFrame_frame len r s (bs := [.link])) .knot (by decide)
@[simp] theorem finishFrame_lots (len : Nat) (r : Reply) (s : State) : (finishFrame len r s).lots = s.lots :=
  (finishFrame_frame len r s (bs := [.link])) .lots (by decide)

/-- A frame of a part that stands as it was: its reply, and nothing else. -/
theorem answers_read (len : Nat) (r : Reply) (s : State) :
    SameOutside [.link] s (finishFrame len r s) ∧ Answers len r s (finishFrame len r s) :=
  ⟨finishFrame_frame _ _ _, answers_finishFrame _ _ rfl⟩

/-! ## PROFILE SET (R171) -/

theorem exec_profileSet_written (field index value fill : Nat) {s : State} {p : Profile} (opened : s.station = .openState)
    (written : writeProfile s.profile field index value = some p) : exec (.profileSet field index value fill) s =
      .next (finishFrame (frameLength 6 fill) (done []) (s.withProfile p)) := by
  change execProfileSet field index value fill s = _
  simp only [execProfileSet, isRunning_of_open opened, written]
  rfl

theorem exec_profileSet_outOfRange (field index value fill : Nat) {s : State} (opened : s.station = .openState)
    (refused : writeProfile s.profile field index value = none) : exec (.profileSet field index value fill) s =
      .next (finishFrame (frameLength 6 fill) (bare .outOfRange) s) := by
  change execProfileSet field index value fill s = _
  simp only [execProfileSet, isRunning_of_open opened, refused]
  rfl

/-- A PROFILE SET that writes a profile: the frame, the answer and the profile written. -/
theorem exec_profileSet_effect (field index value fill : Nat) {s : State} {p : Profile} (opened : s.station = .openState)
    (written : writeProfile s.profile field index value = some p) : ∃ t, exec (.profileSet field index value fill) s = .next t ∧
      t.profile = p ∧ SameOutside [.profile, .link] s t ∧ Answers (9 + fill) (done []) s t :=
  ⟨_, exec_profileSet_written field index value fill opened written, finishFrame_profile _ _ _,
    sameOutside_finishFrame _ _ (withProfile s p (bs := [.profile])), answers_finishFrame _ _ rfl⟩

theorem ranged_eq {low high n : Nat} (atLeast : low ≤ n) (atMost : n ≤ high) : ranged low high n = some n := by
  simp [ranged, inRange, atLeast, atMost]

theorem ranged_eq_none {low high n : Nat} (out : ¬(low ≤ n ∧ n ≤ high)) : ranged low high n = none := by
  have : inRange low high n = false := by
    simp only [inRange, Bool.and_eq_false_iff, decide_eq_false_iff_not]
    omega
  simp [ranged, this]

/-- One entry of a list written, as its readers see it. -/
theorem getD_set {α : Type} (l : List α) (i j : Nat) (a d : α) (within : i < l.length) :
    (l.set i a).getD j d = if j = i then a else l.getD j d := by
  rw [List.getD_eq_getElem?_getD, List.getD_eq_getElem?_getD, List.getElem?_set]
  by_cases same : i = j
  · subst same
    simp [within]
  · simp [same, Ne.symm same]

/-- Settles O6, field by field: what PROFILE SET writes, and its refusals. -/
theorem profileSetWritesTheFieldNamed : Obligations.ProfileSetWritesTheFieldNamed := by
  intro index value fill s places
  obtain ⟨-, -, inputs, feeds, -⟩ := places
  refine ⟨fun opened => ⟨fun low high => ?_, fun slot high => ?_, fun slot high => ?_, fun high => ?_, fun out => ?_⟩,
    fun running field => ⟨_, exec_profileSet_running field index value fill running, answers_read _ _ _⟩⟩
  · refine exec_profileSet_effect 1 0 value fill opened ?_
    rw [writeProfile, ranged_eq low high]
    rfl
  · have written : writeProfile s.profile 4 index value = some
        { s.profile with feeds := s.profile.feeds.set index { feedConfig s.profile index with path := value } } := by
      rw [writeProfile, ranged_eq (Nat.zero_le _) high, feedField, if_pos slot]
      rfl
    obtain ⟨t, ht, profile, rest⟩ := exec_profileSet_effect 4 index value fill opened written
    refine ⟨t, ht, fun j => ?_, by rw [profile], rest⟩
    rw [profile]
    refine (getD_set _ _ _ _ _ (by rw [feeds]; exact slot)).trans ?_
    split
    · subst j
      rfl
    · rfl
  · have written : writeProfile s.profile 12 index value = some
        { s.profile with inputs := s.profile.inputs.set index { assignment s.profile index with filter := value } } := by
      rw [writeProfile, ranged_eq (Nat.zero_le _) high, inputField, if_pos slot]
      rfl
    obtain ⟨t, ht, profile, rest⟩ := exec_profileSet_effect 12 index value fill opened written
    refine ⟨t, ht, fun j => ?_, by rw [profile], rest⟩
    rw [profile]
    refine (getD_set _ _ _ _ _ (by rw [inputs]; exact slot)).trans ?_
    split
    · subst j
      rfl
    · rfl
  · have inside : paramInRange .stretch value = true := by
      simp [paramInRange, paramRange, inRange, high]
    have written : writeProfile s.profile 42 0 value = some
        { s.profile with base := { s.profile.base with stretch := value } } := by
      have bit : paramOfBit 10 = some .stretch := by decide
      rw [writeProfile, if_pos (by decide)]
      · rw [unindexed, if_pos rfl, writeBase, show 42 - 32 = 10 from rfl, bit]
        simp only [inside, if_true]
        rfl
      all_goals decide
    exact exec_profileSet_effect 42 0 value fill opened written
  · have refused : writeProfile s.profile 1 index value = none := by
      rw [writeProfile, unindexed]
      split
      · rename_i zero
        rw [ranged_eq_none (by omega)]
        rfl
      · rfl
    exact ⟨_, exec_profileSet_outOfRange 1 index value fill opened refused, answers_read _ _ _⟩

/-! ## PROFILE CLOSE (R172) -/

theorem detectionFits_iff (a : Assignment) : detectionFits a = true ↔
    (a.service = .gauge → a.detection = .high ∨ a.detection = .low) ∧
      (a.service ≠ .gauge → a.service ≠ .unused → a.detection = .rising ∨ a.detection = .falling) := by
  unfold detectionFits
  cases a.service <;> cases a.detection <;> decide

theorem inputsServing_pos_iff (p : Profile) (service : Service) :
    1 ≤ inputsServing p service ↔ ∃ a ∈ p.inputs, a.service = service := by
  simp [inputsServing, Nat.one_le_iff_ne_zero, List.countP_eq_zero]

/-- Each check of PROFILE CLOSE is the condition that its row of the table states. -/
theorem closeCheckPasses_iff (p : Profile) : ∀ n, closeCheckPasses p n = true ↔ closeCheckHolds p n
  | 0 => by simp [closeCheckPasses, closeCheckHolds]
  | 1 => by simp [closeCheckPasses, closeCheckHolds, Option.isSome_iff_ne_none]
  | 2 => by
    rw [closeCheckPasses, closeCheckHolds, sendersInUse, List.all_map, feedsInUse]
    simp [Option.isSome_iff_ne_none]
  | 3 => by
    rw [closeCheckPasses, closeCheckHolds, sendersInUse, List.all_map, feedsInUse]
    simp
  | 4 => by simp [closeCheckPasses, closeCheckHolds, sendersInUse, feedsInUse, List.Nodup]
  | 5 => by simp [closeCheckPasses, closeCheckHolds, feedsInUse]
  | 6 => by
    rw [closeCheckPasses, closeCheckHolds, List.all_eq_true]
    exact forall₂_congr fun a _ => detectionFits_iff a
  | 7 => by simp [closeCheckPasses, closeCheckHolds]
  | 8 => by simp [closeCheckPasses, closeCheckHolds]
  | 9 => by simp [closeCheckPasses, closeCheckHolds]
  | 10 => by cases h : p.laySupervision <;> simp [closeCheckPasses, closeCheckHolds, h]
  | 11 => by cases h : p.knotSupervision <;> simp [closeCheckPasses, closeCheckHolds, h]
  | 12 => by
    cases h : p.knotSupervision <;>
      simp [closeCheckPasses, closeCheckHolds, h, inputsServing, List.countP_eq_length_filter]
  | 13 => by cases h : p.knotSupervision <;> simp [closeCheckPasses, closeCheckHolds, h, inputsServing_pos_iff]
  | 14 => by cases h : p.source <;> simp [closeCheckPasses, closeCheckHolds, h]
  | 15 => by cases h : p.coilBuilding <;> simp [closeCheckPasses, closeCheckHolds, h, inputsServing_pos_iff]
  | n + 16 => by simp [closeCheckPasses, closeCheckHolds]

theorem failedCheck_eq (p : Profile) : failedCheck p = (List.range' 1 15).find? fun n => !closeCheckPasses p n := rfl

/-- Where every check holds, none fails. -/
theorem failedCheck_eq_none {p : Profile} (holds : ∀ n, 1 ≤ n → n ≤ 15 → closeCheckHolds p n) : failedCheck p = none := by
  rw [failedCheck_eq, List.find?_eq_none]
  intro n hn
  rw [List.mem_range'_1] at hn
  simpa using (closeCheckPasses_iff p n).2 (holds n hn.1 (by omega))

/-- The first check that does not hold is the one that fails. -/
theorem failedCheck_eq_some {p : Profile} {n : Nat} (low : 1 ≤ n) (high : n ≤ 15) (fails : ¬closeCheckHolds p n)
    (before : ∀ m, 1 ≤ m → m < n → closeCheckHolds p m) : failedCheck p = some n := by
  rw [failedCheck_eq, List.find?_range'_eq_some]
  refine ⟨?_, by rw [List.mem_range'_1]; omega, fun m one below => ?_⟩
  · simpa using fun h => fails ((closeCheckPasses_iff p n).1 h)
  · simpa using (closeCheckPasses_iff p m).2 (before m one below)

theorem be_one (n : Nat) : be 1 n = [BitVec.ofNat 8 n] := by simp [be]

/-- Settles O7, by the first check of the table that does not hold. -/
theorem profileCloseMakesFifteenChecks : Obligations.ProfileCloseMakesFifteenChecks := by
  refine fun fill s => ⟨fun opened holds => ?_, fun opened n low high fails before => ?_, fun running => ?_⟩
  · exact ⟨_, exec_profileClose_passed fill opened (failedCheck_eq_none holds),
      (finishFrame_station _ _ _).trans (enterRunning_station s), replyCode_finishFrame _ _ _⟩
  · refine ⟨_, exec_profileClose_failed fill opened (failedCheck_eq_some low high fails before), ?_⟩
    rw [be_one]
    exact answers_read _ _ _
  · exact ⟨_, exec_profileClose_running fill running, answers_read _ _ _⟩

end Sys2Proof.Machine
end

section
/-! PROOFS. The measuring wheel (chapter 1): forward counts (O9), skips and dropped counts (O11). -/

namespace Sys2Proof.Machine

-- One theorem after another: side by side they need more threads than the memory of the check allows.
set_option Elab.async false

open SameOutside

/-! ## Skips and dropped counts (R2, R3, R11) -/

/-- A change of both levels is a skip, and no other change is (R3). -/
theorem classify_eq_skip_iff (old new : Bool × Bool) :
    classify old new = .skip ↔ new.1 ≠ old.1 ∧ new.2 ≠ old.2 := by
  obtain ⟨_ | _, _ | _⟩ := old <;> obtain ⟨_ | _, _ | _⟩ := new <;> decide

/-- While saturated, every wheel count is dropped (R11). -/
theorem wheelCount_saturated (forward : Bool) {s : State} (saturated : s.length.saturated = true) :
    wheelCount forward s = s := by
  unfold wheelCount forwardCount reverseCount
  simp [saturated]

theorem decodeWheel_skip {new old : Bool × Bool} {s : State} (reference : s.length.reference = some old)
    (skip : classify old new = .skip) : decodeWheel new s = s.withLength { s.length with
      reference := some new, wheelSkips := tally s.length.wheelSkips } := by
  rw [decodeWheel, reference]
  simp only [skip]
  rfl

/-- While saturated, the reference follows the levels and nothing is counted (R3, R11). -/
theorem decodeWheel_saturated {new old : Bool × Bool} {s : State} (reference : s.length.reference = some old)
    (noSkip : classify old new ≠ .skip) (saturated : s.length.saturated = true) :
    decodeWheel new s = s.withLength { s.length with reference := some new } := by
  have followed : (changeLength (fun l => { l with reference := some new }) s).length.saturated = true := saturated
  unfold decodeWheel
  simp only [reference]
  cases change : classify old new with
  | none =>
    have same : new = old := by
      by_contra ne
      rw [classify, if_neg ne] at change
      split at change
      · cases change
      · split at change <;> cases change
    subst same
    change s = s.withLength { s.length with reference := some new }
    rw [← reference]
    rfl
  | forward => exact wheelCount_saturated true followed
  | reverse => exact wheelCount_saturated false followed
  | skip => exact absurd change noSkip

/-- Where the wheel is not decoded, only the pins change (R2). -/
theorem exec_wheelChange_undecoded (wha whb : Bool) {s : State} (off : ¬(s.isRunning = true ∧ s.profile.source = .wheel)) :
    exec (.wheelChange wha whb) s = .next (s.withPins { s.pins with wha := wha, whb := whb }) :=
  congrArg Host.Outcome.next (if_neg off)

/-- Settles O11, by whether the wheel is decoded and how the change is classed. -/
theorem wheelSkipsAndDroppedCounts : Obligations.WheelSkipsAndDroppedCounts := by
  intro wha whb s
  by_cases decoded : s.isRunning = true ∧ s.profile.source = .wheel
  · obtain ⟨isRunning, wheel⟩ := decoded
    have running : s.station = .running := by simpa [State.isRunning] using isRunning
    refine ⟨_, exec_wheelChange_decoded wha whb s running wheel,
      (decodeWheel_frame (wha, whb) _ (bs := countBlocks)) .pins (by decide), fun _ _ a b reference =>
        ⟨fun first second => ?_, fun one saturated => ?_⟩, fun off => ?_⟩
    · rw [decodeWheel_skip (s := s.withPins { s.pins with wha := wha, whb := whb }) (old := (a, b)) reference
        ((classify_eq_skip_iff _ _).2 ⟨first, second⟩)]
      exact ⟨rfl, (withPins s _).trans (withLength _ _)⟩
    · rw [decodeWheel_saturated (s := s.withPins { s.pins with wha := wha, whb := whb }) (old := (a, b)) reference
        (fun skip => one ((classify_eq_skip_iff _ _).1 skip)) saturated]
      exact ⟨rfl, (withPins s _).trans (withLength _ _)⟩
    · rw [running, wheel] at off
      exact off.elim nofun nofun
  · refine ⟨_, exec_wheelChange_undecoded wha whb decoded, rfl, fun running wheel => ?_, fun _ => withPins s _⟩
    exact absurd ⟨isRunning_of_running running, wheel⟩ decoded

/-! ## Forward counts (R4, R5, R10) -/

/-- With either setting of the direction option, a change that turns forward is a forward count of the part whose
reference has followed the levels (R3, R4). -/
theorem decodeWheel_turnsForward (new : Bool × Bool) (s : State) (forward : turnsForward s new) :
    decodeWheel new s = forwardCount (s.withLength { s.length with reference := some new }) := by
  obtain ⟨old, reference, neighbour⟩ := forward
  cases direction : s.profile.direction with
  | false =>
    obtain rfl : new = forwardOf old := by simpa [direction] using neighbour
    simp [decodeWheel, reference, classify_to_forwardOf, wheelCount, changeLength, direction]
  | true =>
    obtain rfl : old = forwardOf new := by simpa [direction] using neighbour
    simp [decodeWheel, reference, classify_from_forwardOf, wheelCount, changeLength, direction]

/-- In RUNNING with source WHEEL, a wheel change that turns forward is one forward count (R2 to R4). -/
theorem exec_wheelChange_turnsForward (wha whb : Bool) (s : State) (running : s.station = .running)
    (wheel : s.profile.source = .wheel) (forward : turnsForward s (wha, whb)) :
    exec (.wheelChange wha whb) s = .next (forwardCount (followed wha whb s)) := by
  rw [exec_wheelChange_decoded wha whb s running wheel]
  exact congrArg Host.Outcome.next (decodeWheel_turnsForward (wha, whb) _ forward)

/-- What follows a forward count's move: the cap test and the advance, in the open order (R12, R76; entry 11). -/
def afterMove (old : Nat) (moved : State) : State :=
  if capReached moved moved.fullPosition then
    if moved.firstOpen then handOnRise old (layCapTest moved.useOrder)
    else layCapTest (handOnRise old moved.useOrder)
  else handOnRise old moved

theorem forwardCount_eq {s : State} (live : s.length.saturated = false) :
    forwardCount s = afterMove s.length.runCount (moveForward (s.fullPosition + s.profile.wheelStep) s) :=
  if_neg (by simp [live])

theorem afterMove_frame (old : Nat) (moved : State) {bs : List Block} (h : Within advanceBlocks bs := by decide) :
    SameOutside bs moved (afterMove old moved) := by
  refine mono (bs := advanceBlocks) ?_ h
  exact SameOutside.ite (SameOutside.ite (((useOrder_frame moved).trans (layCapTest_frame _)).trans (handOnRise_frame _ _))
    (((useOrder_frame moved).trans (handOnRise_frame _ _)).trans (layCapTest_frame _))) (handOnRise_frame _ _)

/-- Without the cap and without a rise, nothing follows. -/
theorem afterMove_still {old : Nat} {moved : State} (short : capReached moved moved.fullPosition = false)
    (still : moved.length.runCount = old) : afterMove old moved = moved := by
  rw [afterMove, short, if_neg nofun, handOnRise, if_neg (by omega)]

theorem moveForward_below {p : Nat} {s : State} (below : p / 65536 < maxCount) :
    moveForward p s = s.withLength { s.length with runCount := p / 65536, fraction := p % 65536 } :=
  if_neg (by omega)

theorem moveForward_ceiling {p : Nat} {s : State} (above : maxCount ≤ p / 65536) : moveForward p s = reachCeiling s :=
  if_pos above

theorem afterMove_evolves {scope : Scope} (old : Nat) (moved : State) : Evolves scope moved (afterMove old moved) :=
  .ite (fun _ => .ite (fun _ => ((useOrder_evolves moved).trans (layCapTest_evolves _)).trans (handOnRise_evolves _ _))
    fun _ => ((useOrder_evolves moved).trans (handOnRise_evolves _ _)).trans (layCapTest_evolves _))
    fun _ => handOnRise_evolves _ _

/-- What has been latched stays over an operation that clears nothing. -/
theorem Evolves.latchedStays {s t : State} (e : Evolves .growing s t) : LatchedStays s.link.latched t.link.latched :=
  (e False nofun).latchedStays rfl

/-- A reason given stays over an operation that clears nothing. -/
theorem Evolves.reasonsStay {s t : State} (e : Evolves .growing s t) : ReasonsStay s.hold.own t.hold.own :=
  (e False nofun).reasonsStay rfl

theorem setReasons_own (own : HoldSet) (s : State) : (setReasons own s).hold.own = own := by
  unfold setReasons
  split
  · exact Eq.symm ‹_›
  · rfl

theorem giveHold_own (r : HoldReason) (s : State) : (giveHold r s).hold.own = giveReason r s.hold.own := setReasons_own _ _

theorem latch_latches (c : Condition) (s : State) : hasCondition c (latch c s).link.latched = true :=
  hasCondition_latch c s.link.latched

/-- At the ceiling COUNT_LIMIT is given and latched (R10). -/
theorem reachCeiling_limits (s : State) : hasReason .countLimit (reachCeiling s).hold.own = true ∧
    hasCondition .countLimit (reachCeiling s).link.latched = true := by
  refine ⟨?_, latch_latches _ _⟩
  change hasReason .countLimit (giveHold .countLimit _).hold.own = true
  rw [giveHold_own]
  exact hasReason_give _ _

theorem reachCeiling_length (s : State) :
    (reachCeiling s).length = { s.length with runCount := maxCount, fraction := 65535, saturated := true } :=
  ((giveHold_frame _ _ (bs := [.hold, .port, .link])).trans (latch_frame _ _)) .length (by decide)

/-- Settles O9: the change is one forward count of the part that has followed the levels. -/
theorem forwardCountMovesOneStep : Obligations.ForwardCountMovesOneStep := by
  intro wha whb s running wheel forward live
  have counted := exec_wheelChange_turnsForward wha whb s running wheel forward
  have position : (followed wha whb s).fullPosition + (followed wha whb s).profile.wheelStep =
      s.fullPosition + s.profile.wheelStep := rfl
  rw [forwardCount_eq (s := followed wha whb s) live, position] at counted
  generalize hp : s.fullPosition + s.profile.wheelStep = p at counted
  have after := afterMove_frame (followed wha whb s).length.runCount (moveForward p (followed wha whb s))
    (bs := advanceBlocks)
  have moved := moveForward_frame p (followed wha whb s) (bs := [.length, .hold, .port, .link])
  refine ⟨_, counted, ?_, fun below => ?_, fun above => ?_, ?_, fun below still short => ?_⟩
  · exact (after .pins (by decide)).trans (moved .pins (by decide))
  · rw [after .length (by decide), moveForward_below below]
    rfl
  · rw [after .length (by decide), moveForward_ceiling above]
    have limits := reachCeiling_limits (followed wha whb s)
    have stays := afterMove_evolves (scope := .growing) (followed wha whb s).length.runCount
      (reachCeiling (followed wha whb s))
    exact ⟨reachCeiling_length _, stays.reasonsStay _ nofun nofun limits.1, stays.latchedStays _ limits.2⟩
  · exact ((followed_frame wha whb s).mono (by decide)).trans ((moved.mono (by decide)).trans (after.mono (by decide)))
  · rw [moveForward_below below]
    have uncapped : capReached ((followed wha whb s).withLength { (followed wha whb s).length with
        runCount := p / 65536, fraction := p % 65536 }) p = false := by
      unfold capReached
      split
      · rename_i win measuring window
        have := short win window
        refine decide_eq_false fun reached => ?_
        have position : s.fullPosition + s.profile.wheelStep = p := hp
        have cap : windowCap = 1310720000 := rfl
        omega
      · rfl
    have place : ((followed wha whb s).withLength { (followed wha whb s).length with
        runCount := p / 65536, fraction := p % 65536 }).fullPosition = p := Nat.div_add_mod' p 65536
    rw [afterMove_still (by rw [place]; exact uncapped) still]
    exact (followed_frame wha whb s).trans (withLength _ _)

end Sys2Proof.Machine
end

section
/-! PROOFS. The sense unit (chapter 2): the filters of its inputs (O13, O14), and the SPLICE edges that the coil records
(O16). The rules of a mark that is raised here and goes straight to the line bus stand first. -/

namespace Sys2Proof.Machine

-- One theorem after another: side by side they need more threads than the memory of the check allows.
set_option Elab.async false

open SameOutside

/-! ## Marks raised here and forwarded at once (R31, R38, R44, R46) -/

theorem builderTakes_off (m : Mark) (answer : Option LotAnswer) {s : State} (off : s.builder.state = .off) :
    builderTakes m answer s = s := if_pos off

/-- A new ordinary mark at or behind the run count fires (R38). -/
theorem placementOf_fires {m : Mark} {s : State} (fresh : ∀ w ∈ s.marks.marks, w.origin ≠ m.origin)
    (kind : m.kind ≠ .lotChange) (reached : m.position ≤ s.length.runCount) : placementOf m s = .fires := by
  have new : ¬isDuplicate m s = true := fun h => by
    obtain ⟨w, hw, e⟩ := (isDuplicate_iff m s).1 h
    exact fresh w hw e
  have alone : sameLotWaiting m s = none := if_neg kind
  rw [placementOf, if_neg new, alone, if_neg (by simp), if_pos reached]

/-- A mark no further back than the lookback bound is taken as it is raised (R31). -/
theorem lookBack_near {runCount position : Nat} (span : Nat) (clamped : Bool) (near : runCount ≤ position + 262144) :
    lookBack runCount position span clamped = (position, span, clamped) :=
  if_neg (by change ¬position + 262144 < runCount; omega)

/-- A mark further back is cut at the bound (R31). -/
theorem lookBack_far {runCount position : Nat} (span : Nat) (clamped : Bool) (far : position + 262144 < runCount) :
    lookBack runCount position span clamped = (runCount - 262144, span - (runCount - 262144 - position), true) :=
  if_pos far

/-- The part with a notice at the tail of its own-origin FIFO, its two serials taken (R32, R46, R158). -/
def forwardOwn (q : Queued) (s : State) : State :=
  (s.withMarks { s.marks with nextSerial := nextSerial16 s.marks.nextSerial }).withPort { s.port with
    own := s.port.own ++ [q], serialCounter := nextSerial8 s.port.serialCounter }

theorem forwardedOwn_forwardOwn (q : Queued) (s : State) : forwardedOwn q s (forwardOwn q s) := ⟨rfl, rfl⟩

theorem forwardOwn_frame (q : Queued) (s : State) {bs : List Block} (h : Within [.marks, .port] bs := by decide) :
    SameOutside bs s (forwardOwn q s) :=
  mono (bs := [.marks, .port]) ((withMarks s _).trans (withPort _ _)) h

/-- An ordinary mark of this station's own that fires with the builder OFF and forwarding on goes to the own-origin FIFO
(R44, R46). -/
theorem fireOrdinary_free {m : Mark} {s : State} (on : s.profile.forwarding = true) (off : s.builder.state = .off)
    (room : s.port.own.length < 4) (ordinary : m.kind.isBoundary = false) (here : m.source = .here) (hops : m.hops = 0) :
    fireOrdinary m (takeSerial s) = forwardOwn (freshNotice (.mark (payloadOf m)) s.port.serialCounter) s := by
  have slot : markSlot m.kind m.source = .own := by
    simp [markSlot, ordinary, here]
  have added : relayedBy m = none := by
    unfold relayedBy
    split
    · next source => cases here.symm.trans source
    · rfl
  unfold fireOrdinary
  rw [builderTakes_off _ _ (s := takeSerial s) off, relay, added, forward,
    if_pos (show (takeSerial s).profile.forwarding = true ∧ m.hops < maxHops from ⟨on, hops ▸ (by decide : 0 < 7)⟩), slot,
    offerMark_queued .own _ (takeSerial s) room]
  rfl

/-- The notice of a mark raised near the run count (R31, R46). -/
theorem notice_completeMark {r : Raising} {s : State} (near : s.length.runCount ≤ r.position + 262144)
    (lot : r.lotTag = none) : freshNotice (.mark (payloadOf (completeMark r s))) s.port.serialCounter =
      ownNotice s r.kind r.position r.span r.detail := by
  simp only [payloadOf, completeMark, lookBack_near _ _ near, lot]
  rfl

theorem completeMark_le_runCount {r : Raising} {s : State} (reached : r.position ≤ s.length.runCount) :
    (completeMark r s).position ≤ s.length.runCount :=
  (completeMark_position r s).le.trans ((lookBack_le _ _ _ _).trans (max_le reached le_rfl))

/-- A mark of an ordinary kind raised near the run count goes to the own-origin FIFO where it is forwarded freely. -/
theorem raiseMark_free {r : Raising} {s : State} (free : forwardsFreely s) (ordinary : r.kind.isBoundary = false)
    (lot : r.lotTag = none) (reached : r.position ≤ s.length.runCount)
    (near : s.length.runCount ≤ r.position + 262144) :
    raiseMark r s = forwardOwn (ownNotice s r.kind r.position r.span r.detail) s := by
  obtain ⟨on, off, room, fresh⟩ := free
  have fires : placementOf (completeMark r s) (takeSerial s) = .fires :=
    placementOf_fires fresh (ne_lotChange_of_ordinary ordinary) (completeMark_le_runCount reached)
  have placed : raiseMark r s = fireOrdinary (completeMark r s) (takeSerial s) := by
    rw [raiseMark, placeOrdinary, fires]
  rw [placed, fireOrdinary_free on off room ordinary rfl rfl, notice_completeMark near lot]

/-! ## The inputs -/

theorem senseInput_changeInput (i j : Nat) (f : SenseInput → SenseInput) (s : State) (within : i < s.sense.inputs.length) :
    senseInput (changeInput i f s) j = if j = i then f (senseInput s i) else senseInput s j :=
  getD_set s.sense.inputs i j _ resetInput within

/-- The filters of the inputs are the same in two states. -/
def FiltersStay (s t : State) : Prop :=
  ∀ j, (senseInput t j).filtered = (senseInput s j).filtered ∧ (senseInput t j).pending = (senseInput s j).pending

namespace FiltersStay

theorem of_sense {s t : State} (same : t.sense.inputs = s.sense.inputs) : FiltersStay s t := fun j => by
  rw [senseInput, same]; exact ⟨rfl, rfl⟩

theorem of_frame {bs : List Block} {s t : State} (same : SameOutside bs s t) (out : .sense ∉ bs := by decide) :
    FiltersStay s t := of_sense (congrArg SenseUnit.inputs (same .sense out))

theorem refl (s : State) : FiltersStay s s := of_sense rfl

theorem trans {s t u : State} (first : FiltersStay s t) (second : FiltersStay t u) : FiltersStay s u := fun j =>
  ⟨(second j).1.trans (first j).1, (second j).2.trans (first j).2⟩

theorem ite {p : Prop} [Decidable p] {s t u : State} (yes : FiltersStay s t) (no : FiltersStay s u) :
    FiltersStay s (if p then t else u) := by
  split <;> assumption

/-- A change of an input's gauge run leaves the filters. -/
theorem changeInput (i : Nat) (f : SenseInput → SenseInput) (s : State)
    (same : ∀ inp, (f inp).filtered = inp.filtered ∧ (f inp).pending = inp.pending) :
    FiltersStay s (changeInput i f s) := fun j => by
  by_cases within : i < s.sense.inputs.length
  · rw [senseInput_changeInput i j f s within]
    split
    · next e => subst e; exact same _
    · exact ⟨rfl, rfl⟩
  · have same : (Machine.changeInput i f s).sense.inputs = s.sense.inputs := List.set_eq_of_length_le (by omega)
    rw [senseInput, same]
    exact ⟨rfl, rfl⟩

theorem capGauge (i : Nat) (s : State) : FiltersStay s (capGauge i s) := by
  unfold Machine.capGauge
  split
  · exact ite ((of_frame (raiseMark_frame _ s (bs := [.marks, .feeds, .builder, .hold, .port, .link]))).trans
      (changeInput i _ _ fun _ => ⟨rfl, rfl⟩)) (refl s)
  · exact refl s

theorem capGauges (s : State) : FiltersStay s (capGauges s) := by
  unfold Machine.capGauges
  induction List.range 32 generalizing s with
  | nil => exact refl s
  | cons i rest ih => exact (capGauge i s).trans (ih _)

theorem advance (s : State) : FiltersStay s (advance s) := by
  refine FiltersStay.trans ?_ (capGauges _)
  exact of_frame ((((fireReached_frame _ s (bs := firingBlocks)).trans (lossTest_frame _ _)).trans (withLosses_frame _ _)).trans
    (builderAdvance_frame _))

theorem rowAdvance (s : State) : FiltersStay s (rowAdvance s) := by
  unfold Machine.rowAdvance
  refine ite (refl s) (ite ?_ ?_)
  · exact (of_frame (reachCeiling_frame s (bs := [.length, .hold, .port, .link]))).trans (advance _)
  · exact (of_frame (changeLength_frame _ s (bs := [.length]))).trans (advance _)

theorem rowEdge (s : State) : FiltersStay s (rowEdge s) := by
  have evaluated : FiltersStay s (knotRowEdge s) := of_frame (knotRowEdge_frame s
    (bs := [.knot, .marks, .feeds, .builder, .hold, .port, .link]))
  exact ite (evaluated.trans (rowAdvance _)) evaluated

theorem gaugeActive (i : Nat) (s : State) : FiltersStay s (gaugeActive i s) := by
  unfold Machine.gaugeActive
  split
  · exact refl s
  · exact changeInput i _ s fun _ => ⟨rfl, rfl⟩

theorem gaugeInactive (i : Nat) (s : State) : FiltersStay s (gaugeInactive i s) := by
  unfold Machine.gaugeInactive
  split
  · have closed := changeInput i (fun inp => { inp with gauge := none }) s fun _ => ⟨rfl, rfl⟩
    exact ite closed (closed.trans (of_frame (raiseMark_frame _ _
      (bs := [.marks, .feeds, .builder, .hold, .port, .link]))))
  · exact refl s

/-- Handing an edge on leaves the filters (R21 to R23). -/
theorem handEdge (i : Nat) (s : State) : FiltersStay s (handEdge i s) := by
  unfold Machine.handEdge
  split
  · exact of_frame (countKnot_frame i s (bs := [.knot]))
  · exact rowEdge s
  · exact of_frame (raiseMark_frame _ s (bs := [.marks, .feeds, .builder, .hold, .port, .link]))
  · exact of_frame (raiseMark_frame _ s (bs := [.marks, .feeds, .builder, .hold, .port, .link]))
  · exact of_frame (cutDone_frame s (bs := [.builder, .hold, .port, .link]))
  · exact refl s
  · exact refl s

theorem handLevel (i : Nat) (active : Bool) (s : State) : FiltersStay s (handLevel i active s) :=
  ite (ite (gaugeActive i s) (gaugeInactive i s)) (refl s)

theorem handChange (i : Nat) (level : Bool) (s : State) : FiltersStay s (handChange i level s) := by
  unfold Machine.handChange
  split
  · exact ite (handEdge i s) (refl s)
  · exact ite (refl s) (handEdge i s)
  · exact handLevel i _ s
  · exact handLevel i _ s

end FiltersStay

/-- After a level has been taken it is the filtered one, and nothing is pending (R20). -/
theorem senseInput_takeLevel (i : Nat) (level : Bool) {s : State} (within : i < s.sense.inputs.length) :
    (senseInput (takeLevel i level s) i).filtered = some level ∧ (senseInput (takeLevel i level s) i).pending = none := by
  obtain ⟨filtered, pending⟩ := FiltersStay.handChange i level
    (changeInput i (fun inp => { inp with filtered := some level, pending := none }) s) i
  rw [senseInput_changeInput i i _ s within, if_pos rfl] at filtered pending
  exact ⟨filtered, pending⟩

/-! ## Raw changes (O13) -/

theorem rawChange_same {i : Nat} {level : Bool} {s : State} (same : pinLevel s i = level) : rawChange i level s = s :=
  if_pos same

theorem watched_iff (s : State) (i : Nat) :
    watched s i = true ↔ s.station = .running ∧ (assignment s.profile i).service ≠ .unused := by
  simp [watched, State.isRunning]

/-- The part with another level on an input's pin. -/
def withLevel (i : Nat) (level : Bool) (s : State) : State :=
  s.withPins { s.pins with sns := s.pins.sns.set i level }

theorem rawChange_unwatched {i : Nat} {level : Bool} {s : State} (change : pinLevel s i ≠ level)
    (off : ¬watched s i = true) : rawChange i level s = withLevel i level s :=
  (if_neg change).trans (if_neg off)

theorem rawChange_watched {i : Nat} {level : Bool} {s : State} (change : pinLevel s i ≠ level)
    (on : watched s i = true) : rawChange i level s = filterRaw i level (withLevel i level s) :=
  (if_neg change).trans (if_pos on)

theorem rawChange_pins {i : Nat} {level : Bool} {s : State} (change : pinLevel s i ≠ level) :
    (rawChange i level s).pins = { s.pins with sns := s.pins.sns.set i level } := by
  by_cases on : watched s i = true
  · rw [rawChange_watched change on]
    exact (filterRaw_frame i level (withLevel i level s) (bs := countBlocks)) .pins (by decide)
  · rw [rawChange_unwatched change on]
    rfl

/-- Settles O13, by the filtered level and the filter time. -/
theorem rawChangeStartsOrCancelsTheFilter : Obligations.RawChangeStartsOrCancelsTheFilter := by
  intro i level s places
  have inputs : i.val < s.sense.inputs.length := i.2.trans_eq places.2.1.symm
  refine ⟨fun same => congrArg Host.Outcome.next (rawChange_same same), fun change => ⟨_, rfl, rawChange_pins change,
    fun off => ?_, fun running used => ?_⟩⟩
  · have unwatched : ¬watched s i = true := by
      rw [watched_iff]
      rintro ⟨running, used⟩
      rw [running] at off
      exact off.elim nofun used
    rw [rawChange_unwatched change unwatched]
    exact withPins s _
  · rw [rawChange_watched change ((watched_iff s i).2 ⟨running, used⟩)]
    have levelled : SameOutside [.pins, .sense] s (withLevel i level s) := withPins s _
    refine ⟨fun standing => ?_, fun new slow => ?_, fun new quick => ?_⟩
    · rw [filterRaw, if_pos (show (senseInput (withLevel i level s) i).filtered = some level from standing)]
      exact ⟨rfl, levelled.trans (changeInput_frame _ _ _)⟩
    · rw [filterRaw, if_neg (show (senseInput (withLevel i level s) i).filtered ≠ some level from new),
        if_neg (show (assignment (withLevel i level s).profile i).filter ≠ 0 from slow.ne')]
      exact ⟨rfl, levelled.trans (changeInput_frame _ _ _)⟩
    · rw [filterRaw, if_neg (show (senseInput (withLevel i level s) i).filtered ≠ some level from new),
        if_pos (show (assignment (withLevel i level s).profile i).filter = 0 from quick)]
      exact senseInput_takeLevel i level inputs

/-! ## Filter expiries (O14) -/

/-- The part whose pending change of an input has become its filtered level (R20). -/
def taken (s : State) (i : Nat) : State := s.withSense (withInput s i (settled s i))

theorem taken_frame (s : State) (i : Nat) {bs : List Block} (h : Within [.sense] bs := by decide) :
    SameOutside bs s (taken s i) := withSense s _ h

theorem withInput_taken (s : State) (i : Nat) (input : SenseInput) : withInput (taken s i) i input = withInput s i input := by
  simp [withInput, taken]

theorem senseInput_taken {s : State} {i : Nat} (within : i < s.sense.inputs.length) :
    senseInput (taken s i) i = settled s i := by
  change (s.sense.inputs.set i (settled s i)).getD i resetInput = settled s i
  rw [getD_set _ _ _ _ _ within, if_pos rfl]

/-- An expiry before the filter time is over does nothing (entry 4). -/
theorem filterExpiry_early {s : State} {i : Nat} (early : ∀ p, (senseInput s i).pending = some p →
    s.now < p.since + (assignment s.profile i).filter * 10) : filterExpiry i s = s := by
  unfold filterExpiry filterDue
  cases pending : (senseInput s i).pending with
  | none => rfl
  | some p =>
    have later := early p pending
    simp [timeCome, filterUnit, later]

/-- An expiry at the filter time takes the pending level and hands the change on (R20). -/
theorem filterExpiry_due {s : State} {i : Nat} {p : PendingLevel} (pending : (senseInput s i).pending = some p)
    (due : p.since + (assignment s.profile i).filter * 10 ≤ s.now) :
    filterExpiry i s = handChange i p.level (taken s i) := by
  unfold filterExpiry filterDue
  have same : settled s i = { senseInput s i with filtered := some p.level, pending := none } := by
    rw [settled, pending]; rfl
  rw [pending]
  simp only [Option.map_some, timeCome, filterUnit, due, decide_true, if_true, takeLevel, changeInput, taken, withInput,
    same]

theorem handChange_edge {s : State} {i : Nat} {level : Bool}
    (toward : ((assignment s.profile i).detection = .rising ∧ level = true) ∨
      ((assignment s.profile i).detection = .falling ∧ level = false)) : handChange i level s = handEdge i s := by
  obtain ⟨detection, rfl⟩ | ⟨detection, rfl⟩ := toward <;> simp [handChange, detection]

theorem handChange_against {s : State} {i : Nat} {level : Bool}
    (against : ((assignment s.profile i).detection = .rising ∧ level = false) ∨
      ((assignment s.profile i).detection = .falling ∧ level = true)) : handChange i level s = s := by
  obtain ⟨detection, rfl⟩ | ⟨detection, rfl⟩ := against <;> simp [handChange, detection]

/-- An edge in its service's direction is handed on once its filter time is over (R20, R21). -/
theorem exec_edgeIsDue {s : State} {i : Fin 32} (edge : edgeIsDue s i) :
    exec (.senseFilterExpiry i) s = .next (handEdge i (taken s i)) := by
  obtain ⟨p, pending, due, toward⟩ := edge
  exact congrArg Host.Outcome.next ((filterExpiry_due pending due).trans (handChange_edge toward))

theorem handEdge_splice {s : State} {i : Nat} (service : (assignment s.profile i).service = .splice) :
    handEdge i s = raiseMark (edgeMark .splice 0 s.length.runCount) s := by
  simp [handEdge, service]

theorem handEdge_operator {s : State} {i : Nat} (service : (assignment s.profile i).service = .operator) :
    handEdge i s = raiseMark (edgeMark .operator i s.length.runCount) s := by
  simp [handEdge, service]

theorem handEdge_knotSection {s : State} {i : Nat} (service : (assignment s.profile i).service = .knotSection) :
    handEdge i s = countKnot i s := by
  simp [handEdge, service]

/-- A mark of an edge that is forwarded freely (R23, R46). -/
theorem edgeMark_free {s : State} (kind : MarkKind) (detail : Nat) (free : forwardsFreely s)
    (ordinary : kind.isBoundary = false) : raiseMark (edgeMark kind detail s.length.runCount) s =
      forwardOwn (ownNotice s kind s.length.runCount 0 (BitVec.ofNat 16 detail)) s :=
  raiseMark_free free ordinary rfl le_rfl (Nat.le_add_right _ _)

/-- Settles O14, by the direction of the change and the service. -/
theorem filterExpiryHandsOnTheEdge : Obligations.FilterExpiryHandsOnTheEdge := by
  intro i s places
  have inputs : i.val < s.sense.inputs.length := i.2.trans_eq places.2.1.symm
  refine ⟨fun early => congrArg Host.Outcome.next (filterExpiry_early early), fun p pending due => ?_,
    fun edge free => ⟨fun service => ?_, fun service => ?_⟩, fun edge service => ?_⟩
  · refine ⟨_, congrArg Host.Outcome.next (filterExpiry_due pending due), ?_, ?_, fun against => ?_⟩
    · rw [(FiltersStay.handChange i p.level (taken s i) i).1, senseInput_taken inputs, settled, pending]
      rfl
    · rw [(FiltersStay.handChange i p.level (taken s i) i).2, senseInput_taken inputs]
      rfl
    · rw [handChange_against (s := taken s i) against]
      exact ⟨rfl, taken_frame s i⟩
  · refine ⟨_, exec_edgeIsDue edge, ?_⟩
    rw [handEdge_splice (s := taken s i) service, edgeMark_free (s := taken s i) .splice 0 free rfl]
    exact ⟨rfl, ⟨rfl, rfl⟩, (taken_frame s i).trans (forwardOwn_frame _ _)⟩
  · refine ⟨_, exec_edgeIsDue edge, ?_⟩
    rw [handEdge_operator (s := taken s i) service, edgeMark_free (s := taken s i) .operator i free rfl]
    exact ⟨rfl, ⟨rfl, rfl⟩, (taken_frame s i).trans (forwardOwn_frame _ _)⟩
  · refine ⟨_, exec_edgeIsDue edge, ?_⟩
    rw [handEdge_knotSection (s := taken s i) service]
    refine ⟨(countKnot_frame i (taken s i) (bs := [.knot])) .sense (by decide), fun off => ?_, fun on => ?_⟩
    · rw [countKnot, if_pos (show (taken s i).knot.state = .off from off)]
      exact taken_frame s i
    · rw [countKnot, if_neg (show (taken s i).knot.state ≠ .off from on)]
      exact ⟨rfl, (taken_frame s i).trans (changeKnot_frame _ _)⟩

/-! ## SPLICE edges in the coil (O16) -/

/-- With forwarding off, an ordinary mark raised here that fires is only recorded (R44, R46). -/
theorem fireOrdinary_unforwarded {r : Raising} {s : State} (still : s.profile.forwarding = false) :
    fireOrdinary (completeMark r s) (takeSerial s) = builderTakes (completeMark r s) none (takeSerial s) := by
  have off : (builderTakes (completeMark r s) none (takeSerial s)).profile.forwarding = false := by
    rw [(builderTakes_frame _ none (takeSerial s) (bs := [.builder, .hold, .port, .link])) .profile (by decide)]
    exact still
  rw [fireOrdinary, relay_completeMark, forward, if_neg (by rw [off]; simp)]

/-- How a SPLICE mark raised at the run count is recorded: listed at its offset while there is room, and counted (R132). -/
theorem recordMark_spliceMark (s : State) (c : Coil) :
    recordMark (completeMark (edgeMark .splice 0 s.length.runCount) s) false false c = { c with
      splices := min (c.splices + 1) 65535
      events := if c.events.length < 12 then
          c.events ++
            [{ kind := .splice, offset := s.length.runCount - c.start, span := 0
               origin := { station := s.stationNumber, serial := s.marks.nextSerial }, detail := 0
               flags := noEventFlags }]
        else c.events
      unlisted := if c.events.length < 12 then c.unlisted else min (c.unlisted + 1) 65535 } := by
  have near := lookBack_near (runCount := s.length.runCount) 0 false (Nat.le_add_right _ 262144)
  have span : s.length.runCount - max s.length.runCount c.start = 0 := by omega
  unfold recordMark
  by_cases room : c.events.length < 12
  · simp [room, eventPlaces, eventOf, completeMark, edgeMark, near, spanInCoil, span, noEventFlags, tally, MarkKind.isFault]
  · simp [room, eventPlaces, completeMark, edgeMark, tally, MarkKind.isFault]

/-- Settles O16: the mark raised by the edge fires and the builder records it. -/
theorem spliceEdgeIsRecordedInTheCoil : Obligations.SpliceEdgeIsRecordedInTheCoil := by
  intro i s cur places service edge still atWork current fresh
  refine ⟨_, exec_edgeIsDue edge, ?_⟩
  rw [handEdge_splice (s := taken s i) service]
  have fires : placementOf (completeMark (edgeMark .splice 0 s.length.runCount) (taken s i)) (takeSerial (taken s i)) =
      .fires := placementOf_fires fresh nofun (completeMark_le_runCount (s := taken s i) le_rfl)
  rw [raiseMark, placeOrdinary, show (taken s i).length = s.length from rfl, fires]
  dsimp only
  rw [fireOrdinary_unforwarded (s := taken s i) still, builderTakes,
    if_neg (show (takeSerial (taken s i)).builder.state ≠ .off from atWork), if_neg (by simp [completeMark, edgeMark, MarkKind.isBoundary]),
    changeRecord, changeCoil]
  refine ⟨rfl, rfl, ?_, ((taken_frame s i).trans (takeSerial_frame _)).trans (withBuilder _ _)⟩
  rw [State.withBuilder_builder, show (takeSerial (taken s i)).builder = s.builder from rfl, current]
  exact congrArg (fun c => { s.builder with current := some { cur with record := c } })
    (recordMark_spliceMark (taken s i) cur.record)

end Sys2Proof.Machine
end

section
/-! PROOFS. Gauge runs (2.5): their opening and closing by the input, and their cap by an advance (O15). What an advance
does that reaches no mark. -/

namespace Sys2Proof.Machine

-- One theorem after another: side by side they need more threads than the memory of the check allows.
set_option Elab.async false

open SameOutside

/-! ## Gauge turns (R21, R24) -/

theorem handChange_gauge {s : State} {i : Nat} {level active : Bool} (service : (assignment s.profile i).service = .gauge)
    (turn : ((assignment s.profile i).detection = .high ∧ level = active) ∨
      ((assignment s.profile i).detection = .low ∧ level = !active)) :
    handChange i level s = if active then gaugeActive i s else gaugeInactive i s := by
  obtain ⟨detection, rfl⟩ | ⟨detection, rfl⟩ := turn <;> simp [handChange, detection, handLevel, service]

/-- A GAUGE input's turn is handed on once its filter time is over (R20, R21). -/
theorem exec_gaugeTurnIsDue {s : State} {i : Fin 32} {active : Bool} (service : (assignment s.profile i).service = .gauge)
    (turn : gaugeTurnIsDue s i active) : exec (.senseFilterExpiry i) s =
      .next (if active then gaugeActive i (taken s i) else gaugeInactive i (taken s i)) := by
  obtain ⟨p, pending, due, toward⟩ := turn
  exact congrArg Host.Outcome.next ((filterExpiry_due pending due).trans (handChange_gauge (s := taken s i) service toward))

theorem gaugeActive_opens {s : State} {i : Nat} (closed : (senseInput s i).gauge = none) :
    gaugeActive i s = openGauge i s := by
  rw [gaugeActive, closed]

/-- The closing of a gauge run by its input (R24, R25). -/
theorem gaugeInactive_closes {s : State} {i : Nat} {run : GaugeRun} (opened : (senseInput s i).gauge = some run) :
    gaugeInactive i s =
      if run.byCap ∧ run.start = s.length.runCount then changeInput i (fun inp => { inp with gauge := none }) s
      else raiseMark (gaugeFault (min run.start s.length.runCount) (s.length.runCount - run.start) false)
        (changeInput i (fun inp => { inp with gauge := none }) s) := by
  rw [gaugeInactive, opened]

/-- A change of an input just settled. -/
theorem changeInput_taken {s : State} {i : Nat} (within : i < s.sense.inputs.length) (f : SenseInput → SenseInput) :
    changeInput i f (taken s i) = s.withSense (withInput s i (f (settled s i))) := by
  change (taken s i).withSense (withInput (taken s i) i (f (senseInput (taken s i) i))) = _
  rw [senseInput_taken within, withInput_taken]
  rfl

/-! ## An advance that reaches no mark (R12, R43) -/

/-- With every waiting mark ahead, none fires. -/
theorem fireReached_ahead_eq (n : Nat) {s : State} (ahead : Ahead s) : fireReached n s = s := by
  cases n with
  | zero => rfl
  | succ n =>
    unfold fireReached
    split
    · next m rest marks =>
      have later := ahead m (by rw [marks]; exact List.mem_cons_self)
      rw [if_neg (by omega)]
    · rfl

theorem lossTest_state (is : List LossInterval) (s : State) : (lossTest is s).builder.state = s.builder.state := by
  unfold lossTest
  split
  · split <;> rfl
  · rfl

theorem addTarget_state (s : State) : (addTarget s).builder.state = s.builder.state := by
  unfold addTarget
  split <;> rfl

theorem cutTest_idle {s : State} (off : s.builder.state ≠ .building) : cutTest s = s := by
  unfold cutTest
  split
  · next building _ => exact absurd building off
  · rfl

/-- An advance up to its gauge runs (R12). -/
def beforeCaps (s : State) : State :=
  let fired := fireReached s.marks.marks.length s
  let tested := lossTest fired.feeds.losses fired
  builderAdvance (withLosses (passed tested.length.runCount ((reachedMarks s).filterMap relayedBy) tested.feeds.losses)
    tested)

theorem advance_eq (s : State) : advance s = capGauges (beforeCaps s) := rfl

theorem beforeCaps_frame (s : State) {bs : List Block} (h : Within firingBlocks bs := by decide) :
    SameOutside bs s (beforeCaps s) :=
  mono (bs := firingBlocks) ((((fireReached_frame _ s).trans (lossTest_frame _ _)).trans (withLosses_frame _ _)).trans
    (builderAdvance_frame _)) h

/-- With the builder OFF and no mark reached, what comes before the gauge runs leaves all but the loss list and the
record of the coil. -/
theorem beforeCaps_quiet {s : State} (ahead : Ahead s) (off : s.builder.state = .off) :
    SameOutside [.feeds, .builder] s (beforeCaps s) ∧ (beforeCaps s).builder.state = .off := by
  unfold beforeCaps
  rw [fireReached_ahead_eq _ ahead]
  dsimp only
  have tested := lossTest_state s.feeds.losses s
  have tested' := lossTest_frame s.feeds.losses s (bs := [.feeds, .builder])
  generalize lossTest s.feeds.losses s = t at tested tested'
  have state : (addTarget (withLosses (passed t.length.runCount ((reachedMarks s).filterMap relayedBy)
      t.feeds.losses) t)).builder.state = .off := (addTarget_state _).trans (tested.trans off)
  rw [builderAdvance, cutTest_idle (by rw [state]; exact nofun)]
  exact ⟨(tested'.trans (withLosses_frame _ _)).trans (addTarget_frame _), state⟩

theorem forwardsFreely_congr {s t : State} (free : forwardsFreely s) (profile : t.profile = s.profile)
    (off : t.builder.state = .off) (port : t.port = s.port) (marks : t.marks = s.marks) : forwardsFreely t := by
  obtain ⟨on, -, room, fresh⟩ := free
  rw [forwardsFreely, State.stationNumber, profile, port, marks]
  exact ⟨on, off, room, fresh⟩

theorem ownNotice_congr {s t : State} (kind : MarkKind) (position span : Nat) (detail : BitVec 16)
    (profile : t.profile = s.profile) (lots : t.lots = s.lots) (port : t.port = s.port) (marks : t.marks = s.marks) :
    ownNotice t kind position span detail = ownNotice s kind position span detail := by
  rw [ownNotice, ownNotice, State.stationNumber, State.stationNumber, profile, lots, port, marks]

theorem forwardedOwn_congr {s t u : State} {q : Queued} (forwarded : forwardedOwn q t u) (port : t.port = s.port)
    (marks : t.marks = s.marks) : forwardedOwn q s u := by
  rw [forwardedOwn, ← port, ← marks]
  exact forwarded

/-! ## Gauge runs at an advance (R25) -/

/-- A gauge run at a run count: at the span cap it opens again there (R25). -/
def cappedRun (count : Nat) (gauge : Option GaugeRun) : Option GaugeRun :=
  gauge.map fun run => if run.start + 131071 ≤ count then { start := count, byCap := true } else run

theorem capGauge_short {s : State} {i : Nat}
    (short : ∀ r, (senseInput s i).gauge = some r → s.length.runCount < r.start + 131071) : capGauge i s = s := by
  unfold capGauge
  split
  · next run opened =>
    have := short run opened
    exact if_neg (show ¬run.start + 131071 ≤ s.length.runCount by omega)
  · rfl

theorem capGauge_full {s : State} {i : Nat} {run : GaugeRun} (opened : (senseInput s i).gauge = some run)
    (full : run.start + 131071 ≤ s.length.runCount) : capGauge i s =
      changeInput i (fun inp => { inp with gauge := some { start := s.length.runCount, byCap := true } })
        (raiseMark (gaugeFault run.start 131071 true) s) := by
  rw [capGauge, opened]
  exact if_pos full

theorem capGauge_runCount (i : Nat) (s : State) : (capGauge i s).length = s.length :=
  (capGauge_frame i s (bs := gaugeBlocks)) .length (by decide)

theorem capGauge_inputs (i : Nat) (s : State) : (capGauge i s).sense.inputs.length = s.sense.inputs.length := by
  unfold capGauge
  split
  · split
    · next run _ _ =>
      have raised : (raiseMark (gaugeFault run.start faultSpanCap true) s).sense = s.sense :=
        (raiseMark_frame _ s (bs := [.marks, .feeds, .builder, .hold, .port, .link])) .sense (by decide)
      rw [← raised]
      exact List.length_set
    · rfl
  · rfl

theorem senseInput_of_sense {s t : State} (same : t.sense = s.sense) (i : Nat) : senseInput t i = senseInput s i := by
  rw [senseInput, same]; rfl

/-- What the cap test of one input does to every gauge run (R25). -/
theorem gauge_capGauge {s : State} {i : Nat} (j : Nat) (within : i < s.sense.inputs.length) :
    (senseInput (capGauge i s) j).gauge =
      if j = i then cappedRun s.length.runCount (senseInput s i).gauge else (senseInput s j).gauge := by
  cases opened : (senseInput s i).gauge with
  | none =>
    rw [capGauge_short fun r h => absurd (opened.symm.trans h) nofun]
    split
    · next e => subst e; exact opened
    · rfl
  | some run =>
    by_cases full : run.start + 131071 ≤ s.length.runCount
    · rw [capGauge_full opened full]
      have raised : (raiseMark (gaugeFault run.start 131071 true) s).sense = s.sense :=
        (raiseMark_frame _ s (bs := [.marks, .feeds, .builder, .hold, .port, .link])) .sense (by decide)
      rw [senseInput_changeInput i j _ _ (by rw [raised]; exact within), senseInput_of_sense raised j]
      split
      · exact (congrArg some (if_pos full)).symm
      · rfl
    · rw [capGauge_short fun r h => by cases opened.symm.trans h; omega]
      split
      · next e => subst e; exact opened.trans (congrArg some (if_neg full)).symm
      · rfl

theorem gauge_foldl_capGauge (l : List Nat) (once : l.Nodup) {s : State} (j : Nat)
    (within : ∀ i ∈ l, i < s.sense.inputs.length) :
    (senseInput (l.foldl (fun t i => capGauge i t) s) j).gauge =
      if j ∈ l then cappedRun s.length.runCount (senseInput s j).gauge else (senseInput s j).gauge := by
  induction l generalizing s with
  | nil => rfl
  | cons i rest ih =>
    obtain ⟨new, once⟩ := List.nodup_cons.1 once
    rw [List.foldl_cons, ih once fun k hk => by
      rw [capGauge_inputs]; exact within k (List.mem_cons_of_mem _ hk), capGauge_runCount,
      gauge_capGauge j (within i List.mem_cons_self)]
    by_cases here : j = i
    · subst here
      simp [new]
    · simp [here]

/-- After an advance every gauge run has been tested against its cap at the run count (R25). -/
theorem gauge_advance {s : State} {i : Nat} (inputs : s.sense.inputs.length = 32) (within : i < 32) :
    (senseInput (advance s) i).gauge = cappedRun s.length.runCount (senseInput s i).gauge := by
  have same := beforeCaps_frame s (bs := firingBlocks)
  have sense : (beforeCaps s).sense = s.sense := same .sense (by decide)
  rw [advance_eq, capGauges, gauge_foldl_capGauge _ List.nodup_range i fun k hk => by
    rw [sense, inputs]; exact List.mem_range.1 hk, if_pos (List.mem_range.2 within), senseInput_of_sense sense,
    (show (beforeCaps s).length = s.length from same .length (by decide))]

theorem foldl_capGauge_short (l : List Nat) {s : State}
    (short : ∀ j ∈ l, ∀ r, (senseInput s j).gauge = some r → s.length.runCount < r.start + 131071) :
    l.foldl (fun t i => capGauge i t) s = s := by
  induction l with
  | nil => rfl
  | cons i rest ih =>
    rw [List.foldl_cons, capGauge_short (short i List.mem_cons_self)]
    exact ih fun j hj => short j (List.mem_cons_of_mem _ hj)

/-- With every gauge run short of its cap, none is capped. -/
theorem capGauges_short {s : State}
    (short : ∀ j < 32, ∀ r, (senseInput s j).gauge = some r → s.length.runCount < r.start + 131071) :
    capGauges s = s :=
  foldl_capGauge_short _ fun j hj => short j (List.mem_range.1 hj)

/-- With every other gauge run short of its cap, the cap test of one input is all. -/
theorem capGauges_one {s : State} {i : Nat} (inputs : s.sense.inputs.length = 32) (within : i < 32)
    (short : ∀ j < 32, j ≠ i → ∀ r, (senseInput s j).gauge = some r → s.length.runCount < r.start + 131071) :
    capGauges s = capGauge i s := by
  obtain ⟨before, after, split⟩ := List.append_of_mem (List.mem_range.2 within)
  have once : (before ++ i :: after).Nodup := split ▸ List.nodup_range
  have all : ∀ j ∈ before ++ i :: after, j < 32 := fun j hj => List.mem_range.1 (split ▸ hj)
  obtain ⟨-, tailOnce, apart⟩ := List.nodup_append.1 once
  have notBefore : ∀ j ∈ before, j ≠ i := fun j hj => apart j hj i List.mem_cons_self
  have notAfter : ∀ j ∈ after, j ≠ i := fun j hj e => (List.nodup_cons.1 tailOnce).1 (e ▸ hj)
  rw [capGauges, split, List.foldl_append, foldl_capGauge_short before fun j hj =>
    short j (all j (by simp [hj])) (notBefore j hj), List.foldl_cons, foldl_capGauge_short after fun j hj r => ?_]
  rw [gauge_capGauge j (by omega), if_neg (notAfter j hj), capGauge_runCount]
  exact short j (all j (by simp [hj])) (notAfter j hj) r

/-! ## Settling O15 -/

/-- The run count after a forward move (R5, R10). -/
theorem moveForward_runCount (p : Nat) (s : State) : (moveForward p s).length.runCount = min (p / 65536) maxCount := by
  by_cases below : p / 65536 < maxCount
  · rw [moveForward_below below]
    exact (min_eq_left below.le).symm
  · rw [moveForward_ceiling (by omega), reachCeiling_length]
    exact (min_eq_right (not_lt.1 below)).symm

/-- Whatever the order, the sense unit after a move that rises is that of the advance. -/
theorem gauge_afterMove {old : Nat} {moved : State} {i : Nat} (inputs : moved.sense.inputs.length = 32) (within : i < 32)
    (rise : old < moved.length.runCount) : (senseInput (afterMove old moved) i).gauge =
      cappedRun moved.length.runCount (senseInput moved i).gauge := by
  have capped (s : State) : (layCapTest s).sense = s.sense ∧ (layCapTest s).length = s.length := by
    have same := layCapTest_frame s (bs := [.lay, .marks, .feeds, .builder, .hold, .port, .link])
    exact ⟨same .sense (by decide), same .length (by decide)⟩
  have rises (s : State) (count : s.length = moved.length) : handOnRise old s = advance s :=
    if_pos (by rw [count]; exact rise)
  unfold afterMove
  split
  · split
    · rw [rises _ (capped moved.useOrder).2, gauge_advance (by rw [(capped _).1]; exact inputs) within, (capped _).2,
        senseInput_of_sense (capped _).1]
      rfl
    · rw [senseInput_of_sense (capped _).1, rises moved.useOrder rfl]
      exact gauge_advance (s := moved.useOrder) inputs within
  · rw [rises _ rfl, gauge_advance inputs within]

/-- A gauge run that an advance takes to its cap raises its mark, where that is forwarded freely and is the only one. -/
theorem advance_caps {s : State} {i : Nat} {run : GaugeRun} (inputs : s.sense.inputs.length = 32) (within : i < 32)
    (opened : (senseInput s i).gauge = some run) (full : run.start + 131071 ≤ s.length.runCount)
    (near : s.length.runCount ≤ run.start + 262144) (free : forwardsFreely s) (ahead : Ahead s)
    (short : ∀ j < 32, j ≠ i → ∀ r, (senseInput s j).gauge = some r → s.length.runCount < r.start + 131071) :
    forwardedOwn (ownNotice s .gaugeFault run.start 131071 0) s (advance s) := by
  obtain ⟨same, off⟩ := beforeCaps_quiet ahead free.2.1
  have sense : (beforeCaps s).sense = s.sense := same .sense (by decide)
  have length : (beforeCaps s).length = s.length := same .length (by decide)
  have profile : (beforeCaps s).profile = s.profile := same .profile (by decide)
  have port : (beforeCaps s).port = s.port := same .port (by decide)
  have marks : (beforeCaps s).marks = s.marks := same .marks (by decide)
  rw [advance_eq, capGauges_one (by rw [sense]; exact inputs) within (by simpa [senseInput_of_sense sense, length] using short),
    capGauge_full (run := run) (by rw [senseInput_of_sense sense]; exact opened) (by rw [length]; exact full),
    raiseMark_free (forwardsFreely_congr free profile off port marks) rfl rfl
      (by rw [length]; exact (Nat.le_add_right _ _).trans full) (by rw [length]; exact near)]
  rw [← ownNotice_congr (t := beforeCaps s) .gaugeFault run.start 131071 0 profile (same .lots (by decide)) port marks]
  exact forwardedOwn_congr ⟨rfl, rfl⟩ port marks

theorem capReached_eq_false {s : State} {p : Nat}
    (short : ∀ w, s.lay.window = some w → p < w.start + 1310720000) : capReached s p = false := by
  unfold capReached
  split
  · next win _ window =>
    have := short win window
    exact decide_eq_false (show ¬win.start + 1310720000 ≤ p by omega)
  · rfl

/-- Settles O15: the input's turns by the run that stands, the advance by the cap test of every run. -/
theorem gaugeRunOpensAndRaisesItsMark : Obligations.GaugeRunOpensAndRaisesItsMark := by
  refine ⟨fun i s places service => ?_, fun i wha whb s run count places running wheel forward live counts rise opened => ?_⟩
  · have inputs : i.val < s.sense.inputs.length := i.2.trans_eq places.2.1.symm
    have settledGauge : (senseInput (taken s i) i).gauge = (senseInput s i).gauge := by
      rw [senseInput_taken inputs]; rfl
    refine ⟨fun turn closed => ⟨_, exec_gaugeTurnIsDue service turn, ?_⟩,
      fun turn run opened => ⟨fun byCap atStart => ⟨_, exec_gaugeTurnIsDue service turn, ?_⟩,
        fun covered free near => ⟨_, exec_gaugeTurnIsDue service turn, ?_⟩⟩⟩
    · rw [if_pos rfl, gaugeActive_opens (settledGauge.trans closed), openGauge, changeInput_taken inputs]
      exact ⟨rfl, withSense s _⟩
    · rw [if_neg nofun, gaugeInactive_closes (settledGauge.trans opened), if_pos ⟨byCap, atStart⟩,
        changeInput_taken inputs]
      exact ⟨rfl, withSense s _⟩
    · have raises : ¬(run.byCap = true ∧ run.start = (taken s i).length.runCount) := by
        rintro ⟨byCap, atStart⟩
        rw [byCap] at covered
        exact covered.elim nofun fun moved => moved atStart
      rw [if_neg nofun, gaugeInactive_closes (settledGauge.trans opened), if_neg raises, changeInput_taken inputs,
        show (taken s i).length = s.length from rfl,
        raiseMark_free (r := gaugeFault (min run.start s.length.runCount) (s.length.runCount - run.start) false)
          (s := s.withSense (withInput s i { settled s i with gauge := none })) free rfl rfl (min_le_right _ _)
          (show s.length.runCount ≤ min run.start s.length.runCount + 262144 by omega)]
      exact ⟨rfl, ⟨rfl, rfl⟩, (withSense s _).trans (forwardOwn_frame _ _)⟩
  · have counted := exec_wheelChange_turnsForward wha whb s running wheel forward
    have position : (followed wha whb s).fullPosition + (followed wha whb s).profile.wheelStep =
        s.fullPosition + s.profile.wheelStep := rfl
    rw [forwardCount_eq (s := followed wha whb s) live, position] at counted
    have moved := moveForward_frame (s.fullPosition + s.profile.wheelStep) (followed wha whb s)
      (bs := [.length, .hold, .port, .link])
    have sense : (moveForward (s.fullPosition + s.profile.wheelStep) (followed wha whb s)).sense = s.sense :=
      moved .sense (by decide)
    have runCount := moveForward_runCount (s.fullPosition + s.profile.wheelStep) (followed wha whb s)
    rw [← counts] at runCount
    have gauge := gauge_afterMove (old := s.length.runCount) (i := i) (by rw [sense]; exact places.2.1) i.2
      (rise.trans_eq runCount.symm)
    rw [runCount, senseInput_of_sense sense, opened] at gauge
    refine ⟨_, counted, fun short => gauge.trans (congrArg some (if_neg (by omega))),
      fun full => gauge.trans (congrArg some (if_pos full)), fun full near below free ahead short window => ?_⟩
    have low : (s.fullPosition + s.profile.wheelStep) / 65536 < maxCount := by omega
    have place : (moveForward (s.fullPosition + s.profile.wheelStep) (followed wha whb s)).fullPosition =
        s.fullPosition + s.profile.wheelStep := by
      rw [moveForward_below low]
      exact Nat.div_add_mod' _ 65536
    have same : SameOutside [.pins, .length] s
        (moveForward (s.fullPosition + s.profile.wheelStep) (followed wha whb s)) := by
      rw [moveForward_below low]
      exact (followed_frame wha whb s).trans (withLength _ _)
    have quiet : afterMove s.length.runCount (moveForward (s.fullPosition + s.profile.wheelStep) (followed wha whb s)) =
        advance (moveForward (s.fullPosition + s.profile.wheelStep) (followed wha whb s)) := by
      rw [afterMove, place, capReached_eq_false fun w h => ?_, if_neg nofun, handOnRise, if_pos (rise.trans_eq runCount.symm)]
      exact window w ((congrArg LayMonitor.window (same .lay (by decide))).symm.trans h)
    rw [show (followed wha whb s).length.runCount = s.length.runCount from rfl, quiet]
    generalize moveForward (s.fullPosition + s.profile.wheelStep) (followed wha whb s) = u at *
    have port : u.port = s.port := same .port (by decide)
    have marks : u.marks = s.marks := same .marks (by decide)
    have profile : u.profile = s.profile := same .profile (by decide)
    have builder : u.builder = s.builder := same .builder (by decide)
    rw [← ownNotice_congr (t := u) .gaugeFault run.start 131071 0 profile (same .lots (by decide)) port marks]
    refine forwardedOwn_congr (advance_caps (i := i) (by rw [sense]; exact places.2.1) i.2
      ((congrArg SenseInput.gauge (senseInput_of_sense sense i)).trans opened) (full.trans_eq runCount.symm)
      (runCount.trans_le near) (forwardsFreely_congr free profile (by rw [builder]; exact free.2.1) port marks) (fun m hm => ?_)
      fun j hj other r hr => ?_) port marks
    · rw [runCount]
      exact ahead m (by rw [← marks]; exact hm)
    · rw [runCount]
      exact short j hj other r ((congrArg SenseInput.gauge (senseInput_of_sense sense j)).symm.trans hr)

end Sys2Proof.Machine
end

section
/-! PROOFS. SPIN (2.6) and the lay monitor (chapter 5): what a spindle edge counts (O17), and the window it completes
(O18). -/

namespace Sys2Proof.Machine

-- One theorem after another: side by side they need more threads than the memory of the check allows.
set_option Elab.async false

open SameOutside

/-! ## SPIN (R26) -/

/-- A change of level on SPIN in RUNNING starts or cancels the pending change (R26). -/
theorem spinChange_running {level : Bool} {s : State} (change : s.pins.spin ≠ level) (running : s.station = .running) :
    spinChange level s = (s.withPins { s.pins with spin := level }).withSense { s.sense with
      spinPending := if s.sense.spinFiltered = some level then none else some { level := level, since := s.now } } :=
  (if_neg change).trans (if_pos (isRunning_of_running running))

theorem spinChange_open {level : Bool} {s : State} (change : s.pins.spin ≠ level) (opened : s.station = .openState) :
    spinChange level s = s.withPins { s.pins with spin := level } :=
  (if_neg change).trans (if_neg (Bool.eq_false_iff.1 (isRunning_of_open (s := s.withPins _) opened)))

/-- The part whose SPIN filter has taken a level (R26). -/
def spun (level : Bool) (s : State) : State :=
  s.withSense { s.sense with spinFiltered := some level, spinPending := none }

theorem spun_frame (level : Bool) (s : State) {bs : List Block} (h : Within [.sense] bs := by decide) :
    SameOutside bs s (spun level s) := withSense s _ h

/-- An expiry of the SPIN filter at its time: a rise is a spindle edge (R26). -/
theorem spinExpiry_due {s : State} {p : PendingLevel} (pending : s.sense.spinPending = some p) (due : p.since + 50 ≤ s.now) :
    spinExpiry s = if p.level then spindleEdge (spun p.level s) else spun p.level s := by
  simp only [spinExpiry, spinDue, pending, Option.map_some, timeCome, spinFilter, due, decide_true, if_true]
  rfl

/-- The lay monitor does not work off, nor while suspended (R74, R75). -/
theorem spindleEdge_idle {s : State} (idle : s.lay.state = .off ∨ s.lay.state = .suspended) : spindleEdge s = s := by
  unfold spindleEdge
  obtain state | state := idle <;> rw [state]

theorem spindleEdge_settling {s : State} {w : LayWorkingSet} (settling : s.lay.state = .settling)
    (working : s.lay.working = some w) : spindleEdge s =
      if w.settleTurns ≤ s.lay.settleCount + s.profile.twistsPerPulse then openWindow s
      else changeLay (fun l => { l with settleCount := s.lay.settleCount + s.profile.twistsPerPulse }) s := by
  simp [spindleEdge, settling, working]

theorem spindleEdge_measuring {s : State} {w : LayWorkingSet} {win : LayWindow} (measuring : s.lay.state = .measuring)
    (working : s.lay.working = some w) (window : s.lay.window = some win) : spindleEdge s =
      if w.windowTwists ≤ win.twists + s.profile.twistsPerPulse then
        closeWindow w { win with twists := win.twists + s.profile.twistsPerPulse } s
      else changeLay (fun l => { l with
        window := some { win with twists := win.twists + s.profile.twistsPerPulse } }) s := by
  simp [spindleEdge, measuring, working, window]

/-- Settles O17, by the level and the state of the lay monitor. -/
theorem spindleEdgesAreFilteredAndCounted : Obligations.SpindleEdgesAreFilteredAndCounted := by
  refine fun level s => ⟨fun change => ⟨_, rfl, ?_, fun opened => ?_, fun running => ?_⟩, fun p pending due =>
    ⟨_, congrArg Host.Outcome.next (spinExpiry_due pending due), ?_, fun still => ?_, fun rise w working =>
      ⟨fun settling => ?_, fun win measuring window short => ?_⟩⟩⟩
  · cases station : s.station with
    | openState => rw [spinChange_open change station]; rfl
    | running => rw [spinChange_running change station]; rfl
  · rw [spinChange_open change opened]
    exact withPins s _
  · rw [spinChange_running change running]
    exact ⟨rfl, (withPins s _).trans (withSense _ _)⟩
  · split
    · exact (spindleEdge_frame (spun p.level s) (bs := layBlocks)) .sense (by decide)
    · rfl
  · split
    · rw [spindleEdge_idle (s := spun p.level s) (still.resolve_left (by rw [‹p.level = true›]; exact nofun))]
      exact spun_frame _ s
    · exact spun_frame _ s
  · rw [if_pos rise, spindleEdge_settling (s := spun p.level s) settling working]
    refine ⟨?_, (spun_frame _ s).trans (SameOutside.ite (openWindow_frame _) (changeLay_frame _ _))⟩
    change (if w.settleTurns ≤ s.lay.settleCount + s.profile.twistsPerPulse then _ else _ : State).lay = _
    split <;> rfl
  · rw [if_pos rise, spindleEdge_measuring (s := spun p.level s) measuring working window,
      if_neg (show ¬w.windowTwists ≤ win.twists + (spun p.level s).profile.twistsPerPulse from not_le.2 short)]
    exact ⟨rfl, (spun_frame _ s).trans (changeLay_frame _ _)⟩

/-! ## The numbers of a window (R77, R78) -/

/-- The lay of a window that the wire ran forward over (R77). -/
theorem layOf_eq {delta : Int} {twists lay : Nat} (turned : 0 < twists) (still : delta ≤ 0 → lay = 0)
    (ran : 0 < delta → (lay : Int) = min 65535 ((delta * 10 + twists * 32768) / (twists * 65536))) :
    layOf delta twists = lay := by
  unfold layOf
  split
  · exact (still ‹_›).symm
  · next forward =>
    have length : ((delta.toNat : Nat) : Int) = delta := Int.toNat_of_nonneg (by omega)
    rw [if_neg turned.ne']
    have := ran (by omega)
    rw [← length] at this
    exact_mod_cast this.symm

/-- The deviation of a lay, as the spec rounds it (R78). -/
theorem deviationOf_eq {lay nominal : Nat} {error dev : Int} (is : error = ((lay : Int) - (nominal : Int)) * 1000)
    (long : 0 ≤ error → dev = min 999 ((2 * error + nominal) / (2 * nominal)))
    (short : error < 0 → dev = max (-999) (-((2 * -error + nominal) / (2 * nominal)))) :
    deviationOf lay nominal = dev := by
  have size : (((2 * error.natAbs + nominal) / (2 * nominal) : Nat) : Int) =
      (2 * |error| + nominal) / (2 * nominal) := by
    push_cast
    rfl
  rw [deviationOf, ← is, roundHalfAway, clampInt]
  rw [size]
  have positive : 0 ≤ (2 * |error| + (nominal : Int)) / (2 * nominal) := by positivity
  split
  · next negative =>
    rw [short negative, abs_of_neg negative] at *
    omega
  · next forward =>
    rw [long (by omega), abs_of_nonneg (by omega)] at *
    omega

/-! ## What the tests of a window leave (R79 to R82) -/

/-- An ordinary mark raised at or behind the run count fires or is a duplicate: no hold changes (R36, R38). -/
theorem raiseMark_reached_frame {r : Raising} {s : State} (ordinary : r.kind.isBoundary = false)
    (reached : r.position ≤ s.length.runCount) {bs : List Block}
    (h : Within [.marks, .builder, .port, .link] bs := by decide) : SameOutside bs s (raiseMark r s) := by
  refine mono (bs := [.marks, .builder, .port, .link]) ?_ h
  have here : (completeMark r s).position ≤ (takeSerial s).length.runCount := completeMark_le_runCount reached
  have kind : ¬(completeMark r s).kind.isBoundary = true := Bool.eq_false_iff.1 ordinary
  rw [raiseMark, placeOrdinary]
  obtain dup | away | ⟨fires, -⟩ | ⟨ahead, -⟩ := placementOf_cases (completeMark r s) (takeSerial s)
  · rw [dup]
    exact (takeSerial_frame s).trans (countDuplicate_frame _)
  · rw [away]
    exact takeSerial_frame s
  · rw [fires]
    dsimp only
    rw [fireOrdinary, relay_completeMark, builderTakes, if_neg kind]
    exact (takeSerial_frame s).trans ((SameOutside.ite (refl _ _) (changeRecord_frame _ _)).trans (forward_frame _ _))
  · omega

theorem layStopTest_lay (w : LayWorkingSet) (dev : Int) (s : State) : (layStopTest w dev s).lay = s.lay :=
  (layStopTest_frame w dev s (bs := [.hold, .port, .link])) .lay (by decide)

theorem raiseMark_lay (r : Raising) (s : State) : (raiseMark r s).lay = s.lay :=
  (raiseMark_frame r s (bs := [.marks, .feeds, .builder, .hold, .port, .link])) .lay (by decide)

/-- A window in band ends the fault run (R81). -/
theorem measureLayRun_lay (k : Nat) (s : State) : (measureLayRun k s).lay = { s.lay with faultRun := none } := by
  unfold measureLayRun
  split
  · split
    · rw [raiseMark_lay]; rfl
    · rfl
  · next none => rw [← none]

theorem measureLayRun_hold_frame (k : Nat) (s : State) {bs : List Block}
    (h : Within [.lay, .marks, .builder, .port, .link] bs := by decide) : SameOutside bs s (measureLayRun k s) := by
  refine mono (bs := [.lay, .marks, .builder, .port, .link]) ?_ h
  unfold measureLayRun
  split
  · exact SameOutside.ite ((endLayRun_frame s).trans (raiseMark_reached_frame rfl (min_le_right _ _))) (endLayRun_frame s)
  · exact refl _ s

/-- A window out of band feeds the fault run, which closes at the span cap (R80, R82). -/
theorem feedLayRun_lay (start finish : Nat) (dev : Int) (s : State) : (feedLayRun start finish dev s).lay =
    { s.lay with faultRun :=
        if (extendLayRun s.lay.faultRun start finish dev).start + 131071 ≤ finish then none
        else some (extendLayRun s.lay.faultRun start finish dev) } := by
  unfold feedLayRun
  simp only [extendLayRun_finish]
  split
  · next full => rw [raiseMark_lay, if_pos (show _ + 131071 ≤ finish from full)]; rfl
  · next short => rw [if_neg (show ¬_ + 131071 ≤ finish from short)]; rfl

theorem feedLayRun_hold_frame {start finish : Nat} (dev : Int) {s : State} (here : finish ≤ s.length.runCount)
    {bs : List Block} (h : Within [.lay, .marks, .builder, .port, .link] bs := by decide) :
    SameOutside bs s (feedLayRun start finish dev s) := by
  refine mono (bs := [.lay, .marks, .builder, .port, .link]) ?_ h
  unfold feedLayRun
  simp only [extendLayRun_finish]
  split
  · next full =>
    refine (endLayRun_frame s).trans (raiseMark_reached_frame rfl ?_)
    exact ((Nat.le_add_right _ _).trans full).trans here
  · exact changeLay_frame _ s

theorem layBandTest_inBand {w : LayWorkingSet} {lay : Nat} (start finish : Nat) (dev : Int) (s : State)
    (low : w.bandLow ≤ lay) (high : lay ≤ w.bandHigh) :
    layBandTest w lay start finish dev s = measureLayRun w.faultWindows s := if_pos ⟨low, high⟩

theorem layBandTest_outOfBand {w : LayWorkingSet} {lay : Nat} (start finish : Nat) (dev : Int) (s : State)
    (out : lay < w.bandLow ∨ w.bandHigh < lay) :
    layBandTest w lay start finish dev s = feedLayRun (start / 65536) (finish / 65536) dev s := if_neg (by omega)

/-- Both tests of a window, in their order (R79). -/
def windowTests (w : LayWorkingSet) (lay start : Nat) (dev : Int) (s : State) : State :=
  layBandTest w lay start s.fullPosition dev (layStopTest w dev s)

theorem windowTests_lay (w : LayWorkingSet) (lay start : Nat) (dev : Int) (s : State) : ∃ run,
    (windowTests w lay start dev s).lay = { s.lay with faultRun := run } := by
  unfold windowTests layBandTest
  split
  · rw [measureLayRun_lay, layStopTest_lay]
    exact ⟨_, rfl⟩
  · rw [feedLayRun_lay, layStopTest_lay]
    exact ⟨_, rfl⟩

theorem windowTests_frame (w : LayWorkingSet) (lay start : Nat) (dev : Int) (s : State) :
    SameOutside layBlocks s (windowTests w lay start dev s) :=
  (layStopTest_frame w dev s).trans (layBandTest_frame _ _ _ _ _ _)

/-- A window over the stop tolerance gives and latches LAY_STOP (R79, step 1). -/
theorem windowTests_stops {w : LayWorkingSet} {dev : Int} (lay start : Nat) (s : State) (beyond : w.stopTolerance < dev.natAbs) :
    hasReason .layStop (windowTests w lay start dev s).hold.own = true ∧
      hasCondition .layStop (windowTests w lay start dev s).link.latched = true := by
  have stays : Path False .growing (layStopTest w dev s) (windowTests w lay start dev s) :=
    layBandTest_path w lay start _ dev _ nofun nofun
  have given : hasReason .layStop (layStopTest w dev s).hold.own = true := by
    rw [layStopTest, if_pos beyond, latch_hold, giveHold_own]
    exact hasReason_give _ _
  have latched : hasCondition .layStop (layStopTest w dev s).link.latched = true := by
    rw [layStopTest, if_pos beyond]
    exact latch_latches _ _
  exact ⟨stays.reasonsStay rfl _ nofun nofun given, stays.latchedStays rfl _ latched⟩

/-- Within the stop tolerance the hold unit is left alone. -/
theorem windowTests_hold {w : LayWorkingSet} {dev : Int} (lay start : Nat) {s : State} (fraction : s.length.fraction < 65536)
    (within : dev.natAbs ≤ w.stopTolerance) : (windowTests w lay start dev s).hold = s.hold := by
  rw [windowTests, layStopTest, if_neg (not_lt.2 within), layBandTest]
  split
  · exact (measureLayRun_hold_frame _ s (bs := [.lay, .marks, .builder, .port, .link])) .hold (by decide)
  · exact (feedLayRun_hold_frame dev (fullPosition_div fraction).le (bs := [.lay, .marks, .builder, .port, .link])) .hold
      (by decide)

/-- What a window that closes leaves: both tests made, the trim correction and the next window (R79, R86). -/
def windowClosed (w : LayWorkingSet) (lay start : Nat) (dev : Int) (s : State) : State :=
  changeLay (fun l => { l with
    trimCorrection := trimAfter l.trimCorrection dev w.gain
    window := some { start := s.fullPosition, twists := 0 } }) (windowTests w lay start dev s)

theorem closeWindow_eq {w : LayWorkingSet} {win : LayWindow} {s : State} {lay : Nat} {dev : Int}
    (length : layOf ((s.fullPosition : Int) - (win.start : Int)) win.twists = lay)
    (deviation : deviationOf lay w.nominal = dev) : closeWindow w win s = windowClosed w lay win.start dev s := by
  subst length deviation
  rfl

theorem windowClosed_lay (w : LayWorkingSet) (lay start : Nat) (dev : Int) (s : State) :
    (windowClosed w lay start dev s).lay = { s.lay with
      faultRun := (windowTests w lay start dev s).lay.faultRun
      trimCorrection := trimAfter s.lay.trimCorrection dev w.gain
      window := some { start := s.fullPosition, twists := 0 } } := by
  obtain ⟨run, tested⟩ := windowTests_lay w lay start dev s
  rw [windowClosed, changeLay, State.withLay_lay]
  simp only [tested]

theorem windowClosed_frame {bs : List Block} {w : LayWorkingSet} {lay start : Nat} {dev : Int} {s : State}
    (tested : SameOutside bs s (windowTests w lay start dev s)) (h : Within [.lay] bs := by decide) :
    SameOutside bs s (windowClosed w lay start dev s) := tested.trans (changeLay_frame _ _ h)

/-- The fault run after the tests of a window (R80 to R82). -/
theorem windowTests_faultRun_in {w : LayWorkingSet} {lay : Nat} (start : Nat) (dev : Int) (s : State)
    (low : w.bandLow ≤ lay) (high : lay ≤ w.bandHigh) : (windowTests w lay start dev s).lay.faultRun = none := by
  rw [windowTests, layBandTest_inBand _ _ _ _ low high, measureLayRun_lay]

theorem windowTests_faultRun_out {w : LayWorkingSet} {lay : Nat} (start : Nat) (dev : Int) (s : State)
    (out : lay < w.bandLow ∨ w.bandHigh < lay) : (windowTests w lay start dev s).lay.faultRun =
      if (extendLayRun s.lay.faultRun (start / 65536) (s.fullPosition / 65536) dev).start + 131071 ≤ s.fullPosition / 65536
      then none else some (extendLayRun s.lay.faultRun (start / 65536) (s.fullPosition / 65536) dev) := by
  rw [windowTests, layBandTest_outOfBand _ _ _ _ out, feedLayRun_lay, layStopTest_lay]

theorem windowTests_within {w : LayWorkingSet} {dev : Int} (lay start : Nat) (s : State)
    (within : dev.natAbs ≤ w.stopTolerance) :
    windowTests w lay start dev s = layBandTest w lay start s.fullPosition dev s := by
  rw [windowTests, layStopTest, if_neg (not_lt.2 within)]

/-- In band with no run of enough windows, the tests change nothing but the lay monitor (R81). -/
theorem windowTests_quiet {w : LayWorkingSet} {lay : Nat} {dev : Int} (start : Nat) {s : State} (low : w.bandLow ≤ lay)
    (high : lay ≤ w.bandHigh) (within : dev.natAbs ≤ w.stopTolerance)
    (few : ∀ r, s.lay.faultRun = some r → r.windows < w.faultWindows) :
    SameOutside [.lay] s (windowTests w lay start dev s) := by
  rw [windowTests_within lay start s within, layBandTest_inBand _ _ _ _ low high, measureLayRun]
  split
  · next run opened =>
    have := few run opened
    rw [if_neg (by omega)]
    exact endLayRun_frame s
  · exact refl _ s

/-- A run of enough windows, ended by a window in band, raises its LAY_FAULT (R81). -/
theorem windowTests_raises {w : LayWorkingSet} {lay : Nat} {dev : Int} {r : LayFaultRun} (start : Nat) {s : State}
    (low : w.bandLow ≤ lay) (high : lay ≤ w.bandHigh) (within : dev.natAbs ≤ w.stopTolerance)
    (opened : s.lay.faultRun = some r) (enough : w.faultWindows ≤ r.windows)
    (near : s.length.runCount ≤ r.start + 262144) (free : forwardsFreely s) :
    forwardedOwn (ownNotice s .layFault (min r.start s.length.runCount)
      (min 131071 (r.finish - min r.start s.length.runCount)) (BitVec.ofInt 16 r.worst)) s
      (windowTests w lay start dev s) := by
  rw [windowTests_within lay start s within, layBandTest_inBand _ _ _ _ low high, measureLayRun, opened]
  simp only [enough, if_true]
  rw [raiseMark_free (r := layFault r s.length.runCount) (s := endLayRun s) free rfl rfl (min_le_right _ _)
    (show s.length.runCount ≤ min r.start s.length.runCount + 262144 by omega), layFault, faultSpanCap, min_comm 131071]
  exact ⟨rfl, rfl⟩

/-- A run that reaches the span cap raises a LAY_FAULT of that span (R82). -/
theorem windowTests_caps {w : LayWorkingSet} {lay : Nat} {dev : Int} {r : LayFaultRun} (start : Nat) {s : State}
    (out : lay < w.bandLow ∨ w.bandHigh < lay) (within : dev.natAbs ≤ w.stopTolerance)
    (opened : s.lay.faultRun = some r) (full : r.start + 131071 ≤ s.fullPosition / 65536)
    (fraction : s.length.fraction < 65536) (near : s.length.runCount ≤ r.start + 262144) (free : forwardsFreely s) :
    forwardedOwn (ownNotice s .layFault r.start 131071
      (BitVec.ofInt 16 (if r.worst.natAbs < dev.natAbs then dev else r.worst))) s (windowTests w lay start dev s) := by
  rw [windowTests_within lay start s within, layBandTest_outOfBand _ _ _ _ out, feedLayRun, opened]
  rw [if_pos (show (extendLayRun (some r) (start / 65536) (s.fullPosition / 65536) dev).start + faultSpanCap ≤
    (extendLayRun (some r) (start / 65536) (s.fullPosition / 65536) dev).finish from full), raiseMark_free
    (r := cappedLayFault (extendLayRun (some r) (start / 65536) (s.fullPosition / 65536) dev)) (s := endLayRun s) free rfl rfl
    ((Nat.le_add_right _ _).trans (full.trans (fullPosition_div fraction).le)) near]
  exact ⟨rfl, rfl⟩

/-- The spindle edge that completes a window, with its lay and its deviation (R75, R77, R78). -/
theorem exec_windowCloses {s : State} {p : PendingLevel} {w : LayWorkingSet} {win : LayWindow} {lay : Nat} {dev : Int}
    (pending : s.sense.spinPending = some p) (rise : p.level = true) (due : p.since + 50 ≤ s.now)
    (measuring : s.lay.state = .measuring) (working : s.lay.working = some w) (window : s.lay.window = some win)
    (complete : w.windowTwists ≤ win.twists + s.profile.twistsPerPulse)
    (length : layOf ((s.fullPosition : Int) - (win.start : Int)) (win.twists + s.profile.twistsPerPulse) = lay)
    (deviation : deviationOf lay w.nominal = dev) :
    exec .spinFilterExpiry s = .next (windowClosed w lay win.start dev (spun p.level s)) := by
  have edge := spinExpiry_due pending due
  rw [if_pos rise, spindleEdge_measuring (s := spun p.level s) measuring working window,
    if_pos (show w.windowTwists ≤ win.twists + (spun p.level s).profile.twistsPerPulse from complete)] at edge
  refine congrArg Host.Outcome.next (edge.trans ?_)
  exact closeWindow_eq (win := { win with twists := win.twists + s.profile.twistsPerPulse }) length deviation

/-- Settles O18, by the two tests and the fault run that stands. -/
theorem spindleEdgeClosesTheWindow : Obligations.SpindleEdgeClosesTheWindow := by
  intro s p w win twists lay delta error dev count pending rise due measuring working window positive turns twistsIs
    complete deltaIs still ran errorIs long short
  subst deltaIs twistsIs
  have length : layOf ((s.fullPosition : Int) - (win.start : Int)) (win.twists + s.profile.twistsPerPulse) = lay :=
    layOf_eq (by omega) still ran
  have left := windowClosed_lay w lay win.start dev (spun p.level s)
  have faultRun := congrArg LayMonitor.faultRun left
  have fraction : (spun p.level s).length.fraction < 65536 := count.2.1
  refine ⟨_, exec_windowCloses pending rise due measuring working window complete length (deviationOf_eq errorIs long short),
    congrArg LayMonitor.window left, congrArg LayMonitor.trimCorrection left,
    (congrArg LayMonitor.state left).trans measuring, (congrArg LayMonitor.working left).trans working,
    (congrArg LayMonitor.settleCount left).trans rfl, windowTests_stops lay win.start _,
    fun within => windowTests_hold lay win.start fraction within,
    fun low high => faultRun.trans (windowTests_faultRun_in _ _ _ low high), fun low high within few => ?_,
    fun r low high within opened enough near free =>
      windowTests_raises (s := spun p.level s) win.start low high within opened enough near free,
    fun out closed small => faultRun.trans ((windowTests_faultRun_out _ _ _ out).trans ?_),
    fun r out opened small => faultRun.trans ((windowTests_faultRun_out _ _ _ out).trans ?_),
    fun r out opened full => ⟨faultRun.trans ((windowTests_faultRun_out _ _ _ out).trans ?_), fun within near free =>
      windowTests_caps (s := spun p.level s) win.start out within opened full fraction near free⟩, ?_⟩
  · have quiet := windowTests_quiet (s := spun p.level s) win.start low high within few
    exact (spun_frame _ s).trans ((windowClosed_frame (bs := [.lay]) quiet).mono (by decide))
  · rw [show (spun p.level s).lay.faultRun = none from closed]
    exact if_neg (not_le.2 small)
  · rw [show (spun p.level s).lay.faultRun = some r from opened]
    exact if_neg (not_le.2 small)
  · rw [show (spun p.level s).lay.faultRun = some r from opened]
    exact if_pos full
  · exact (spun_frame _ s).trans (windowClosed_frame
      (bs := [.sense, .lay, .marks, .feeds, .builder, .hold, .port, .link])
      ((windowTests_frame w lay win.start dev _).mono (by decide)))

end Sys2Proof.Machine
end

section
/-! PROOFS. Rows of the knot monitor (chapter 6): what a ROW edge evaluates, and what its advance leaves of it (O20). -/

namespace Sys2Proof.Machine

-- One theorem after another: side by side they need more threads than the memory of the check allows.
set_option Elab.async false

open SameOutside Evolves

/-! ## What an advance leaves of the knot monitor (R102) -/

/-- What an activation leaves of the knot monitor: its rows, its stop record and its counts stand, and a fault run may only
end. -/
structure RowsKept (k l : KnotMonitor) : Prop where
  serial : l.rowSerial = k.rowSerial
  history : l.history = k.history
  stop : l.stopRecord = k.stopRecord
  run : l.faultRun = none ∨ l.faultRun = k.faultRun
  counts : l.sections.map Section.count = k.sections.map Section.count

namespace RowsKept

theorem refl (k : KnotMonitor) : RowsKept k k := ⟨rfl, rfl, rfl, .inr rfl, rfl⟩

theorem trans {k l m : KnotMonitor} (first : RowsKept k l) (second : RowsKept l m) : RowsKept k m where
  serial := second.serial.trans first.serial
  history := second.history.trans first.history
  stop := second.stop.trans first.stop
  run := second.run.elim .inl fun same => same ▸ first.run
  counts := second.counts.trans first.counts

theorem of_frame {bs : List Block} {s t : State} (same : SameOutside bs s t) (out : .knot ∉ bs := by decide) :
    RowsKept s.knot t.knot := by
  rw [show t.knot = s.knot from same .knot out]
  exact refl _

theorem count_zero {k l : KnotMonitor} (kept : RowsKept k l) (zero : ∀ c ∈ k.sections, c.count = 0) :
    ∀ c ∈ l.sections, c.count = 0 := fun c hc => by
  have : c.count ∈ k.sections.map Section.count := kept.counts ▸ List.mem_map_of_mem hc
  obtain ⟨d, hd, e⟩ := List.mem_map.1 this
  rw [← e, zero d hd]

end RowsKept

theorem raiseMark_knot (r : Raising) (s : State) : (raiseMark r s).knot = s.knot :=
  (raiseMark_frame r s (bs := [.marks, .feeds, .builder, .hold, .port, .link])) .knot (by decide)

/-- The close of a fault run ends it and leaves the rest of the knot monitor (R100). -/
theorem closeKnotRun_knot (s : State) : (closeKnotRun s).knot = { s.knot with faultRun := none } := by
  unfold closeKnotRun
  split
  · rw [raiseMark_knot]; rfl
  · next none => rw [← none]

theorem knotActivation_rows (s : State) : RowsKept s.knot (knotActivation s).knot := by
  unfold knotActivation
  split
  · exact .refl _
  · rw [changeKnot, State.withKnot_knot, closeKnotRun_knot]
    exact ⟨rfl, rfl, rfl, .inl rfl, by simp [changeKnot, List.map_map, Function.comp_def]⟩

theorem lotChange_rows (tag : Nat) (s : State) : RowsKept s.knot (lotChange tag s).knot := by
  unfold lotChange
  split
  · exact .refl _
  · split
    · refine RowsKept.trans ?_ (knotActivation_rows _)
      exact .of_frame (((withLots s _ (bs := .lots :: .orders :: layBlocks)).trans (withLots _ _)).trans (layActivation_frame _))
    · exact .of_frame ((withLots s _ (bs := [.lots, .link])).trans (latch_frame _ _))

theorem fireMark_rows (m : Mark) (s : State) : RowsKept s.knot (fireMark m s).knot := by
  unfold fireMark
  split
  · exact (lotChange_rows m.lotTag s).trans (.of_frame ((builderTakes_frame m _ _ (bs := [.builder, .hold, .port, .link])).trans
      (forward_frame m _)))
  · exact .of_frame (fireOrdinary_frame m s (bs := [.feeds, .builder, .hold, .port, .link]))

theorem fireReached_rows (n : Nat) (s : State) : RowsKept s.knot (fireReached n s).knot := by
  induction n generalizing s with
  | zero => exact .refl _
  | succ n ih =>
    unfold fireReached
    split
    · split
      · next m rest _ _ =>
        refine RowsKept.trans (fireMark_rows m (withWaiting rest s)) (RowsKept.trans ?_ (ih _))
        exact .of_frame (cutTest_frame (fireMark m (withWaiting rest s)) (bs := [.builder, .hold, .port]))
      · exact .refl _
    · exact .refl _

/-- What an advance does after the firing does not touch the knot monitor. -/
theorem afterFiring_knot (s : State) : (advance s).knot = (fireReached s.marks.marks.length s).knot :=
  (((((lossTest_frame _ _ (bs := .sense :: .feeds :: gaugeBlocks)).trans (withLosses_frame _ _)).trans (builderAdvance_frame _)).trans
    (capGauges_frame _))) .knot (by decide)

theorem advance_rows (s : State) : RowsKept s.knot (advance s).knot := by
  rw [afterFiring_knot]
  exact fireReached_rows _ s

/-- With no LOT_CHANGE reached, firing leaves the knot monitor alone. -/
theorem fireReached_knot (n : Nat) {s : State}
    (later : ∀ m ∈ s.marks.marks, m.kind = .lotChange → s.length.runCount < m.position) :
    (fireReached n s).knot = s.knot := by
  induction n generalizing s with
  | zero => rfl
  | succ n ih =>
    unfold fireReached
    split
    · next m rest marks =>
      split
      · next reached =>
        have kind : m.kind ≠ .lotChange := fun h => by
          have := later m (marks ▸ List.mem_cons_self) h
          omega
        have fired : SameOutside [.feeds, .builder, .hold, .port, .link] (withWaiting rest s) (fireHead m rest s) := by
          have ordinary : fireMark m (withWaiting rest s) = fireOrdinary m (withWaiting rest s) := by
            unfold fireMark
            split
            · exact absurd ‹_› kind
            · rfl
          rw [fireHead, ordinary]
          exact (fireOrdinary_frame _ _).trans (cutTest_frame _)
        rw [ih fun w hw h => ?_, show (fireHead m rest s).knot = s.knot from fired .knot (by decide)]
        rw [show (fireHead m rest s).length = s.length from fired .length (by decide)]
        rw [show (fireHead m rest s).marks = (withWaiting rest s).marks from fired .marks (by decide)] at hw
        exact later w (marks ▸ List.mem_cons_of_mem m hw) h
      · rfl
    · rfl

theorem advance_knot {s : State} (later : ∀ m ∈ s.marks.marks, m.kind = .lotChange → s.length.runCount < m.position) :
    (advance s).knot = s.knot := (afterFiring_knot s).trans (fireReached_knot _ later)

/-! ## Row advances (R9 to R11) -/

/-- The run count that a row asks for (R9, R10). -/
def rowCount (s : State) : Nat :=
  if s.length.saturated then s.length.runCount else min (s.length.runCount + s.effective.rowPitch) maxCount

/-- The part at the count that a row asks for, before its advance. -/
def rowMoved (s : State) : State :=
  if maxCount ≤ s.length.runCount + s.effective.rowPitch then reachCeiling s
  else changeLength (fun l => { l with runCount := s.length.runCount + s.effective.rowPitch }) s

theorem rowAdvance_saturated {s : State} (saturated : s.length.saturated = true) : rowAdvance s = s := if_pos saturated

theorem rowAdvance_live {s : State} (live : s.length.saturated = false) : rowAdvance s = advance (rowMoved s) := by
  rw [rowAdvance, if_neg (by simp [live]), rowMoved]
  exact (apply_ite advance _ _ _).symm

theorem rowMoved_frame (s : State) {bs : List Block} (h : Within [.length, .hold, .port, .link] bs := by decide) :
    SameOutside bs s (rowMoved s) :=
  mono (bs := [.length, .hold, .port, .link]) (SameOutside.ite (reachCeiling_frame s) (changeLength_frame _ s)) h

theorem rowMoved_runCount (s : State) :
    (rowMoved s).length.runCount = min (s.length.runCount + s.effective.rowPitch) maxCount := by
  unfold rowMoved
  split
  · next above =>
    rw [reachCeiling_length]
    exact (min_eq_right above).symm
  · next below => exact (min_eq_left (not_le.1 below).le).symm

theorem rowAdvance_runCount (s : State) : (rowAdvance s).length.runCount = rowCount s := by
  unfold rowCount
  cases live : s.length.saturated with
  | true => rw [rowAdvance_saturated live]; rfl
  | false =>
    rw [rowAdvance_live live, (advance_frame _ (bs := advanceBlocks)) .length (by decide), rowMoved_runCount]
    rfl

/-- Apart from the run count, a row advance is a chain of moves that clears nothing. -/
theorem rowAdvance_evolves {scope : Scope} (s : State) : ∃ v, Evolves scope (s.withLength v) (rowAdvance s) := by
  cases live : s.length.saturated with
  | true =>
    rw [rowAdvance_saturated live]
    exact ⟨s.length, Evolves.refl s⟩
  | false =>
    rw [rowAdvance_live live, rowMoved]
    split
    · refine ⟨{ s.length with runCount := maxCount, fraction := 65535, saturated := true },
        Evolves.trans (t := reachCeiling s) ?_ (advance_evolves _)⟩
      exact (giveHold_evolves .countLimit (s.withLength _) nofun nofun).trans (latch_evolves .countLimit _)
    · exact ⟨_, advance_evolves _⟩

theorem rowAdvance_rows (s : State) : RowsKept s.knot (rowAdvance s).knot := by
  cases live : s.length.saturated with
  | true =>
    rw [rowAdvance_saturated live]
    exact .refl _
  | false =>
    rw [rowAdvance_live live]
    exact (RowsKept.of_frame (rowMoved_frame s (bs := [.length, .hold, .port, .link]))).trans (advance_rows _)

/-- A row advance that is dropped, or reaches no LOT_CHANGE, leaves the knot monitor alone. -/
theorem rowAdvance_knot {s : State} (later : s.length.saturated = true ∨
    ∀ m ∈ s.marks.marks, m.kind = .lotChange → rowCount s < m.position) : (rowAdvance s).knot = s.knot := by
  cases live : s.length.saturated with
  | true => rw [rowAdvance_saturated live]
  | false =>
    have moved := rowMoved_frame s (bs := [.length, .hold, .port, .link])
    rw [rowAdvance_live live, advance_knot fun m hm h => ?_, moved .knot (by decide)]
    rw [moved .marks (by decide)] at hm
    have ahead := later.resolve_left (by simp [live]) m hm h
    rw [rowCount, if_neg (by simp [live])] at ahead
    exact (rowMoved_runCount s).trans_lt ahead

/-- A row advance that is dropped, or reaches nothing while the builder is OFF, leaves the marks and the port alone. -/
theorem rowAdvance_quiet {s : State} (off : s.builder.state = .off) (still : s.length.saturated = true ∨
    (rowCount s < maxCount ∧ (∀ m ∈ s.marks.marks, rowCount s < m.position) ∧
      ∀ j < 32, ∀ g, (senseInput s j).gauge = some g → rowCount s < g.start + 131071)) :
    (rowAdvance s).marks = s.marks ∧ (rowAdvance s).port = s.port := by
  cases live : s.length.saturated with
  | true =>
    rw [rowAdvance_saturated live]
    exact ⟨rfl, rfl⟩
  | false =>
    obtain ⟨below, ahead, short⟩ := still.resolve_left (by simp [live])
    have count := rowMoved_runCount s
    rw [rowCount, if_neg (by simp [live])] at below ahead short
    have moved : rowMoved s = changeLength (fun l => { l with runCount := s.length.runCount + s.effective.rowPitch }) s :=
      if_neg (by omega)
    rw [rowAdvance_live live, moved, advance_eq]
    rw [moved] at count
    obtain ⟨same, -⟩ := beforeCaps_quiet (s := changeLength (fun l => { l with
      runCount := s.length.runCount + s.effective.rowPitch }) s) (fun m hm => count.trans_lt (ahead m hm)) off
    rw [capGauges_short fun j hj g hg => ?_]
    · exact ⟨same .marks (by decide), same .port (by decide)⟩
    · rw [senseInput_of_sense (same .sense (by decide))] at hg
      rw [same .length (by decide), count]
      exact short j hj g hg

end Sys2Proof.Machine
end

section
/-! PROOFS. The evaluation of a row (6.3 to 6.5), and the statement about ROW edges (O20). -/

namespace Sys2Proof.Machine

-- One theorem after another: side by side they need more threads than the memory of the check allows.
set_option Elab.async false

open SameOutside Evolves

/-! ## The summary of a row (R94 to R97) -/

theorem missesAfter_eq (c : Section) : (sectionAfterRow c).misses = missesAfter c := by
  unfold sectionAfterRow missesAfter missingOf tally255
  exact if_congr (by omega) rfl rfl

/-- The noisy sections are those that counted more knots than expected (R97). -/
theorem getLsbD_noisySet (sections : List Section) {n : Nat} (inside : n < 32) :
    (noisySet sections).getLsbD n = true ↔ ∃ c ∈ sections, c.input = n ∧ c.expected < c.count := by
  have bit : ∀ k (a : InputSet), (addInput k a).getLsbD n = (a.getLsbD n || decide (k = n)) := by
    intro k a
    have shifted : (1#32 <<< k).getLsbD n = decide (k = n) := by
      rw [BitVec.getLsbD_shiftLeft, BitVec.getLsbD_one, Bool.eq_iff_iff]
      simp only [Bool.and_eq_true, Bool.not_eq_true', decide_eq_true_eq, decide_eq_false_iff_not]
      omega
    rw [addInput, BitVec.getLsbD_or, shifted]
  have all : ∀ (l : List Section) (a : InputSet),
      (l.foldl (fun n c => if 0 < extraOf c then addInput c.input n else n) a).getLsbD n = true ↔
        a.getLsbD n = true ∨ ∃ c ∈ l, c.input = n ∧ c.expected < c.count := by
    intro l
    induction l with
    | nil => simp
    | cons c rest ih =>
      intro a
      rw [List.foldl_cons, ih]
      by_cases noisy : 0 < extraOf c
      · have more : c.expected < c.count := by unfold extraOf at noisy; omega
        rw [if_pos noisy, bit]
        simp only [Bool.or_eq_true, decide_eq_true_eq, List.exists_mem_cons_iff, more, and_true, or_assoc]
      · have fewer : ¬c.expected < c.count := by unfold extraOf at noisy; omega
        rw [if_neg noisy]
        simp only [List.exists_mem_cons_iff, fewer, and_false, false_or]
  rw [noisySet, all]
  simp

/-- The row just ended, as the part summarises it (R95, R96). -/
def endedRow (s : State) : RowSummary := rowSummary s.knot.rowSerial s.length.runCount s.knot.sections

/-! ## The evaluation, step by step (R95 to R100) -/

/-- A row with knots entered, its noise and its misses counted (R95, R97). -/
def countedRow (s : State) : State :=
  changeKnot (fun k => { k with sections := k.sections.map sectionAfterRow }) (enterRow (endedRow s) s)

/-- Such a row after its stop tests (R98). -/
def testedRow (s : State) : State := knotStopTest (endedRow s) (countedRow s)

/-- Such a row after the fault run has been fed (R99, R100). -/
def fedRow (s : State) : State := feedKnotRun (endedRow s) (testedRow s)

theorem evaluateRow_idle {s : State} (idle : isIdleRow s.knot.sections = true) : evaluateRow s =
    changeKnot (fun k => { k with sections := k.sections.map clearCount }) (enterRow (endedRow s) s) := by
  unfold evaluateRow
  dsimp only
  rw [if_pos (show (rowSummary s.knot.rowSerial s.length.runCount s.knot.sections).idle = true from idle)]
  rfl

theorem evaluateRow_knots {s : State} (knots : isIdleRow s.knot.sections = false) : evaluateRow s =
    changeKnot (fun k => { k with sections := k.sections.map clearCount }) (fedRow s) := by
  unfold evaluateRow
  dsimp only
  rw [if_neg (show (rowSummary s.knot.rowSerial s.length.runCount s.knot.sections).idle ≠ true from Bool.eq_false_iff.1 knots)]
  rfl

/-- Whether a row fails one of its two stop tests (R98). -/
def RowFails (w : KnotWorkingSet) (s : State) : Prop :=
  w.stopCount ≤ (endedRow s).total ∨ ∃ c ∈ s.knot.sections, w.brokenRows ≤ missesAfter c

theorem brokenSection_eq (w : KnotWorkingSet) (sections : List Section) :
    brokenSection w (sections.map sectionAfterRow) =
      (sections.find? fun c => decide (w.brokenRows ≤ missesAfter c)).map Section.input := by
  have test : (fun c => decide (w.brokenRows ≤ c.misses)) ∘ sectionAfterRow = fun c => decide (w.brokenRows ≤ missesAfter c) :=
    funext fun c => congrArg (fun n => decide (w.brokenRows ≤ n)) (missesAfter_eq c)
  rw [brokenSection, List.find?_map, Option.map_map, test]
  rfl

theorem brokenSection_isSome (w : KnotWorkingSet) (sections : List Section) :
    (brokenSection w (sections.map sectionAfterRow)).isSome = true ↔ ∃ c ∈ sections, w.brokenRows ≤ missesAfter c := by
  rw [brokenSection_eq, Option.isSome_map, List.find?_isSome]
  simp

theorem testedRow_fails {s : State} {w : KnotWorkingSet} (working : s.knot.working = some w) (fails : RowFails w s) :
    testedRow s = changeKnot (fun k => { k with
      stopRecord := some
        { serial := s.knot.rowSerial, total := (endedRow s).total
          totalFailed := decide (w.stopCount ≤ (endedRow s).total)
          broken := (s.knot.sections.find? fun c => decide (w.brokenRows ≤ missesAfter c)).map Section.input } })
      (latch .knotStop (giveHold .knotStop (countedRow s))) := by
  have failed : (decide (w.stopCount ≤ (endedRow s).total) || (brokenSection w (countedRow s).knot.sections).isSome) = true := by
    rw [Bool.or_eq_true, decide_eq_true_eq]
    exact fails.imp id (brokenSection_isSome w _).2
  rw [testedRow, knotStopTest, show (countedRow s).knot.working = some w from working]
  dsimp only
  rw [if_pos failed, show (countedRow s).knot.sections = s.knot.sections.map sectionAfterRow from rfl, brokenSection_eq]
  rfl

theorem testedRow_passes {s : State} {w : KnotWorkingSet} (working : s.knot.working = some w) (passes : ¬RowFails w s) :
    testedRow s = countedRow s := by
  have passed : ¬(decide (w.stopCount ≤ (endedRow s).total) || (brokenSection w (countedRow s).knot.sections).isSome) = true := by
    rw [Bool.or_eq_true, decide_eq_true_eq]
    exact fun failed => passes (failed.imp id (brokenSection_isSome w _).1)
  rw [testedRow, knotStopTest, show (countedRow s).knot.working = some w from working]
  dsimp only
  rw [if_neg passed]

/-- The fault run after a row with knots (R99, R100). -/
def runAfterRow (s : State) : Option KnotFaultRun :=
  if (endedRow s).total = 0 then none
  else if 64 ≤ (extendKnotRun s.knot.faultRun (endedRow s) s.effective.rowPitch).rows then none
  else some (extendKnotRun s.knot.faultRun (endedRow s) s.effective.rowPitch)

theorem feedKnotRun_knot (r : RowSummary) (s : State) : (feedKnotRun r s).knot = { s.knot with
    faultRun := if r.total = 0 then none
      else if 64 ≤ (extendKnotRun s.knot.faultRun r s.effective.rowPitch).rows then none
      else some (extendKnotRun s.knot.faultRun r s.effective.rowPitch) } := by
  unfold feedKnotRun
  split
  · exact closeKnotRun_knot s
  · dsimp only
    split
    · next full => rw [closeKnotRun_knot, if_pos (show 64 ≤ _ from full)]; rfl
    · next short => rw [if_neg (show ¬64 ≤ _ from short)]; rfl

theorem testedRow_frame (s : State) {bs : List Block} (h : Within [.knot, .hold, .port, .link] bs := by decide) :
    SameOutside bs s (testedRow s) :=
  mono (bs := [.knot, .hold, .port, .link])
    (((enterRow_frame _ s).trans (changeKnot_frame _ _)).trans (knotStopTest_frame _ _)) h

/-- What the stop tests leave of the knot monitor but for the stop record. -/
theorem testedRow_knot (s : State) : ∃ stop, (testedRow s).knot = { (countedRow s).knot with stopRecord := stop } := by
  rw [testedRow, knotStopTest]
  split
  · exact ⟨_, rfl⟩
  · dsimp only
    split
    · have same : (latch .knotStop (giveHold .knotStop (countedRow s))).knot = (countedRow s).knot :=
        ((giveHold_frame _ _ (bs := [.hold, .port, .link])).trans (latch_frame _ _)) .knot (by decide)
      rw [changeKnot, State.withKnot_knot, same]
      exact ⟨_, rfl⟩
    · exact ⟨_, rfl⟩

/-- The knot monitor after a row with knots, but for the stop record. -/
theorem evaluateRow_knot {s : State} (knots : isIdleRow s.knot.sections = false) :
    (evaluateRow s).knot = { s.knot with
      rowSerial := nextSerial16 s.knot.rowSerial, history := enterHistory (endedRow s) s.knot.history
      sections := (s.knot.sections.map sectionAfterRow).map clearCount
      faultRun := runAfterRow s, stopRecord := (testedRow s).knot.stopRecord } := by
  obtain ⟨stop, tested⟩ := testedRow_knot s
  have pitch : (testedRow s).effective = s.effective := by
    have same := testedRow_frame s (bs := [.knot, .hold, .port, .link])
    rw [State.effective, same .lots (by decide), same .profile (by decide)]
    rfl
  rw [evaluateRow_knots knots, changeKnot, State.withKnot_knot, fedRow, feedKnotRun_knot, pitch, tested]
  rfl

/-- A section after a row with knots, its count of the next one begun (R97). -/
theorem clearCount_sectionAfterRow (c : Section) : clearCount (sectionAfterRow c) = { c with
    count := 0, misses := missesAfter c
    noise := if c.expected < c.count then min (c.noise + 1) 255 else c.noise } := by
  have noise : (sectionAfterRow c).noise = if c.expected < c.count then min (c.noise + 1) 255 else c.noise :=
    if_congr (by unfold extraOf; omega) rfl rfl
  rw [clearCount, missesAfter_eq, noise]
  rfl

/-- The first faulty row opens a fault run (R99). -/
theorem runAfterRow_new {s : State} (faulty : 0 < (endedRow s).total) (closed : s.knot.faultRun = none) :
    runAfterRow s = some
      { start := s.length.runCount, finish := min (s.length.runCount + s.effective.rowPitch) maxCount
        rows := 1, total := (endedRow s).total, firstSerial := s.knot.rowSerial } := by
  rw [runAfterRow, if_neg faulty.ne', closed]
  exact if_neg (by decide : ¬64 ≤ 1)

/-- A further faulty row extends the run, up to 64 rows (R99, R100). -/
theorem runAfterRow_more {s : State} {run : KnotFaultRun} (faulty : 0 < (endedRow s).total)
    (opened : s.knot.faultRun = some run) : runAfterRow s = if 63 ≤ run.rows then none
      else some { run with
        finish := min (s.length.runCount + s.effective.rowPitch) maxCount
        rows := run.rows + 1, total := min (run.total + (endedRow s).total) 65535 } := by
  rw [runAfterRow, if_neg faulty.ne', opened]
  exact if_congr (by rw [show (extendKnotRun (some run) (endedRow s) s.effective.rowPitch).rows = run.rows + 1 from rfl]; omega) rfl rfl

/-! ## The fault run's mark (R100) -/

theorem closeKnotRun_raises {s : State} {run : KnotFaultRun} (opened : s.knot.faultRun = some run) (free : forwardsFreely s)
    (reached : run.start ≤ s.length.runCount) (near : s.length.runCount ≤ run.start + 262144) :
    closeKnotRun s = forwardOwn (ownNotice s .knotFault run.start (run.finish - run.start) (BitVec.ofNat 16 run.total))
      (endKnotRun s) := by
  rw [closeKnotRun, opened]
  exact raiseMark_free (r := knotFault run) (s := endKnotRun s) free rfl rfl reached near

/-- A run whose close the row brings about (R99, R100): its finish and its missing knots. -/
def RunEnds (s : State) (run : KnotFaultRun) (finish total : Nat) : Prop :=
  ((endedRow s).total = 0 ∧ finish = run.finish ∧ total = run.total) ∨
    (0 < (endedRow s).total ∧ 63 ≤ run.rows ∧ finish = min (s.length.runCount + s.effective.rowPitch) maxCount ∧
      total = min (run.total + (endedRow s).total) 65535)

/-- A row that passes its stop tests and ends the fault run hands its KNOT_FAULT to the port. -/
theorem fedRow_raises {s : State} {w : KnotWorkingSet} {run : KnotFaultRun} {finish total : Nat}
    (working : s.knot.working = some w) (passes : ¬RowFails w s) (opened : s.knot.faultRun = some run)
    (ends : RunEnds s run finish total) (free : forwardsFreely s) (reached : run.start ≤ s.length.runCount)
    (near : s.length.runCount ≤ run.start + 262144) :
    ∃ u, SameOutside [.knot] s u ∧
      fedRow s = forwardOwn (ownNotice s .knotFault run.start (finish - run.start) (BitVec.ofNat 16 total)) u := by
  have counted : SameOutside [.knot] s (countedRow s) := (enterRow_frame _ s).trans (changeKnot_frame _ _)
  rw [fedRow, testedRow_passes working passes, feedKnotRun]
  obtain ⟨zero, rfl, rfl⟩ | ⟨some_, rows, rfl, rfl⟩ := ends
  · rw [if_pos zero, closeKnotRun_raises (s := countedRow s) opened free reached near]
    exact ⟨_, counted.trans (changeKnot_frame _ _), rfl⟩
  · rw [if_neg (by omega), show (countedRow s).effective = s.effective from rfl,
      show (countedRow s).knot.faultRun = some run from opened]
    dsimp only
    rw [if_pos (show runRows ≤ (extendKnotRun (some run) (endedRow s) s.effective.rowPitch).rows from
      Nat.succ_le_succ rows), closeKnotRun_raises (s := changeKnot _ (countedRow s))
        (run := extendKnotRun (some run) (endedRow s) s.effective.rowPitch) rfl free reached near]
    exact ⟨_, (counted.trans (changeKnot_frame _ _)).trans (changeKnot_frame _ _), rfl⟩

/-! ## A row edge -/

theorem rowAsksAdvance_counting {s : State} (counting : s.knot.state = .counting) :
    rowAsksAdvance s = !isIdleRow s.knot.sections := by
  rw [rowAsksAdvance, counting, Bool.and_true]

theorem rowEdge_counting {s : State} (counting : s.knot.state = .counting) : rowEdge s =
    if isIdleRow s.knot.sections then evaluateRow s else rowAdvance (evaluateRow s) := by
  rw [rowEdge, rowAsksAdvance_counting counting, knotRowEdge, counting]
  cases isIdleRow s.knot.sections <;> rfl

theorem rowEdge_settling {s : State} (settling : s.knot.state = .firstRow) : rowEdge s =
    if s.knot.cause = .lot ∧ isIdleRow s.knot.sections = false then rowAdvance (endSettlingRow s) else endSettlingRow s := by
  rw [rowEdge, rowAsksAdvance, knotRowEdge, settling]
  cases isIdleRow s.knot.sections <;> cases s.knot.cause <;> rfl

theorem handEdge_row {s : State} {i : Nat} (service : (assignment s.profile i).service = .row) :
    handEdge i s = rowEdge s := by
  simp [handEdge, service]

theorem exec_rowEdge {s : State} {i : Fin 32} (service : (assignment s.profile i).service = .row) (edge : edgeIsDue s i) :
    exec (.senseFilterExpiry i) s = .next (rowEdge (taken s i)) :=
  (exec_edgeIsDue edge).trans (congrArg Host.Outcome.next (handEdge_row (s := taken s i) service))

theorem isIdleRow_iff (sections : List Section) : isIdleRow sections = true ↔ ∀ c ∈ sections, c.count = 0 := by
  simp [isIdleRow]

theorem count_clearCount (sections : List Section) : ∀ c ∈ sections.map clearCount, c.count = 0 := fun c hc => by
  obtain ⟨d, -, rfl⟩ := List.mem_map.1 hc
  rfl

/-- The gauge runs of an input just settled are those it had. -/
theorem gauge_taken (s : State) (i j : Nat) : (senseInput (taken s i) j).gauge = (senseInput s j).gauge := by
  by_cases within : i < s.sense.inputs.length
  · have set : senseInput (taken s i) j = if j = i then settled s i else senseInput s j :=
      getD_set s.sense.inputs i j _ resetInput within
    rw [set]
    split
    · next e => rw [e]; rfl
    · rfl
  · have same : (taken s i).sense.inputs = s.sense.inputs := List.set_eq_of_length_le (by omega)
    rw [senseInput, same]
    rfl

/-! ## Settling O20 -/

/-- The summary that a row enters has the fields that the statement names. -/
theorem endedRow_noisy (s : State) {n : Nat} (inside : n < 32) : (endedRow s).noisy.getLsbD n = true ↔
    isIdleRow s.knot.sections = false ∧ ∃ c ∈ s.knot.sections, c.input = n ∧ c.expected < c.count := by
  change (if isIdleRow s.knot.sections then 0 else noisySet s.knot.sections : InputSet).getLsbD n = true ↔ _
  cases isIdleRow s.knot.sections with
  | true => simp
  | false => simpa using getLsbD_noisySet s.knot.sections inside

/-- A ROW edge in COUNTING is within the blocks of a count, the knot monitor's among them. -/
theorem taken_rowEdge_frame (s : State) (i : Nat) : SameOutside
    [.length, .sense, .marks, .feeds, .lay, .knot, .lots, .builder, .hold, .port, .link, .orders] s (rowEdge (taken s i)) :=
  (taken_frame s i).trans (rowEdge_frame _)

/-- A row with knots: what stands before its advance, and what the advance leaves of it. -/
theorem rowAdvance_evaluated {s : State} (knots : isIdleRow s.knot.sections = false) :
    RowsKept { s.knot with
      rowSerial := nextSerial16 s.knot.rowSerial, history := enterHistory (endedRow s) s.knot.history
      sections := (s.knot.sections.map sectionAfterRow).map clearCount
      faultRun := runAfterRow s, stopRecord := (testedRow s).knot.stopRecord } (rowAdvance (evaluateRow s)).knot := by
  rw [← evaluateRow_knot knots]
  exact rowAdvance_rows _

/-- What follows the stop tests of a row with knots clears nothing. -/
theorem afterTests_path {scope : Scope} (s : State) :
    ∃ v, Path False scope (testedRow s) (changeKnot (fun k => { k with sections := k.sections.map clearCount }) (fedRow s)) ∧
      Path False scope ((evaluateRow s).withLength v) (rowAdvance (evaluateRow s)) := by
  obtain ⟨v, advanced⟩ := rowAdvance_evolves (scope := scope) (evaluateRow s)
  exact ⟨v, (feedKnotRun_path _ _ nofun nofun).trans (changeSections_evolves clearCount _ False nofun), advanced False nofun⟩

/-- A failed test gives and latches KNOT_STOP, and the advance that follows leaves it (R98). -/
theorem rowAdvance_stops {s : State} {w : KnotWorkingSet} (knots : isIdleRow s.knot.sections = false)
    (working : s.knot.working = some w) (fails : RowFails w s) :
    hasReason .knotStop (rowAdvance (evaluateRow s)).hold.own = true ∧
      hasCondition .knotStop (rowAdvance (evaluateRow s)).link.latched = true := by
  obtain ⟨v, fed, advanced⟩ := afterTests_path (scope := .growing) s
  rw [← evaluateRow_knots knots] at fed
  have tested : hasReason .knotStop (testedRow s).hold.own = true ∧ hasCondition .knotStop (testedRow s).link.latched = true := by
    rw [testedRow_fails working fails]
    refine ⟨?_, latch_latches _ _⟩
    change hasReason .knotStop (giveHold .knotStop (countedRow s)).hold.own = true
    rw [giveHold_own]
    exact hasReason_give _ _
  exact ⟨advanced.reasonsStay rfl _ nofun nofun (fed.reasonsStay rfl _ nofun nofun tested.1),
    advanced.latchedStays rfl _ (fed.latchedStays rfl _ tested.2)⟩

/-- Without one, the row and its advance leave KNOT_STOP as it stands. -/
theorem rowAdvance_knotStop_eq {s : State} {w : KnotWorkingSet} (knots : isIdleRow s.knot.sections = false)
    (working : s.knot.working = some w) (passes : ¬RowFails w s) :
    hasReason .knotStop (rowAdvance (evaluateRow s)).hold.own = hasReason .knotStop s.hold.own ∧
      hasCondition .knotStop (rowAdvance (evaluateRow s)).link.latched = hasCondition .knotStop s.link.latched := by
  obtain ⟨v, fed, advanced⟩ := afterTests_path (scope := .stopless) s
  rw [← evaluateRow_knots knots, testedRow_passes working passes] at fed
  have fed := fed.knotStop_eq rfl
  have advanced := advanced.knotStop_eq rfl
  exact ⟨advanced.2.trans fed.2, advanced.1.trans fed.1⟩

theorem evaluateRow_effective (s : State) : (evaluateRow s).effective = s.effective := by
  have same := evaluateRow_frame s (bs := knotBlocks)
  rw [State.effective, same .lots (by decide), same .profile (by decide)]
  rfl

theorem rowCount_evaluateRow (s : State) : rowCount (evaluateRow s) = rowCount s := by
  rw [rowCount, evaluateRow_effective, (evaluateRow_frame s (bs := knotBlocks)) .length (by decide)]
  rfl

theorem refuseOrdinary_waiting (m : Mark) (s : State) : (refuseOrdinary m s).marks.marks = s.marks.marks :=
  addInterval_waiting _ s

/-- The marks waiting after an ordinary mark has been raised are those that waited, and the mark itself, if it is stored. -/
theorem raiseMark_waiting {r : Raising} {s : State} {m : Mark} (hm : m ∈ (raiseMark r s).marks.marks) :
    m ∈ s.marks.marks ∨ m.kind = r.kind := by
  rw [raiseMark, placeOrdinary] at hm
  split at hm
  · exact .inl hm
  · rw [(fireOrdinary_frame (completeMark r s) (takeSerial s) (bs := [.feeds, .builder, .hold, .port, .link])) .marks (by decide)]
      at hm
    exact .inl hm
  · rw [storeMark, (cutTest_frame _ (bs := [.builder, .hold, .port])) .marks (by decide)] at hm
    obtain rfl | hm := (mem_insertMark _ m _).1 hm
    · exact .inr rfl
    · exact .inl hm
  · rw [refuseOrdinary_waiting] at hm
    exact .inl hm
  · exact .inl hm
  · exact .inl hm

theorem closeKnotRun_waiting {s : State} {m : Mark} (hm : m ∈ (closeKnotRun s).marks.marks) :
    m ∈ s.marks.marks ∨ m.kind = .knotFault := by
  unfold closeKnotRun at hm
  split at hm
  · exact raiseMark_waiting hm
  · exact .inl hm

theorem evaluateRow_waiting {s : State} (knots : isIdleRow s.knot.sections = false) {m : Mark}
    (hm : m ∈ (evaluateRow s).marks.marks) : m ∈ s.marks.marks ∨ m.kind = .knotFault := by
  rw [evaluateRow_knots knots] at hm
  have same : (testedRow s).marks = s.marks := (testedRow_frame s (bs := [.knot, .hold, .port, .link])) .marks (by decide)
  have fed : m ∈ (testedRow s).marks.marks ∨ m.kind = .knotFault := by
    change m ∈ (fedRow s).marks.marks at hm
    unfold fedRow feedKnotRun at hm
    split at hm
    · exact closeKnotRun_waiting hm
    · dsimp only at hm
      split at hm
      · exact closeKnotRun_waiting (s := changeKnot _ (testedRow s)) hm
      · exact .inl hm
  rwa [same] at fed

/-- The knot monitor after a row with knots whose advance reaches no waiting mark, or is dropped. -/
theorem rowAdvance_evaluated_knot {s : State} (knots : isIdleRow s.knot.sections = false)
    (ahead : s.length.saturated = true ∨ ∀ m ∈ s.marks.marks, rowCount s < m.position) :
    (rowAdvance (evaluateRow s)).knot = (evaluateRow s).knot := by
  refine rowAdvance_knot (ahead.imp (fun saturated => ?_) fun ahead m hm lot => ?_)
  · rw [(evaluateRow_frame s (bs := knotBlocks)) .length (by decide)]
    exact saturated
  · rw [rowCount_evaluateRow]
    exact (evaluateRow_waiting knots hm).elim (ahead m) fun fault => absurd (lot.symm.trans fault) nofun

/-- The KNOT_FAULT of a row that ends the fault run stands at the tail of its FIFO after the advance (R100, R46). -/
theorem rowAdvance_raises {s : State} {w : KnotWorkingSet} {run : KnotFaultRun} {finish total : Nat}
    (knots : isIdleRow s.knot.sections = false) (working : s.knot.working = some w) (passes : ¬RowFails w s)
    (opened : s.knot.faultRun = some run) (ends : RunEnds s run finish total) (free : forwardsFreely s)
    (reached : run.start ≤ s.length.runCount) (near : s.length.runCount ≤ run.start + 262144)
    (still : s.length.saturated = true ∨ (rowCount s < maxCount ∧ (∀ m ∈ s.marks.marks, rowCount s < m.position) ∧
      ∀ j < 32, ∀ g, (senseInput s j).gauge = some g → rowCount s < g.start + 131071)) :
    forwardedOwn (ownNotice s .knotFault run.start (finish - run.start) (BitVec.ofNat 16 total)) s
      (rowAdvance (evaluateRow s)) := by
  obtain ⟨u, same, fed⟩ := fedRow_raises working passes opened ends free reached near
  have evaluated := evaluateRow_knots knots
  rw [fed] at evaluated
  have marks : u.marks = s.marks := same .marks (by decide)
  have port : u.port = s.port := same .port (by decide)
  have length : (evaluateRow s).length = s.length := (evaluateRow_frame s (bs := knotBlocks)) .length (by decide)
  have sense : (evaluateRow s).sense = s.sense := (evaluateRow_frame s (bs := knotBlocks)) .sense (by decide)
  have off : (evaluateRow s).builder.state = .off := by
    rw [evaluated]
    change u.builder.state = .off
    rw [show u.builder = s.builder from same .builder (by decide)]
    exact free.2.1
  have waiting : (evaluateRow s).marks.marks = s.marks.marks := by
    rw [evaluated]
    change u.marks.marks = s.marks.marks
    rw [marks]
  obtain ⟨marks', port'⟩ := rowAdvance_quiet off (by
    rw [rowCount_evaluateRow, length, waiting]
    simpa only [senseInput_of_sense sense] using still)
  rw [forwardedOwn, marks', port', evaluated]
  exact ⟨by rw [← marks]; rfl, by rw [← port]; rfl⟩

/-- Settles O20: an idle row ends there; a row with knots is evaluated before its advance, a settling row only counted. -/
theorem rowEdgeEvaluatesTheRow : Obligations.RowEdgeEvaluatesTheRow := by
  refine ⟨fun i s w idle missing count places service edge counting working countIs idleIs missingIs => ?_,
    fun i s places service edge settling => ?_⟩
  · refine ⟨_, exec_rowEdge service edge, ?_⟩
    have frame := taken_rowEdge_frame s i
    rw [rowEdge_counting (s := taken s i) counting] at frame ⊢
    have summary : (endedRow (taken s i)).missing = missing := by rw [missingIs, idleIs]; rfl
    have total : (endedRow (taken s i)).total = missing.sum := congrArg List.sum summary
    have noisy (n : Nat) (inside : n < 32) := endedRow_noisy (taken s i) inside
    change idle = isIdleRow (taken s i).knot.sections at idleIs
    rw [← idleIs] at frame noisy ⊢
    have countIs : rowCount (taken s i) = count := countIs.symm
    cases idle with
    | true =>
      rw [if_pos rfl] at frame ⊢
      rw [evaluateRow_idle idleIs.symm] at frame ⊢
      exact ⟨rfl, ⟨endedRow (taken s i), rfl, rfl, rfl, idleIs.symm, summary, total, noisy⟩, count_clearCount _,
        fun _ => ⟨rfl, (taken_frame s i).trans ((enterRow_frame _ _).trans (changeKnot_frame _ _))⟩, nofun, frame⟩
    | false =>
      rw [if_neg nofun] at frame ⊢
      have knots := idleIs.symm
      have kept := rowAdvance_evaluated knots
      refine ⟨kept.serial, ⟨endedRow (taken s i), kept.history, rfl, rfl, knots, summary, total, noisy⟩,
        kept.count_zero (count_clearCount _), nofun, fun _ => ⟨?_, fun fails => ?_, fun few passes => ?_, fun zero => ?_,
          fun run finish total' opened ends few passes free reached near still => ?_, fun ahead => ?_⟩, frame⟩
      · rw [rowAdvance_runCount, rowCount_evaluateRow, countIs]
      · have fails : RowFails w (taken s i) := fails.imp (fun h => total.symm ▸ h) id
        obtain ⟨given, latched⟩ := rowAdvance_stops knots working fails
        have tested := congrArg (fun t : State => t.knot.stopRecord) (testedRow_fails (s := taken s i) working fails)
        refine ⟨given, latched, _, kept.stop.trans tested, rfl, total, ?_, rfl⟩
        rw [← total]
        exact decide_eq_true_iff
      · have passes : ¬RowFails w (taken s i) := fun fails => fails.elim (fun h => by omega) fun ⟨c, hc, h⟩ => by
          have := passes c hc
          omega
        have tested := congrArg (fun t : State => t.knot.stopRecord) (testedRow_passes (s := taken s i) working passes)
        exact ⟨kept.stop.trans tested, rowAdvance_knotStop_eq (s := taken s i) knots working passes⟩
      · refine kept.run.elim id fun same => same.trans ?_
        exact if_pos (total.trans zero)
      · have passes : ¬RowFails w (taken s i) := fun fails => fails.elim (fun h => by omega) fun ⟨c, hc, h⟩ => by
          have := passes c hc
          omega
        refine rowAdvance_raises (s := taken s i) knots working passes opened (by rw [RunEnds, total]; exact ends) free reached
          near ?_
        rw [countIs]
        simp only [gauge_taken]
        exact still
      · have same := (rowAdvance_evaluated_knot (s := taken s i) knots (by rw [countIs]; exact ahead)).trans
          (evaluateRow_knot knots)
        rw [same]
        refine ⟨counting, working, ?_, fun some_ closed => ?_, fun run some_ opened => ?_⟩
        · exact List.map_map.trans (List.map_congr_left fun c _ => clearCount_sectionAfterRow c)
        · rw [← total] at some_ ⊢
          exact runAfterRow_new (s := taken s i) some_ closed
        · rw [← total] at some_ ⊢
          exact runAfterRow_more (s := taken s i) some_ opened
  · refine ⟨_, exec_rowEdge service edge, ?_⟩
    rw [rowEdge_settling (s := taken s i) settling]
    have asks : (taken s i).knot.cause = .lot ∧ isIdleRow (taken s i).knot.sections = false ↔
        s.knot.cause = .lot ∧ ∃ c ∈ s.knot.sections, 0 < c.count := by
      have knots : isIdleRow s.knot.sections = false ↔ ∃ c ∈ s.knot.sections, 0 < c.count := by
        rw [← Bool.not_eq_true, isIdleRow_iff]
        simp [Nat.pos_iff_ne_zero]
      exact and_congr_right fun _ => knots
    by_cases advances : (taken s i).knot.cause = .lot ∧ isIdleRow (taken s i).knot.sections = false
    · rw [if_pos advances]
      obtain ⟨lot, some_⟩ := asks.1 advances
      have kept := rowAdvance_rows (endSettlingRow (taken s i))
      obtain ⟨v, path⟩ := rowAdvance_evolves (scope := .stopless) (endSettlingRow (taken s i))
      have stop := (path False nofun).knotStop_eq rfl
      refine ⟨kept.serial, kept.history, kept.stop, kept.count_zero (count_clearCount _), stop.2, stop.1, fun rest => ?_,
        fun _ live _ => ⟨?_, fun ahead => ?_⟩⟩
      · obtain start | saturated | none_ := rest
        · exact absurd (lot.symm.trans start) nofun
        · rw [rowAdvance_saturated (s := endSettlingRow (taken s i)) saturated]
          exact ⟨rfl, (taken_frame s i).trans (changeKnot_frame _ _)⟩
        · obtain ⟨c, hc, counted⟩ := some_
          exact absurd (none_ c hc) counted.ne'
      · rw [rowAdvance_runCount, rowCount, if_neg (by simpa [endSettlingRow, changeKnot, taken] using live)]
        rfl
      · rw [rowAdvance_knot (s := endSettlingRow (taken s i)) (.inr fun m hm _ => ?_)]
        · rfl
        · rw [rowCount, if_neg (by simpa [endSettlingRow, changeKnot, taken] using live)]
          exact ahead m hm
    · rw [if_neg advances]
      exact ⟨rfl, rfl, rfl, count_clearCount _, rfl, rfl,
        fun _ => ⟨rfl, (taken_frame s i).trans (changeKnot_frame _ _)⟩,
        fun lot _ some_ => absurd (asks.2 ⟨lot, some_⟩) advances⟩

end Sys2Proof.Machine
end

section
/-! PROOFS. The local link (12.1): the frame that is not taken (O53), and TALLIES READ (O55). -/

namespace Sys2Proof.Machine

-- One theorem after another: side by side they need more threads than the memory of the check allows.
set_option Elab.async false

open SameOutside

/-! ## The frame that is not taken (R179) -/

/-- A frame with its sum byte is judged by the bytes up to it: the code and length in front, and the arguments. -/
theorem judgeLink_summed {code n : Byte} {rest : List Byte} (long : n.toNat < rest.length) :
    judgeLink (code :: n :: rest) = if byteSum ((code :: n :: rest).take (n.toNat + 3)) ≠ 0 then .badFrame
      else match argumentLength code.toNat with
        | none => .unknownCommand
        | some k =>
          if k ≠ n.toNat then .badFrame else .taken code.toNat (rest.take n.toNat) (rest.length - (n.toNat + 1)) := by
  rw [judgeLink, if_neg (by omega)]
  rfl

theorem judgeLink_summed_argumentLength {code n : Byte} {rest : List Byte} (long : n.toNat < rest.length)
    (sums : byteSum ((code :: n :: rest).take (n.toNat + 3)) = 0) :
    judgeLink (code :: n :: rest) = match argumentLength code.toNat with
      | none => .unknownCommand
      | some k =>
        if k ≠ n.toNat then .badFrame else .taken code.toNat (rest.take n.toNat) (rest.length - (n.toNat + 1)) := by
  rw [judgeLink_summed long, if_neg (not_not.2 sums)]

/-- The commands of the table are those of codes 1 to 29 (R190). -/
theorem argumentLength_eq_none {code : Nat} (unnamed : code = 0 ∨ 29 < code) : argumentLength code = none := by
  unfold argumentLength
  split <;> first | rfl | omega

theorem execBadFrame_badFrame {bytes : List Byte} {s : State} (judged : judgeLink bytes = .badFrame) :
    exec (.badFrame bytes) s = .next (refuseFrame bytes.length .badFrame s) := by
  change execBadFrame bytes s = _
  rw [execBadFrame, judged]

theorem execBadFrame_unknownCommand {bytes : List Byte} {s : State} (judged : judgeLink bytes = .unknownCommand) :
    exec (.badFrame bytes) s = .next (refuseFrame bytes.length .unknownCommand s) := by
  change execBadFrame bytes s = _
  rw [execBadFrame, judged]

theorem refuseFrame_link (len : Nat) (code : ResultCode) (s : State) : (refuseFrame len code s).link =
    { s.link with
      reply := some { code := code, data := [] }, ldo := shiftedOut len s
      badFrames := min (s.link.badFrames + 1) 65535
      lostReplies := if losesReply len s then min (s.link.lostReplies + 1) 65535 else s.link.lostReplies } := by
  rw [refuseFrame, finishFrame_eq]
  rfl

/-- Settles O53: each way a frame fails is one branch of its judgement, and either judgement refuses the frame. -/
theorem badFrameIsAnsweredAndTallied : Obligations.BadFrameIsAnsweredAndTallied := by
  intro bytes s code n rest answer fails
  suffices exec (.badFrame bytes) s = .next (refuseFrame bytes.length answer s) from
    ⟨_, this, refuseFrame_link _ _ s, refuseFrame_frame _ _ s⟩
  obtain ⟨rfl, short⟩ | ⟨rfl, ⟨rfl, short⟩ | ⟨long, ⟨rfl, sum⟩ | ⟨sum, ⟨rfl, unnamed⟩ | ⟨rfl, k, named, other⟩⟩⟩⟩ := fails
  · refine execBadFrame_badFrame ?_
    match bytes with
    | [] | [_] => rfl
    | _ :: _ :: _ => exact absurd short (by simp)
  · exact execBadFrame_badFrame (by rw [judgeLink, if_pos (by omega)])
  · exact execBadFrame_badFrame (by rw [judgeLink_summed long, if_pos sum])
  · exact execBadFrame_unknownCommand (by
      rw [judgeLink_summed_argumentLength long sum, argumentLength_eq_none unnamed])
  · refine execBadFrame_badFrame ?_
    rw [judgeLink_summed_argumentLength long sum, named]
    exact if_pos other

/-! ## TALLIES READ (R182) -/

/-- A part whose tallies have been cleared, up to the link's reply, shifted bytes and lost-reply tally, and the open
orders. -/
def talliesCleared (orders : Nat) (link : LocalLink) (s : State) : State :=
  ((clearTallies s).withOrders orders).withLink link

/-- What is shifted out depends on the reply held alone. -/
theorem shiftedOut_congr (len : Nat) {s t : State} (reply : t.link.reply = s.link.reply) :
    shiftedOut len t = shiftedOut len s := by rw [shiftedOut, shiftedOut, heldBytes, heldBytes, reply]

theorem readTallies_eq (len : Nat) (s : State) : readTallies len s = talliesCleared s.orders
    { s.link with
      lostReplies := if losesReply len s then 1 else 0, badFrames := 0
      reply := some (done (tallyBytes s)), ldo := shiftedOut len s } s := by
  rw [readTallies, finishFrame_eq]
  rfl

theorem readTalliesAfterLoss_eq {len : Nat} {s : State} (loses : losesReply len s = true) :
    readTalliesAfterLoss len s = talliesCleared s.orders
      { s.link with
        lostReplies := 0, badFrames := 0
        reply := some (done (tallyBytes (s.withLink { s.link with lostReplies := tally s.link.lostReplies })))
        ldo := shiftedOut len s } s := by
  rw [readTalliesAfterLoss, countLost, if_pos loses, placeReply, shiftedOut_congr (s := s)]
  · rfl
  · rfl

theorem talliesCleared_frame (orders : Nat) (link : LocalLink) (s : State) :
    SameOutside [.length, .marks, .feeds, .builder, .port, .link, .orders] s (talliesCleared orders link s) :=
  ((clearTallies_frame s).trans (withOrders _ orders)).trans (withLink _ link)

/-- Settles O55: the tallies stand at 0 after the command in either order of the lost reply, which decides where that
reply is counted. -/
theorem talliesAreReportedAndCleared : Obligations.TalliesAreReportedAndCleared := by
  intro fill s
  have frame : frameLength 0 fill = 3 + fill := rfl
  have order : exec (.talliesRead fill) s = .next (if losesReply (3 + fill) s then
      if s.firstOpen then readTalliesAfterLoss (3 + fill) s.useOrder else readTallies (3 + fill) s.useOrder
    else readTallies (3 + fill) s) := rfl
  refine ⟨_, order, ?_⟩
  by_cases loses : losesReply (3 + fill) s = true
  · have losesAfter : losesReply (3 + fill) s.useOrder = true := loses
    rw [if_pos loses]
    by_cases first : s.firstOpen = true
    · rw [if_pos first, readTalliesAfterLoss_eq losesAfter]
      exact ⟨rfl, rfl, rfl, rfl, rfl, rfl, rfl, rfl, rfl, fun keeps => absurd (loses.symm.trans keeps) nofun,
        fun _ => .inr ⟨rfl, rfl⟩, talliesCleared_frame _ _ _⟩
    · rw [if_neg first, readTallies_eq]
      exact ⟨rfl, rfl, rfl, rfl, rfl, rfl, rfl, rfl, rfl, fun keeps => absurd (loses.symm.trans keeps) nofun,
        fun _ => .inl ⟨if_pos losesAfter, rfl⟩, talliesCleared_frame _ _ _⟩
  · rw [if_neg loses, readTallies_eq]
    exact ⟨rfl, rfl, rfl, rfl, rfl, rfl, rfl, rfl, rfl, fun _ => ⟨if_neg loses, rfl⟩,
      fun lost => absurd lost loses, talliesCleared_frame _ _ _⟩

end Sys2Proof.Machine
end

section
/-! PROOFS. Where the next cut falls, and what the cut test starts, in the words of the statements (8.4, 8.5). -/

namespace Sys2Proof.Machine

-- One theorem after another: side by side they need more threads than the memory of the check allows.
set_option Elab.async false

open SameOutside

/-! ## Targets (R120, R123) -/

/-- A coil cut at its run target has the target as its relaxed length, and a shorter one less (R120, R123). -/
theorem relaxedLength_runTarget (target stretch : Nat) :
    relaxedLength (runTarget target stretch) stretch = target ∧
      ∀ shorter, shorter < runTarget target stretch → relaxedLength shorter stretch < target := by
  have positive : 0 < 10000 + stretch := by omega
  have factor : target * (10000 + stretch) / 10000 * 10000 ≤ target * (10000 + stretch) := Nat.div_mul_le_self _ _
  have run : runTarget target stretch = (target * (10000 + stretch) + 9999) / 10000 := rfl
  rw [run]
  refine ⟨?_, fun shorter less => ?_⟩
  · rw [relaxedLength]
    refine Nat.div_eq_of_lt_le ?_ ?_
    · omega
    · rw [Nat.succ_mul]; omega
  · rw [relaxedLength, Nat.div_lt_iff_lt_mul positive]
    omega

theorem plannedAt_eq (start target stretch : Nat) :
    plannedAt start target stretch = if target = 0 then none else some (plannedCut start target stretch) := rfl

/-! ## Cut points (R125) -/

theorem qualifies_iff (s : State) (start : Nat) (m : Mark) : qualifies s start m = true ↔ qualifiesAt s start m := by
  unfold qualifies qualifiesAt clearsSpacing
  cases m.kind <;> simp [MarkKind.isBoundary, and_comm]

theorem firstQualifying_eq_some_iff (s : State) (start : Nat) (m : Mark) :
    firstQualifying s start = some m ↔ isCutPoint s start m := by
  simp only [firstQualifying, List.find?_eq_some_iff_append, isCutPoint, Bool.not_eq_true', Bool.eq_false_iff, ne_eq,
    qualifies_iff]
  exact ⟨fun ⟨q, before, after, list, others⟩ => ⟨before, after, list, q, others⟩,
    fun ⟨before, after, list, q, others⟩ => ⟨q, before, after, list, others⟩⟩

theorem cutReach_eq (s : State) : cutReach s = reachAt s s.length.runCount := rfl

theorem boundaryReached_eq_some_iff (s : State) (cur : CurrentCoil) (m : Mark) : boundaryReached s cur = some m ↔
    isCutPoint s cur.record.start m ∧ m.position ≤ reachAt s s.length.runCount := by
  rw [boundaryReached, Option.filter_eq_some_iff, firstQualifying_eq_some_iff, decide_eq_true_iff, cutReach_eq]

theorem boundaryReached_eq_none {s : State} {cur : CurrentCoil}
    (ahead : ∀ m, isCutPoint s cur.record.start m → reachAt s s.length.runCount < m.position) : boundaryReached s cur = none :=
  Option.eq_none_iff_forall_ne_some.2 fun m reached => by
    have := (boundaryReached_eq_some_iff s cur m).1 reached
    have := ahead m this.1
    omega

theorem targetReached_iff_targetIsReached (s : State) (cur : CurrentCoil) :
    targetReached s cur = true ↔ targetIsReached s cur.record s.length.runCount := targetReached_iff s cur

theorem lowerOf_eq_some_iff (a b : Option Nat) (n : Nat) : lowerOf a b = some n ↔
    (a = some n ∨ b = some n) ∧ (∀ p, a = some p → n ≤ p) ∧ (∀ p, b = some p → n ≤ p) := by
  cases a with
  | none => cases b <;> simp +contextual [lowerOf, eq_comm]
  | some p =>
    cases b with
    | none => simp +contextual [lowerOf, eq_comm]
    | some q =>
      simp only [lowerOf, Option.some.injEq, forall_eq']
      omega

theorem nextCutPosition_eq_some_iff (s : State) (cur : CurrentCoil) (n : Nat) : nextCutPosition s cur = some n ↔
    (cur.record.planned = some n ∨ ∃ m, isCutPoint s cur.record.start m ∧ m.position = n) ∧
    (∀ p, cur.record.planned = some p → n ≤ p) ∧ (∀ m, isCutPoint s cur.record.start m → n ≤ m.position) := by
  simp only [nextCutPosition, lowerOf_eq_some_iff, Option.map_eq_some_iff, firstQualifying_eq_some_iff]
  refine and_congr_right fun _ => and_congr_right fun _ => ⟨fun h m point => h _ ⟨m, point, rfl⟩, ?_⟩
  rintro h p ⟨m, point, rfl⟩
  exact h m point

/-- The cut test is met where the next cut position is reached (R126). -/
theorem cutIsReached_iff (s : State) (cur : CurrentCoil) : cutIsReached s cur.record s.length.runCount ↔
    ∃ p, nextCutPosition s cur = some p ∧ p ≤ cutReach s := by
  simp only [cutIsReached, targetIsReached, ← firstQualifying_eq_some_iff, ← cutReach_eq, nextCutPosition]
  cases cur.record.planned <;> cases firstQualifying s cur.record.start <;> simp [lowerOf]

/-! ## The sequence of the cut test (R126, R127) -/

theorem hasCause_zero (c : CutReason) : hasCause c 0 = false := by cases c <;> rfl

/-- The sequence that the cut test starts is the one of the points reached. -/
theorem sequenceReached_reachedSequence (s : State) (cur : CurrentCoil) :
    sequenceReached s cur.record s.length.runCount (reachedSequence 0 s cur) := by
  refine ⟨rfl, fun c => ?_, fun m point reached => ?_, fun ahead => ?_⟩
  · simp only [hasCause_reachedSequence, hasCause_zero, targetReached_iff_targetIsReached, boundaryReached_eq_some_iff,
      cause_eq, and_assoc, Bool.false_eq_true, false_or]
    rfl
  · have claimed := (boundaryReached_eq_some_iff s cur m).2 ⟨point, reached⟩
    rw [reachedSequence, claimed]
    exact ⟨rfl, rfl⟩
  · rw [reachedSequence, boundaryReached_eq_none ahead]
    exact ⟨rfl, rfl⟩

theorem cutTest_reached {s : State} {cur : CurrentCoil} (building : s.builder.state = .building)
    (current : s.builder.current = some cur) (reached : cutIsReached s cur.record s.length.runCount) :
    cutTest s = goOn (s.withBuilder { s.builder with sequence := some (reachedSequence 0 s cur) }) := by
  obtain ⟨p, next, here⟩ := (cutIsReached_iff s cur).1 reached
  rw [cutTest, building, current]
  dsimp only
  rw [next]
  dsimp only
  rw [if_pos here, startReached_eq 0 current]

theorem cutTest_ahead {s : State} {cur : CurrentCoil} (current : s.builder.current = some cur)
    (ahead : ¬cutIsReached s cur.record s.length.runCount) : cutTest s = s := by
  unfold cutTest
  split
  · next c _ coil =>
    cases current.symm.trans coil
    split
    · next p next => exact if_neg fun here => ahead ((cutIsReached_iff s cur).2 ⟨p, next, here⟩)
    · rfl
  · rfl

/-- Either the cut test leaves the part as it is, or a sequence goes on from it. -/
theorem cutTest_cases (s : State) : cutTest s = s ∨
    ∃ cur, s.builder.state = .building ∧ s.builder.current = some cur ∧ cutIsReached s cur.record s.length.runCount ∧
      cutTest s = goOn (s.withBuilder { s.builder with sequence := some (reachedSequence 0 s cur) }) := by
  by_cases building : s.builder.state = .building
  · cases current : s.builder.current with
    | none => exact .inl (by rw [cutTest, building, current])
    | some cur =>
      by_cases reached : cutIsReached s cur.record s.length.runCount
      · exact .inr ⟨cur, building, rfl, reached, cutTest_reached building current reached⟩
      · exact .inl (cutTest_ahead current reached)
  · exact .inl (cutTest_idle building)

/-- Going on by the coil log changes no more of the builder than its state and its timer. -/
theorem goOn_builder (s : State) : (goOn s).builder = { s.builder with
    state := (goOn s).builder.state, cutTimer := (goOn s).builder.cutTimer } := by
  obtain room | full := Nat.lt_or_ge s.builder.log.length 8
  · rw [(goOn_cutting room).1]
  · rw [(goOn_cutDue full).1]

/-- A sequence that goes on by the coil log goes on as the statements say (R127). -/
theorem goesOn_goOn {s : State} {q : CutSequence} (sequence : s.builder.sequence = some q) :
    goesOn s.builder.log.length q (goOn s) := by
  refine ⟨(goOn_sequence s).trans sequence, fun room => ?_, fun full => ?_⟩
  · obtain ⟨builder, hold, -⟩ := goOn_cutting room
    have now : (goOn s).now = s.now := (goOn_frame s (bs := [.builder, .hold, .port])) .now (by decide)
    rw [builder, now, hold]
    refine ⟨rfl, rfl, hasReason_give .cut _, ?_⟩
    exact (hasReason_give_other .cut .logFull _ (by decide)).trans (hasReason_remove .logFull _)
  · obtain ⟨builder, hold, -⟩ := goOn_cutDue full
    rw [builder, hold]
    exact ⟨rfl, hasReason_give .logFull _⟩

theorem cutTest_goesOn {s : State} {cur : CurrentCoil} (building : s.builder.state = .building)
    (current : s.builder.current = some cur) (reached : cutIsReached s cur.record s.length.runCount) :
    goesOn s.builder.log.length (reachedSequence 0 s cur) (cutTest s) := by
  rw [cutTest_reached building current reached]
  exact goesOn_goOn (s := s.withBuilder { s.builder with sequence := some (reachedSequence 0 s cur) }) rfl

/-- The cut test leaves all of the builder but its state, its timer and its sequence. -/
theorem cutTest_builder (s : State) : (cutTest s).builder = { s.builder with
    state := (cutTest s).builder.state, cutTimer := (cutTest s).builder.cutTimer
    sequence := (cutTest s).builder.sequence } := by
  obtain same | ⟨cur, -, -, -, test⟩ := cutTest_cases s
  · rw [same]
  · rw [test, goOn_builder]
    rfl

end Sys2Proof.Machine
end

section
/-! PROOFS. The commands of the lot table (7.1, 7.2) and of the plan and the log (8.2, 8.9): LOT LOAD and LOT DROP (O31), PLAN
APPEND (O33), and COIL TAKE (O35). -/

namespace Sys2Proof.Machine

-- One theorem after another: side by side they need more threads than the memory of the check allows.
set_option Elab.async false

open SameOutside

/-! ## The lot table (R107) -/

/-- What the table holds under each tag, once a record has been stored. -/
theorem heldRecord_insertRecord (r : LotRecord) (table : List LotRecord) (x : Nat) :
    heldRecord (insertRecord r table) x = if x = r.tag then some r else heldRecord table x := by
  have cons (q : LotRecord) (rest : List LotRecord) :
      heldRecord (q :: rest) x = if q.tag = x then some q else heldRecord rest x := by
    by_cases same : q.tag = x <;> simp [heldRecord, same]
  induction table with
  | nil => simp only [insertRecord, cons, eq_comm]
  | cons q rest ih =>
    by_cases below : q.tag < r.tag
    · rw [insertRecord, if_pos below, cons, ih, cons]
      grind
    · by_cases same : q.tag = r.tag
      · rw [insertRecord, if_neg below, if_pos same, cons, cons]
        grind
      · rw [insertRecord, if_neg below, if_neg same, cons, cons]
        grind

theorem heldRecord_filter (table : List LotRecord) (tag x : Nat) :
    heldRecord (table.filter fun r => decide (r.tag ≠ tag)) x = if x = tag then none else heldRecord table x := by
  rw [heldRecord, List.find?_filter]
  split
  · next here =>
    subst here
    exact List.find?_eq_none.2 fun r _ => by simp
  · next other =>
    rw [heldRecord]
    congr 1
    funext r
    by_cases same : r.tag = x <;> simp [same, other]

/-! ## LOT LOAD (R110) -/

theorem exec_lotLoad_refused {r : LotRecord} {s : State} {reply : Reply} (fill : Nat) (refused : loadRefusal r s = some reply) :
    exec (.lotLoad r fill) s = .next (finishFrame (28 + fill) reply s) := by
  change execLotLoad r fill s = _
  rw [execLotLoad, refused]
  rfl

theorem exec_lotLoad_taken {r : LotRecord} {s : State} (fill : Nat) (taken : loadRefusal r s = none) :
    exec (.lotLoad r fill) s = .next (finishFrame (28 + fill) (done (be 1 (loadOutcome r s))) (loadRecord r s)) := by
  change execLotLoad r fill s = _
  rw [execLotLoad, taken]
  rfl

/-- A record in range that passes its tests is refused for want of a place, or in use. -/
theorem loadRefusal_tested {r : LotRecord} {s : State} (running : s.station = .running) (inside : recordInRange r = true)
    (passes : failedTest (completeRecord r s.profile.base) = none) : loadRefusal r s =
      if r.tag = s.lots.activeTag ∧ s.lots.unknown = false then some (bare .inUse)
      else if heldRecord s.lots.table r.tag = none ∧ 8 ≤ s.lots.table.length then some (bare .full)
      else none := by
  rw [loadRefusal, isRunning_of_running running, inside, passes]
  rfl

/-! ## LOT DROP (R112) -/

theorem exec_lotDrop_refused {tag : Nat} {s : State} {code : ResultCode} (fill : Nat) (refused : dropRefusal tag s = some code) :
    exec (.lotDrop tag fill) s = .next (finishFrame (4 + fill) (bare code) s) := by
  change execLotDrop tag fill s = _
  rw [execLotDrop, refused]
  rfl

theorem exec_lotDrop_taken {tag : Nat} {s : State} (fill : Nat) (taken : dropRefusal tag s = none) :
    exec (.lotDrop tag fill) s = .next (finishFrame (4 + fill) (done [])
      (s.withLots { s.lots with table := s.lots.table.filter fun r => decide (r.tag ≠ tag) })) := by
  change execLotDrop tag fill s = _
  rw [execLotDrop, taken]
  rfl

theorem lotWaits_iff (tag : Nat) (s : State) :
    lotWaits tag s = true ↔ ∃ w ∈ s.marks.marks, w.kind = .lotChange ∧ w.lotTag = tag := by
  simp [lotWaits]

theorem dropRefusal_held {tag : Nat} {s : State} (running : s.station = .running) (named : tag ≠ 0)
    (held : heldRecord s.lots.table tag ≠ none) : dropRefusal tag s =
      if tag = s.lots.activeTag then some .inUse else if lotWaits tag s then some .inUse else none := by
  rw [dropRefusal, isRunning_of_running running, if_neg nofun, if_neg named, if_neg held]

/-- Settles O31, refusal by refusal: the table is searched before and after the one change of each command. -/
theorem lotTableIsLoadedAndDropped : Obligations.LotTableIsLoadedAndDropped := by
  intro r tag fill s running
  have loadRefused {reply : Reply} (refused : loadRefusal r s = some reply) : ∃ t, exec (.lotLoad r fill) s = .next t ∧
      Answers (28 + fill) reply s t ∧ SameOutside [.link] s t :=
    ⟨_, exec_lotLoad_refused fill refused, (answers_read _ _ _).symm⟩
  have dropRefused {code : ResultCode} (refused : dropRefusal tag s = some code) : ∃ t, exec (.lotDrop tag fill) s = .next t ∧
      Answers (4 + fill) (bare code) s t ∧ SameOutside [.link] s t :=
    ⟨_, exec_lotDrop_refused fill refused, (answers_read _ _ _).symm⟩
  refine ⟨fun inside passes other room => ?stored, fun outside => loadRefused ?_, fun n inside fails => loadRefused ?_,
    fun inside passes active known => loadRefused ?_, fun inside passes free absent full => loadRefused ?_,
    fun named held other free => ?dropped, fun zero => dropRefused ?_, fun named absent => dropRefused ?_,
    fun named held used => dropRefused ?_⟩
  case stored =>
    have taken : loadRefusal r s = none := by
      rw [loadRefusal_tested running inside passes, if_neg fun h => other h.1, if_neg fun h => ?_]
      obtain held | places := room
      · exact held h.1
      · omega
    have load : loadRecord r s = storeRecord r s := if_neg other
    have outcome : be 1 (loadOutcome r s) = [if heldRecord s.lots.table r.tag = none then 0 else 1] := by
      rw [loadOutcome, if_neg other]
      cases heldRecord s.lots.table r.tag <;> simp [be_one]
    refine ⟨_, exec_lotLoad_taken fill taken, ?_⟩
    rw [load, outcome, finishFrame_lots]
    refine ⟨(heldRecord_insertRecord r _ _).trans (if_pos rfl), fun x different =>
      (heldRecord_insertRecord r _ _).trans (if_neg different), rfl, answers_finishFrame _ _ rfl,
      sameOutside_finishFrame _ _ (withLots s _ (bs := [.lots]))⟩
  case dropped =>
    have taken : dropRefusal tag s = none := by
      rw [dropRefusal_held running named held, if_neg other, if_neg fun waits => ?_]
      obtain ⟨w, waiting, kind, same⟩ := (lotWaits_iff tag s).1 waits
      exact free w waiting kind same
    refine ⟨_, exec_lotDrop_taken fill taken, ?_⟩
    rw [finishFrame_lots]
    exact ⟨(heldRecord_filter _ _ _).trans (if_pos rfl), fun x different => (heldRecord_filter _ _ _).trans (if_neg different),
      rfl, answers_finishFrame _ _ rfl, sameOutside_finishFrame _ _ (withLots s _ (bs := [.lots]))⟩
  · rw [loadRefusal, isRunning_of_running running, outside]
    rfl
  · rw [loadRefusal, isRunning_of_running running, inside, fails]
    rfl
  · rw [loadRefusal_tested running inside passes, if_pos ⟨active, known⟩]
  · rw [loadRefusal_tested running inside passes, if_neg fun h => ?_, if_pos ⟨absent, full⟩]
    obtain other | unknown := free
    · exact other h.1
    · exact absurd (unknown.symm.trans h.2) nofun
  · rw [dropRefusal, isRunning_of_running running, zero]
    rfl
  · rw [dropRefusal, isRunning_of_running running, if_neg nofun, if_neg named, if_pos absent]
  · rw [dropRefusal_held running named held]
    obtain active | waiting := used
    · exact if_pos active
    · rw [if_pos ((lotWaits_iff tag s).2 waiting), ite_self]

/-! ## PLAN APPEND (R121, R124) -/

theorem exec_planAppend_refused {lotTag target count package : Nat} {s : State} {code : ResultCode} (fill : Nat)
    (refused : appendCheck lotTag target count package s = .error code) :
    exec (.planAppend lotTag target count package fill) s = .next (finishFrame (10 + fill) (bare code) s) := by
  change execPlanAppend lotTag target count package fill s = _
  rw [execPlanAppend, refused]
  rfl

theorem exec_planAppend_taken {lotTag target count package : Nat} {s : State} {e : PlanEntry} (fill : Nat)
    (taken : appendCheck lotTag target count package s = .ok e) :
    exec (.planAppend lotTag target count package fill) s =
      .next (finishFrame (10 + fill) (done [BitVec.ofNat 8 (s.builder.plan.length + 1)]) (appendEntry e s)) := by
  change execPlanAppend lotTag target count package fill s = _
  rw [execPlanAppend, taken, ← be_one]
  rfl

/-- The arguments of a PLAN APPEND that are in range (R121). -/
def entryInRange (lotTag target count package : Nat) : Prop :=
  lotTag ≤ 255 ∧ (target = 0 ∨ (1000 ≤ target ∧ target ≤ 4000000)) ∧ 1 ≤ count ∧ count ≤ 255 ∧ package ≤ 255 ∧
    package / 16 % 8 = 0

/-- The end flag is bit 7 of the package byte (R189). -/
theorem testBit_seven {package : Nat} (byte : package ≤ 255) : package.testBit 7 = decide (128 ≤ package) := by
  rw [Nat.testBit_eq_decide_div_mod_eq, decide_eq_decide]
  omega

theorem appendCheck_entry {lotTag target count package : Nat} {s : State} (taken : builderShut s = false)
    (inside : entryInRange lotTag target count package) : appendCheck lotTag target count package s =
      if s.builder.plan.any PlanEntry.endFlag then .error .wrongState
      else if 32 ≤ s.builder.plan.length then .error .full
      else .ok { lotTag := lotTag, target := target, count := count, package := package % 16
                 endFlag := decide (128 ≤ package) } := by
  obtain ⟨-, -, -, -, byte, -⟩ := id inside
  have entry : planEntryOf lotTag target count package = _ := if_pos inside
  rw [appendCheck, taken, if_neg nofun, entry, testBit_seven byte]
  rfl

theorem any_endFlag_eq_false {plan : List PlanEntry} (last : ∀ p ∈ plan, p.endFlag = false) :
    ¬plan.any PlanEntry.endFlag = true := by
  rw [List.any_eq_true]
  exact fun ⟨p, waits, flag⟩ => absurd ((last p waits).symm.trans flag) nofun

/-- An entry appended to others, or while the builder is not BUILDING, is all that changes. -/
theorem appendEntry_tail {e : PlanEntry} {s : State} (waits : s.builder.plan ≠ [] ∨ s.builder.state ≠ .building) :
    appendEntry e s = s.withBuilder { s.builder with plan := s.builder.plan ++ [e] } := by
  unfold appendEntry
  by_cases empty : s.builder.plan = []
  · have state : s.builder.state ≠ .building := waits.resolve_left (not_not.2 empty)
    rw [if_pos empty, lateTake]
    split
    · next building _ => exact absurd building state
    · rfl
  · exact if_neg empty

/-- An entry that becomes the head, before a coil without entry and target. -/
theorem appendEntry_head {e : PlanEntry} {s : State} {cur : CurrentCoil} (empty : s.builder.plan = [])
    (building : s.builder.state = .building) (current : s.builder.current = some cur) (bare : cur.entryRef = false)
    (targetless : cur.record.target = 0) : appendEntry e s =
      if e.lotTag = 0 ∨ e.lotTag = s.lots.activeTag then
        cutTest (changeCoil (takeEntry e) (s.withBuilder { s.builder with plan := [e] }))
      else latch .planMismatch (s.withBuilder { s.builder with plan := [e] }) := by
  rw [appendEntry, if_pos empty, empty, List.nil_append, lateTake]
  dsimp only [State.withBuilder_builder]
  rw [building, current]
  dsimp only
  rw [if_pos ⟨bare, targetless⟩]
  simp only [entryMatches, Bool.or_eq_true, decide_eq_true_eq]
  rfl

theorem appendEntry_plan (e : PlanEntry) (s : State) :
    (appendEntry e s).builder.plan = s.builder.plan ++ [e] := by
  unfold appendEntry
  split
  · rw [lateTake]
    split
    · split
      · split
        · next empty => rfl
        · split
          · rw [cutTest_builder]; rfl
          · rfl
      · rfl
    · rfl
  · rfl

theorem cutTest_link (s : State) : (cutTest s).link = s.link :=
  (cutTest_frame s (bs := [.builder, .hold, .port])) .link (by decide)

theorem appendEntry_link (e : PlanEntry) (s : State) :
    (appendEntry e s).link = { s.link with latched := (appendEntry e s).link.latched } := by
  unfold appendEntry
  split
  · rw [lateTake]
    split
    · split
      · split
        · rfl
        · split
          · rw [cutTest_link]; rfl
          · rfl
      · rfl
    · rfl
  · rfl

/-- A command that latches and then ends its frame replies with the reply it ends the frame with. -/
theorem replies_finishFrame (len : Nat) (r : Reply) {s t : State} (link : t.link = { s.link with latched := t.link.latched }) :
    Replies len r s (finishFrame len r t) := by
  have reply : t.link.reply = s.link.reply := by rw [link]
  have loses : losesReply len t = losesReply len s := by rw [losesReply, losesReply, heldBytes, heldBytes, reply]
  rw [finishFrame_eq, shiftedOut_congr len reply, loses, link]
  exact ⟨rfl, rfl, rfl, rfl, rfl⟩

/-- Settles O33: the entry stands at the tail, and where it has become the head the coil looks at it. -/
theorem planAppendEntersTheTail : Obligations.PlanAppendEntersTheTail := by
  intro lotTag target count package fill e s isEntry
  have refused {code : ResultCode} (check : appendCheck lotTag target count package s = .error code) :
      ∃ t, exec (.planAppend lotTag target count package fill) s = .next t ∧
        Answers (10 + fill) (bare code) s t ∧ SameOutside [.link] s t :=
    ⟨_, exec_planAppend_refused fill check, (answers_read _ _ _).symm⟩
  refine ⟨fun shut => refused ?_, fun running atWork inside => ⟨fun last room => ?taken, fun ⟨p, waits, flag⟩ => refused ?_,
    fun last full => refused ?_⟩, fun running atWork outside => refused ?_⟩
  case taken =>
    have check := appendCheck_entry (builderShut_eq_false running atWork) inside
    rw [if_neg (any_endFlag_eq_false last), if_neg (Nat.not_le.2 room), ← isEntry] at check
    refine ⟨_, exec_planAppend_taken fill check, by rw [finishFrame_builder, appendEntry_plan],
      replies_finishFrame _ _ (appendEntry_link e s), sameOutside_finishFrame _ _ (appendEntry_frame e s
        (bs := [.builder, .hold, .port, .link])), fun waits => ?_, fun cur empty building current free targetless =>
      ⟨fun same => ?_, fun any other => ?_⟩⟩
    · rw [appendEntry_tail waits]
      exact ⟨finishFrame_builder _ _ _, sameOutside_finishFrame _ _ (withBuilder s _ (bs := [.builder])),
        finishFrame_latched _ _ _⟩
    · have head := appendEntry_head (e := e) empty building current free targetless
      rw [if_pos (by rw [isEntry]; exact same)] at head
      rw [finishFrame_builder, finishFrame_latched, head, cutTest_builder, cutTest_link]
      refine ⟨?_, rfl⟩
      change s.builder.current.map (takeEntry e) = _
      rw [current, isEntry]
      rfl
    · have head := appendEntry_head (e := e) empty building current free targetless
      rw [if_neg (by rw [isEntry]; exact not_or.2 ⟨any, other⟩)] at head
      rw [head]
      exact ⟨finishFrame_builder _ _ _, sameOutside_finishFrame _ _ ((withBuilder s _).trans (latch_frame _ _)
        (bs := [.builder, .link])), finishFrame_latched _ _ _⟩
  · rw [appendCheck, if_pos ((builderShut_iff s).2 shut)]
  · rw [appendCheck_entry (builderShut_eq_false running atWork) inside, if_pos (List.any_eq_true.2 ⟨p, waits, flag⟩)]
  · rw [appendCheck_entry (builderShut_eq_false running atWork) inside, if_neg (any_endFlag_eq_false last), if_pos full]
  · rw [appendCheck, builderShut_eq_false running atWork, if_neg nofun,
      show planEntryOf lotTag target count package = none from if_neg outside]

/-! ## COIL TAKE (R127, R138) -/

/-- Settles O35: the record at the front is the reply, and in CUT_DUE the builder enters CUTTING. -/
theorem coilTakeRemovesTheOldest : Obligations.CoilTakeRemovesTheOldest := by
  intro fill s
  have order : exec (.coilTake fill) s = match s.builder.log with
      | [] => .next (finishFrame (3 + fill) (bare .empty) s)
      | c :: rest => .next (finishFrame (3 + fill) (done (coilBytes c false)) (takeCoil rest s)) := rfl
  refine ⟨fun empty => ?_, fun c rest log => ?_⟩
  · rw [order, empty]
    exact ⟨_, rfl, (answers_read _ _ _).symm⟩
  · rw [order, log]
    dsimp only
    by_cases due : s.builder.state = .cutDue
    · have go : takeCoil rest s = enterCutting (s.withBuilder { s.builder with log := rest }) := if_pos due
      refine ⟨_, rfl, answers_finishFrame _ _ ?_, fun other => absurd due other, fun _ => ?_⟩
      · rw [go]
        exact setReasons_link _ _
      · rw [go]
        have entered : (enterCutting (s.withBuilder { s.builder with log := rest })).builder =
            { s.builder with log := rest, state := .cutting, cutTimer := some s.now } := setReasons_builder _ _
        rw [State.cutAsserted, finishFrame_builder, entered]
        exact ⟨rfl, rfl, reasonsBecome_finishFrame _ _ (setReasons_reasonsBecome _ _),
          sameOutside_finishFrame _ _ ((withBuilder s _).trans (enterCutting_frame _) (bs := [.builder, .hold, .port]))⟩
    · have kept : takeCoil rest s = s.withBuilder { s.builder with log := rest } := if_neg due
      rw [kept]
      exact ⟨_, rfl, answers_finishFrame _ _ rfl, fun _ => ⟨finishFrame_builder _ _ _,
        sameOutside_finishFrame _ _ (withBuilder s _ (bs := [.builder]))⟩, fun same => absurd same due⟩

end Sys2Proof.Machine
end

section
/-! PROOFS. Frames received (10.4): which frames are taken, and what a notice does to the feed table and the holder list (O26,
O45), and those that are not taken (O49). -/

namespace Sys2Proof.Machine

-- One theorem after another: side by side they need more threads than the memory of the check allows.
set_option Elab.async false

open SameOutside

/-! ## Which frames are taken (R161) -/

theorem takesFrames_iff (p : BusPort) :
    takesFrames p = true ↔ (p.state = .active ∨ p.state = .muted) ∧ p.sending = none := by
  simp [takesFrames]

theorem exec_frameReceived (early : Bool) (bits : List Bool) (s : State) :
    exec (.frameReceived early bits) s = .next (receiveFrame early bits s) := rfl

theorem exec_frameReceived_deaf (early : Bool) (bits : List Bool) {s : State} (deaf : takesFrames s.port = false) :
    exec (.frameReceived early bits) s = .next s := by
  obtain ⟨-, same⟩ | ⟨takes, -⟩ | ⟨takes, -⟩ := receiveFrame_cases early bits s
  · rw [exec_frameReceived, same]
  · exact absurd (takes.symm.trans deaf) nofun
  · exact absurd (takes.symm.trans deaf) nofun

theorem exec_frameReceived_underWay {early : Bool} (bits : List Bool) {s : State}
    (state : s.port.state = .active ∨ s.port.state = .muted) (free : s.port.sending = none) (underWay : wasUnderWay s early) :
    exec (.frameReceived early bits) s = .next (s.withPort (portAfterFrame s bits)) := by
  obtain ⟨deaf, -⟩ | ⟨-, -, passed⟩ | ⟨-, other, -⟩ := receiveFrame_cases early bits s
  · exact absurd (((takesFrames_iff _).2 ⟨state, free⟩).symm.trans deaf) nofun
  · rw [exec_frameReceived, passed]
  · exact absurd underWay other

theorem exec_frameReceived_judged {early : Bool} (bits : List Bool) {s : State}
    (state : s.port.state = .active ∨ s.port.state = .muted) (free : s.port.sending = none) (judged : ¬wasUnderWay s early) :
    exec (.frameReceived early bits) s = .next (judgeReceived early bits (s.withPort (portAfterFrame s bits))) := by
  obtain ⟨deaf, -⟩ | ⟨-, underWay, -⟩ | ⟨-, -, received⟩ := receiveFrame_cases early bits s
  · exact absurd (((takesFrames_iff _).2 ⟨state, free⟩).symm.trans deaf) nofun
  · exact absurd underWay judged
  · rw [exec_frameReceived, received]

/-! ## The score (R164) -/

theorem lowerScore_portAfterFrame (s : State) (bits : List Bool) :
    lowerScore (s.withPort (portAfterFrame s bits)) = s.withPort (portAfterGood s bits) := by
  have state : (portAfterFrame s bits).state = s.port.state := rfl
  unfold lowerScore portAfterGood
  rw [State.withPort_port, state]
  by_cases active : s.port.state = .active
  · rw [if_pos active, if_pos active]
    rfl
  · rw [if_neg active, if_neg active]
    rfl

/-- A good, fit frame from another station is taken by a port that has counted it good. -/
theorem exec_frameReceived_heard {early : Bool} {bits : List Bool} {s : State} {f : RxFrame} (hears : hearsFrame s early bits f) :
    exec (.frameReceived early bits) s = .next (takeFrame f (s.withPort (portAfterGood s bits))) := by
  obtain ⟨state, free, judged, fit, other⟩ := hears
  rw [exec_frameReceived_judged bits state free (not_wasUnderWay_of_good judged), judgeReceived, judged]
  dsimp only
  rw [if_neg (by simp [fit]), if_neg (by exact other), lowerScore_portAfterFrame]

/-! ## POSITION notices (R54) -/

theorem modify_eq_set {α : Type} {l : List α} {i : Nat} {a : α} (at_i : l[i]? = some a) (f : α → α) :
    l.modify i f = l.set i (f a) := by
  rw [List.modify_eq_set_getElem?, at_i]
  rfl

/-- What the hearing of a feed that is not LOST changes: its entry. -/
theorem feedHears_heard {i : Nat} {e : FeedEntry} {s : State} (found : e.state ≠ .lost) (entry : s.feeds.table[i]? = some e) :
    feedHears i e s = s.withFeeds { s.feeds with table := s.feeds.table.set i (heardEntry s e) } := by
  rw [feedHears, if_neg found, changeFeed, modify_eq_set entry, heardEntry, if_neg found]

theorem getElem?_set_of_entry {α : Type} {l : List α} {i : Nat} {a : α} (entry : l[i]? = some a) (b : α) :
    (l.set i b)[i]? = some b :=
  List.getElem?_set_self (List.getElem?_eq_some_iff.1 entry).1

/-! ## O26 fails: a POSITION notice that finds a LOST feed raises a LOSS mark -/

/-- Twister 3, which went LOST at 750,000. -/
def lostTwister : FeedEntry :=
  { sender := 3, path := 18500, ratio := 61440, timeout := 2000, reach := 17344, state := .lost, lastLocal := 750000
    prevStamp := none, expectedSerial := none, senderLot := 0, senderSpeed := 0, senderHold := 0, silenceSince := none }

/-- Station 7 in RUNNING at 752,110 mm with twister 3 LOST, forwarding on, and an ACTIVE port on an idle bus. -/
def stationOfLostTwister : State :=
  { State.reset with
    station := .running
    profile := { resetProfile with stationNumber := some 7, forwarding := true }
    length := { State.reset.length with runCount := 752110 }
    feeds := { State.reset.feeds with
      table := [lostTwister]
      losses := [{ low := 767344, high := none, cause := .feedLost, feed := some 0 }] }
    port := { State.reset.port with state := .active, busIdle := true } }

/-- What twister 3 tells of itself when it is heard again. -/
def twisterPosition : PositionPayload := { speed := 0, activeLot := 9, own := 0, observed := .running, builder := .off }

/-- The bits of its POSITION notice after the start bit. -/
def twisterPositionBits : List Bool :=
  (frameBits 3 .class3 { payload := .position twisterPosition, serial := 0, shift := 0, attempts := 0 } 5).tail

/-- The frame read from them. -/
def twisterPositionFrame : RxFrame :=
  { cls := 3, station := 3, kindCode := 4, serial := 0, stamp := 5, payload := payloadBytes (.position twisterPosition) }

theorem hearsFrame_twisterPosition :
    hearsFrame stationOfLostTwister false twisterPositionBits twisterPositionFrame := by
  refine ⟨.inl rfl, rfl, ?_, ?_, ?_⟩ <;> decide +kernel

/-- The notice finds the feed, whose interval closes; the LOSS mark of that stands in the own-origin FIFO. -/
theorem own_of_twisterPosition :
    (receiveFrame false twisterPositionBits stationOfLostTwister).port.own.length = 1 ∧
      (portAfterGood stationOfLostTwister twisterPositionBits).own.length = 0 := by decide +kernel

/-- Refutes O26: where forwarding is on, the POSITION notice that finds a LOST feed queues a LOSS mark, so the port is not
that of the frame alone. -/
theorem not_positionNoticeIsStored : ¬Obligations.PositionNoticeIsStored := by
  intro claim
  obtain ⟨t, received, port, -⟩ := claim false twisterPositionBits stationOfLostTwister twisterPositionFrame twisterPosition
    hearsFrame_twisterPosition (by decide +kernel)
  obtain rfl := Host.Outcome.next.inj received
  obtain ⟨queued, empty⟩ := own_of_twisterPosition
  have : (1 : Nat) = 0 := queued.symm.trans ((congrArg (fun p => p.own.length) port).trans empty)
  exact absurd this (by decide)

/-! ## Holds and releases (R147, R148) -/

/-- A notice of a station that is no feed's sender goes to the hold unit alone. -/
theorem takeFrame_stranger {f : RxFrame} {s : State} (stranger : feedOf s f.station = none) :
    takeFrame f s = holdUnitTakes f.station (readPayload f.kindCode f.payload) s := by
  have feeds : (holdUnitTakes f.station (readPayload f.kindCode f.payload) s).feeds = s.feeds :=
    (holdUnitTakes_frame _ _ s (bs := [.hold])) .feeds (by decide)
  have none : feedOf (holdUnitTakes f.station (readPayload f.kindCode f.payload) s) f.station = none := by
    rw [feedOf, feeds]
    exact stranger
  rw [takeFrame, feedUnitTakes, none]

theorem any_station_iff (holders : List Holder) (station : Nat) :
    (holders.any fun h => decide (h.station = station)) = true ↔ ∃ h ∈ holders, h.station = station := by simp

/-- A HOLD of reasons: its sender's entry is replaced. -/
theorem holderHolds_held {station : Nat} {reasons : HoldSet} {s : State} (given : reasons ≠ 0)
    (held : ∃ h ∈ s.hold.holders, h.station = station) : (holderHolds station reasons s).hold =
      { s.hold with holders := s.hold.holders.map fun h =>
          if h.station = station then { station := station, reasons := reasons } else h } := by
  rw [holderHolds, if_neg given, if_pos ((any_station_iff _ _).2 held), State.withHold_hold]
  have entry : (fun h : Holder => if h.station = station then { h with reasons := reasons } else h) =
      fun h => if h.station = station then { station := station, reasons := reasons } else h := by
    funext h
    split
    · next same => rw [← same]
    · rfl
  rw [entry]

/-- A HOLD of reasons from a new sender: it is appended, or not counted. -/
theorem holderHolds_new {station : Nat} {reasons : HoldSet} {s : State} (given : reasons ≠ 0)
    (new : ∀ h ∈ s.hold.holders, h.station ≠ station) : (holderHolds station reasons s).hold =
      if s.hold.holders.length < 16 then
        { s.hold with holders := s.hold.holders ++ [{ station := station, reasons := reasons }] }
      else { s.hold with uncounted := true } := by
  rw [holderHolds, if_neg given, if_neg fun held => ?_]
  · by_cases room : s.hold.holders.length < holderPlaces
    · rw [if_pos room]
      exact (if_pos room).symm
    · rw [if_neg room]
      exact (if_neg room).symm
  · obtain ⟨h, holds, same⟩ := (any_station_iff _ _).1 held
    exact new h holds same

/-- Settles O45: the notice of a station that is no feed is one change of the holder list. -/
theorem holdNoticesKeepTheHolderList : Obligations.HoldNoticesKeepTheHolderList := by
  intro early bits s f hears stranger
  have heard := exec_frameReceived_heard hears
  rw [takeFrame_stranger (s := s.withPort (portAfterGood s bits)) stranger] at heard
  generalize portAfterGood s bits = v at heard ⊢
  have frame (payload : Payload) : SameOutside [.hold, .port] s (holdUnitTakes f.station payload (s.withPort v)) :=
    (withPort s v).trans (holdUnitTakes_frame _ _ _)
  refine ⟨fun reasons payload given => ?_, fun payload => ?_⟩
  · rw [payload] at heard
    exact ⟨_, heard, (holdUnitTakes_frame _ _ (s.withPort v) (bs := [.hold])) .port (by decide), frame _,
      fun held => holderHolds_held (s := s.withPort v) given held,
      fun new room => (holderHolds_new (s := s.withPort v) given new).trans (if_pos room),
      fun new full => (holderHolds_new (s := s.withPort v) given new).trans (if_neg (Nat.not_lt.2 full))⟩
  · have released : holdUnitTakes f.station (readPayload f.kindCode f.payload) (s.withPort v) =
        holderReleases f.station (s.withPort v) := by
      obtain release | empty := payload
      · rw [release]; rfl
      · rw [empty]; rfl
    rw [released] at heard
    exact ⟨_, heard, rfl, rfl, released ▸ frame _⟩

/-! ## Frames that are not taken (R161, R162, R164) -/

/-- A rise of the score in ACTIVE, below the bound of 192 and at it. -/
theorem raiseScore_active {n : Nat} {s : State} (active : s.port.state = .active) : raiseScore n s =
    if 192 ≤ min (s.port.score + n) 255 then
      latch .busMuted (s.withPort { s.port with score := min (s.port.score + n) 255, state := .muted, idleGaps := 0 })
    else s.withPort { s.port with score := min (s.port.score + n) 255 } := by
  rw [raiseScore, if_pos active, muteTest]
  by_cases mute : 192 ≤ min (s.port.score + n) 255
  · rw [if_pos mute]
    exact if_pos ⟨active, mute⟩
  · rw [if_neg mute]
    exact if_neg fun h => mute h.2

theorem raiseScore_muted {n : Nat} {s : State} (muted : s.port.state = .muted) : raiseScore n s = s :=
  if_neg (by rw [muted]; exact nofun)

/-- A bad frame, by the rise of the score that it gives. -/
theorem judgeReceived_bad {early : Bool} {bits : List Bool} {u : State} {rise : Nat}
    (bad : (rise = 1 ∧ (judgeFrame early bits = .framingError ∨ judgeFrame early bits = .checkFailure)) ∨
      (rise = 8 ∧ ∃ f, judgeFrame early bits = .good f ∧ isFit f = true ∧ f.station = u.stationNumber)) :
    judgeReceived early bits u = raiseScore rise (u.withPort { u.port with
      ownNumber := if rise = 8 then min (u.port.ownNumber + 1) 65535 else u.port.ownNumber }) := by
  obtain ⟨rfl, judged | judged⟩ | ⟨rfl, f, judged, fit, own⟩ := bad
  · rw [judgeReceived, judged]; rfl
  · rw [judgeReceived, judged]; rfl
  · rw [judgeReceived, judged]
    dsimp only
    rw [if_neg (by simp [fit]), if_pos own]
    rfl

/-- Settles O49, by the judgement of the frame and the state of the port. -/
theorem badFramesMoveTheScore : Obligations.BadFramesMoveTheScore := by
  intro early bits s rise
  refine ⟨fun deaf => exec_frameReceived_deaf early bits ?_, fun free state judged bad => ?_, fun f free state good unfit => ?_⟩
  · refine Bool.eq_false_iff.2 fun takes => ?_
    obtain ⟨state, -⟩ := (takesFrames_iff _).1 takes
    obtain h | h := deaf <;> simp [h] at state
  · have received := exec_frameReceived_judged bits state free judged
    rw [judgeReceived_bad (u := s.withPort (portAfterFrame s bits)) bad] at received
    have rises : 0 < rise ∧ rise ≤ 8 := by obtain ⟨h, -⟩ | ⟨h, -⟩ := bad <;> omega
    have ended : ∃ v, (s.withPort (portAfterFrame s bits)).withPort { portAfterFrame s bits with
          ownNumber := if rise = 8 then min (s.port.ownNumber + 1) 65535 else s.port.ownNumber } = s.withPort v ∧
        v.ownNumber = (if rise = 8 then min (s.port.ownNumber + 1) 65535 else s.port.ownNumber) ∧
        v.busIdle = idleAfterFrame s.port.busIdle (wholeFrame bits) ∧ v.unfit = s.port.unfit ∧
        (∀ slot, fifoOf v slot = fifoOf s.port slot) ∧ v.state = s.port.state ∧ v.score = s.port.score :=
      ⟨_, rfl, rfl, rfl, rfl, fun slot => by cases slot <;> rfl, rfl, rfl⟩
    obtain ⟨v, port, ownNumber, busIdle, unfit, queues, portState, portScore⟩ := ended
    have received := received.trans (congrArg (fun u => Host.Outcome.next (raiseScore rise u)) port)
    obtain active | muted := state
    · have raised := raiseScore_active (n := rise) (s := s.withPort v) (portState.trans active)
      rw [State.withPort_port, portScore] at raised
      by_cases mute : 192 ≤ min (s.port.score + rise) 255
      · rw [raised, if_pos mute] at received
        refine ⟨_, received, ownNumber, busIdle, unfit, fun slot => ?_, fun other => absurd (active.symm.trans other) nofun,
          fun _ => ⟨rfl, fun below => ?_, fun _ => ⟨rfl, rfl, rfl, (withPort s _).trans (latch_frame _ _)⟩⟩⟩
        · exact Eq.trans (by cases slot <;> rfl) (queues slot)
        · omega
      · rw [raised, if_neg mute] at received
        refine ⟨_, received, ownNumber, busIdle, unfit, fun slot => ?_, fun other => absurd (active.symm.trans other) nofun,
          fun _ => ⟨rfl, fun _ => ⟨portState.trans active, withPort s _⟩, fun above => ?_⟩⟩
        · exact Eq.trans (by cases slot <;> rfl) (queues slot)
        · omega
    · rw [raiseScore_muted (s := s.withPort v) (portState.trans muted)] at received
      exact ⟨_, received, ownNumber, busIdle, unfit, queues, fun _ => ⟨portScore, portState.trans muted, withPort s v⟩,
        fun other => absurd (muted.symm.trans other) nofun⟩
  · have received := exec_frameReceived_judged bits state free (not_wasUnderWay_of_good good)
    have judged : judgeReceived early bits (s.withPort (portAfterFrame s bits)) =
        s.withPort { portAfterGood s bits with unfit := min (s.port.unfit + 1) 65535 } := by
      rw [judgeReceived, good]
      dsimp only
      rw [if_pos unfit]
      unfold lowerScore portAfterGood
      have same : (changePort (fun p => { p with unfit := tally p.unfit })
        (s.withPort (portAfterFrame s bits))).port.state = s.port.state := rfl
      rw [same]
      by_cases active : s.port.state = .active
      · rw [if_pos active, if_pos active]; rfl
      · rw [if_neg active, if_neg active]; rfl
    rw [judged] at received
    exact ⟨_, received, rfl, withPort s _⟩

end Sys2Proof.Machine
end

section
/-! PROOFS. Gaps, starts and ends of frames on the line bus (10.1, 10.2, 10.5): O46 and O47. -/

namespace Sys2Proof.Machine

-- One theorem after another: side by side they need more threads than the memory of the check allows.
set_option Elab.async false

open SameOutside

/-! ## Idle gaps (R154, R164) -/

theorem idleGap_silent {s : State} (silent : s.port.state = .silent) : idleGap s = s := by rw [idleGap, silent]

theorem idleGap_listen {s : State} (listen : s.port.state = .listen) :
    idleGap s = s.withPort { s.port with state := .active, busIdle := true } := by rw [idleGap, listen]; rfl

theorem idleGap_active {s : State} (active : s.port.state = .active) :
    idleGap s = s.withPort { s.port with busIdle := true } := by rw [idleGap, active]; rfl

theorem idleGap_muted {s : State} (muted : s.port.state = .muted) : idleGap s =
    if s.port.idleGaps + 1 < 64 then s.withPort { s.port with idleGaps := s.port.idleGaps + 1, busIdle := true }
    else latch .busActive (s.withPort { s.port with state := .active, score := 0, idleGaps := 0, busIdle := true }) := by
  rw [idleGap, muted]; rfl

/-! ## Starts (R155, R157, R160) -/

/-- A place and the notice at its head, by the rule of the classes and the turn (R160). -/
def suppliesNext (p : BusPort) (slot : Slot) (q : Queued) : Prop :=
  (slot = .class0 ∧ p.class0 = some q) ∨
  (slot = .class1 ∧ p.class0 = none ∧ p.class1.head? = some q) ∨
  (slot = .own ∧ p.class0 = none ∧ p.class1 = [] ∧ p.own.head? = some q ∧ (p.ownTurn = true ∨ p.forwarded = [])) ∨
  (slot = .forwarded ∧ p.class0 = none ∧ p.class1 = [] ∧ p.forwarded.head? = some q ∧ (p.ownTurn = false ∨ p.own = [])) ∨
  (slot = .class3 ∧ p.class0 = none ∧ p.class1 = [] ∧ p.own = [] ∧ p.forwarded = [] ∧ p.class3 = some q)

theorem ne_nil_of_head?_eq_some {α : Type} {l : List α} {a : α} (head : l.head? = some a) : l ≠ [] := by
  rintro rfl
  cases head

theorem chooseClass2_own {p : BusPort} (some_own : p.own ≠ []) (turn : p.ownTurn = true ∨ p.forwarded = []) :
    chooseClass2 p = some .own := by
  obtain turn | empty := turn
  · rw [chooseClass2, if_pos turn, if_pos some_own]
  · simp [chooseClass2, some_own, empty]

theorem chooseClass2_forwarded {p : BusPort} (some_forwarded : p.forwarded ≠ []) (turn : p.ownTurn = false ∨ p.own = []) :
    chooseClass2 p = some .forwarded := by
  obtain turn | empty := turn
  · rw [chooseClass2, if_neg (Bool.eq_false_iff.1 turn), if_pos some_forwarded]
  · simp [chooseClass2, some_forwarded, empty]

theorem chooseClass2_empty {p : BusPort} (own : p.own = []) (forwarded : p.forwarded = []) : chooseClass2 p = none := by
  simp [chooseClass2, own, forwarded]

theorem chooseSlot_behind {p : BusPort} (class0 : p.class0 = none) (class1 : p.class1 = []) :
    chooseSlot p = (chooseClass2 p <|> if p.class3.isSome then some .class3 else none) := by
  rw [chooseSlot, class0, if_neg nofun, if_neg (not_not.2 class1)]

theorem chosen_of_suppliesNext {p : BusPort} {slot : Slot} {q : Queued} (supplies : suppliesNext p slot q) :
    chosen p = some (slot, q) := by
  obtain ⟨rfl, class0⟩ | ⟨rfl, class0, head⟩ | ⟨rfl, class0, class1, head, turn⟩ | ⟨rfl, class0, class1, head, turn⟩ |
    ⟨rfl, class0, class1, own, forwarded, class3⟩ := supplies
  · simp [chosen, chooseSlot, class0, fifoOf]
  · have choice : chooseSlot p = some .class1 := by
      rw [chooseSlot, class0, if_neg nofun, if_pos (ne_nil_of_head?_eq_some head)]
    simp [chosen, choice, fifoOf, head]
  · have choice : chooseSlot p = some .own := by
      rw [chooseSlot_behind class0 class1, chooseClass2_own (ne_nil_of_head?_eq_some head) turn]
      rfl
    simp [chosen, choice, fifoOf, head]
  · have choice : chooseSlot p = some .forwarded := by
      rw [chooseSlot_behind class0 class1, chooseClass2_forwarded (ne_nil_of_head?_eq_some head) turn]
      rfl
    simp [chosen, choice, fifoOf, head]
  · have choice : chooseSlot p = some .class3 := by
      rw [chooseSlot_behind class0 class1, chooseClass2_empty own forwarded, class3]
      rfl
    simp [chosen, choice, fifoOf, class3]

theorem chosen_empty {p : BusPort} (class0 : p.class0 = none) (class1 : p.class1 = []) (own : p.own = [])
    (forwarded : p.forwarded = []) (class3 : p.class3 = none) : chosen p = none := by
  rw [chosen, chooseSlot_behind class0 class1, chooseClass2_empty own forwarded, class3]
  rfl

theorem mayStart_iff (p : BusPort) :
    mayStart p = true ↔ p.state = .active ∧ p.sending = none ∧ p.busIdle = true := by
  simp [mayStart, and_assoc]

theorem startFrame_chosen {s : State} {slot : Slot} {q : Queued} (may : mayStart s.port = true)
    (choice : chosen s.port = some (slot, q)) : startFrame s = s.withPort { s.port with
      busIdle := false, noFrameYet := false
      sending := some
        { slot := slot, superseded := false
          bits := frameBits s.stationNumber slot q (min (s.length.runCount + q.shift) maxCount) } } := by
  rw [startFrame, if_pos may, choice]
  rfl

theorem startFrame_none {s : State} (none : mayStart s.port = false ∨ chosen s.port = none) : startFrame s = s := by
  obtain may | choice := none
  · exact if_neg (Bool.eq_false_iff.1 may)
  · rw [startFrame, choice]
    exact ite_self s

/-! ## The recessive end of a frame (R154) -/

theorem recessiveEnd_append (before : List Bool) (n : Nat) :
    recessiveEnd (before ++ false :: List.replicate n true) = n := by
  simp [recessiveEnd, List.takeWhile_append_of_pos]

theorem idleAfterFrame_append (gap : Bool) (before : List Bool) (n : Nat) :
    idleAfterFrame gap (before ++ false :: List.replicate n true) = (gap && decide (11 ≤ n)) := by
  rw [idleAfterFrame, recessiveEnd_append]
  rfl

theorem wholeFrame_complete {bits : List Bool} (complete : contentLength bits + 23 ≤ bits.length) : wholeFrame bits = bits := by
  rw [wholeFrame, Nat.sub_eq_zero_of_le complete, List.replicate_zero, List.append_nil]

/-! ### What keeps the bus as it is -/

theorem lowerScore_port (s : State) : (lowerScore s).port =
    { s.port with score := if s.port.state = .active then s.port.score - 1 else s.port.score } := by
  unfold lowerScore
  split
  · rfl
  · rfl

theorem raiseScore_busIdle (n : Nat) (s : State) : (raiseScore n s).port.busIdle = s.port.busIdle := by
  unfold raiseScore muteTest
  split
  · split <;> rfl
  · rfl

theorem Evolves.busIdle {s t : State} (e : Evolves .growing s t) : t.port.busIdle = s.port.busIdle := by
  have offers : OnlyOffers s.port t.port := (e False nofun).port_offers rfl
  rw [offers]

theorem takeFrame_busIdle (f : RxFrame) (s : State) : (takeFrame f s).port.busIdle = s.port.busIdle :=
  (feedUnitTakes_evolves f _ _).busIdle.trans
    (congrArg BusPort.busIdle ((holdUnitTakes_frame f.station _ s (bs := [.hold])) .port (by decide)))

theorem judgeReceived_busIdle (early : Bool) (bits : List Bool) (s : State) :
    (judgeReceived early bits s).port.busIdle = s.port.busIdle := by
  unfold judgeReceived
  split
  · exact raiseScore_busIdle _ _
  · exact raiseScore_busIdle _ _
  · split
    · rw [lowerScore_port]; rfl
    · split
      · exact raiseScore_busIdle _ _
      · rw [takeFrame_busIdle, lowerScore_port]

theorem frameSent_busIdle {s : State} {frame : InFlight} (sending : s.port.sending = some frame) :
    (frameSent s).port.busIdle = idleAfterFrame s.port.busIdle frame.bits := by
  rw [frameSent, sending]
  exact congrArg BusPort.busIdle (lowerScore_port _)

/-- Settles O46: an idle gap by the state of the port, a start by the class that supplies its notice, and the end of a frame
by its recessive bits. -/
theorem framesStartAfterAnIdleGap : Obligations.FramesStartAfterAnIdleGap := by
  refine ⟨fun s => ⟨_, rfl, fun silent => ?_, fun listen => ?_, fun active => ?_, fun muted more => ?_, fun muted last => ?_⟩,
    fun s slot q => ⟨fun active free idle supplies => ?_, fun none => ?_⟩, fun s before n => ⟨fun frame sending bits => ?_,
    fun early bits free state isEnd complete => ?_⟩, fun early bits s free state underWay => ?_⟩
  · exact (idleGap_silent silent).symm ▸ SameOutside.refl _ s
  · rw [idleGap_listen listen]
    exact ⟨rfl, withPort s _⟩
  · rw [idleGap_active active]
    exact ⟨rfl, withPort s _⟩
  · rw [idleGap_muted muted, if_pos (by omega)]
    exact ⟨rfl, withPort s _⟩
  · rw [idleGap_muted muted, if_neg (by omega)]
    exact ⟨rfl, rfl, (withPort s _).trans (latch_frame _ _)⟩
  · have started := startFrame_chosen ((mayStart_iff _).2 ⟨active, free, idle⟩) (chosen_of_suppliesNext supplies)
    exact ⟨_, congrArg Host.Outcome.next started, rfl, withPort s _⟩
  · refine congrArg Host.Outcome.next (startFrame_none ?_)
    by_cases may : mayStart s.port = true
    · obtain ⟨active, free, idle⟩ := (mayStart_iff _).1 may
      obtain other | sends | busy | ⟨class0, class1, own, forwarded, class3⟩ := none
      · exact absurd active other
      · exact absurd free sends
      · exact absurd (idle.symm.trans busy) nofun
      · exact .inr (chosen_empty class0 class1 own forwarded class3)
    · exact .inl (Bool.eq_false_iff.2 may)
  · exact ⟨_, rfl, (frameSent_busIdle sending).trans (by rw [bits, idleAfterFrame_append])⟩
  · have ended : (portAfterFrame s bits).busIdle = (s.port.busIdle && decide (11 ≤ n)) := by
      rw [portAfterFrame, wholeFrame_complete complete, isEnd, idleAfterFrame_append]
    by_cases underWay : wasUnderWay s early
    · exact ⟨_, exec_frameReceived_underWay bits state free underWay, ended⟩
    · exact ⟨_, exec_frameReceived_judged bits state free underWay, (judgeReceived_busIdle _ _ _).trans ended⟩
  · exact ⟨_, exec_frameReceived_underWay bits state free underWay, rfl, withPort s _⟩

/-! ## The ends of a frame being sent (R155, R156) -/

theorem loseArbitration_sending {s : State} {frame : InFlight} (sending : s.port.sending = some frame) :
    loseArbitration s = s.withPort { s.port with sending := none, busIdle := false } := by
  rw [loseArbitration, sending]
  rfl

theorem fifoOf_tail_length (p : BusPort) (slot : Slot) : slot = .class0 ∨ slot = .class3 → (fifoOf p slot).tail = [] := by
  rintro (rfl | rfl)
  · cases h : p.class0 <;> simp [fifoOf, h]
  · cases h : p.class3 <;> simp [fifoOf, h]

/-- The queue of a place after it has been replaced by no more than the place holds. -/
theorem fifoOf_withFifo_same {p : BusPort} {slot : Slot} {l : List Queued}
    (fits : slot = .class0 ∨ slot = .class3 → l.length ≤ 1) : fifoOf (withFifo p slot l) slot = l := by
  have single (short : l.length ≤ 1) : l.head?.toList = l := by
    match l with
    | [] | [_] => rfl
    | _ :: _ :: _ => exact absurd short (by simp)
  cases slot
  case class0 => exact single (fits (.inl rfl))
  case class3 => exact single (fits (.inr rfl))
  all_goals rfl

theorem fifoOf_removeNotice (p : BusPort) (slot other : Slot) :
    fifoOf (removeNotice slot p) other = if other = slot then (fifoOf p slot).tail else fifoOf p other := by
  have queues : fifoOf (removeNotice slot p) other = fifoOf (withFifo p slot (fifoOf p slot).tail) other := by
    cases other <;> rfl
  rw [queues]
  split
  · next same =>
    subst same
    exact fifoOf_withFifo_same fun one => by rw [fifoOf_tail_length p other one]; exact Nat.zero_le _
  · next differs => exact fifoOf_withFifo_other p slot other _ differs

theorem turnAfter_eq (slot : Slot) (turn : Bool) :
    turnAfter slot turn = if slot = .own then false else if slot = .forwarded then true else turn := by
  cases slot <;> rfl

/-- What replacing a queue leaves: every field that is no queue. -/
theorem withFifo_frame (p : BusPort) (slot : Slot) (l : List Queued) : (withFifo p slot l).state = p.state ∧
    (withFifo p slot l).score = p.score ∧ (withFifo p slot l).ownTurn = p.ownTurn ∧
    (withFifo p slot l).serialCounter = p.serialCounter ∧ (withFifo p slot l).dropped = p.dropped ∧
    (withFifo p slot l).sending = p.sending := by
  cases slot <;> exact ⟨rfl, rfl, rfl, rfl, rfl, rfl⟩

theorem frameSent_active {s : State} {frame : InFlight} (active : s.port.state = .active)
    (sending : s.port.sending = some frame) : (frameSent s).port =
      { (if frame.superseded then s.port else removeNotice frame.slot s.port) with
        sending := none, busIdle := idleAfterFrame s.port.busIdle frame.bits, score := s.port.score - 1 } := by
  have state : (if frame.superseded then s.port else removeNotice frame.slot s.port).state = .active := by
    split
    · exact active
    · exact (withFifo_frame _ _ _).1.trans active
  have score : (if frame.superseded then s.port else removeNotice frame.slot s.port).score = s.port.score := by
    split
    · rfl
    · exact (withFifo_frame _ _ _).2.1
  rw [frameSent, sending]
  dsimp only [changePort]
  rw [lowerScore_port, State.withPort_port, if_pos state, score]

/-- One more failed attempt for the notice at the head, which the third takes off (R156). -/
theorem failAttempt_head {slot : Slot} {s : State} {n : Queued} {rest : List Queued}
    (queue : fifoOf s.port slot = n :: rest) : failAttempt slot s =
      if 3 ≤ n.attempts + 1 then dropNotice (s.withPort (removeNotice slot s.port))
      else s.withPort (withFifo s.port slot ({ n with attempts := n.attempts + 1 } :: rest)) := by
  have charged : chargeAttempt (fifoOf s.port slot) = { n with attempts := n.attempts + 1 } :: rest := by rw [queue]; rfl
  unfold failAttempt
  simp only [changePort, State.withPort_port, fifoOf_charged_head, removeNotice_charged]
  rw [charged]
  rfl

theorem removeNotice_fields (slot : Slot) (p : BusPort) : (removeNotice slot p).state = p.state ∧
    (removeNotice slot p).score = p.score ∧ (removeNotice slot p).serialCounter = p.serialCounter ∧
    (removeNotice slot p).dropped = p.dropped ∧ (removeNotice slot p).sending = p.sending := by
  obtain ⟨state, score, -, serial, dropped, sending⟩ := withFifo_frame p slot (fifoOf p slot).tail
  exact ⟨state, score, serial, dropped, sending⟩

/-- What a failed attempt leaves of the port, and what it takes where it is the third. -/
theorem failAttempt_port {slot : Slot} {s : State} {n : Queued} {rest : List Queued} (queue : fifoOf s.port slot = n :: rest) :
    (failAttempt slot s).port.state = s.port.state ∧ (failAttempt slot s).port.score = s.port.score ∧
      (failAttempt slot s).port.sending = s.port.sending ∧ (failAttempt slot s).port.serialCounter = s.port.serialCounter ∧
      (∀ other, other ≠ slot → fifoOf (failAttempt slot s).port other = fifoOf s.port other) ∧
      (n.attempts + 1 < 3 → fifoOf (failAttempt slot s).port slot = { n with attempts := n.attempts + 1 } :: rest ∧
        (failAttempt slot s).port.ownTurn = s.port.ownTurn ∧ (failAttempt slot s).port.dropped = s.port.dropped) ∧
      (3 ≤ n.attempts + 1 → fifoOf (failAttempt slot s).port slot = rest ∧
        (failAttempt slot s).port.ownTurn =
          (if slot = .own then false else if slot = .forwarded then true else s.port.ownTurn) ∧
        (failAttempt slot s).port.dropped = min (s.port.dropped + 1) 65535 ∧
        hasCondition .noticeDropped (failAttempt slot s).link.latched = true) := by
  rw [failAttempt_head queue]
  split
  · next third =>
    obtain ⟨state, score, serial, dropped, sending⟩ := removeNotice_fields slot s.port
    refine ⟨state, score, sending, serial, fun other differs => ?_, fun short => absurd third (Nat.not_le.2 short), fun _ =>
      ⟨?_, turnAfter_eq _ _, congrArg tally dropped, latch_latches _ _⟩⟩
    · rw [fifoOf_dropNotice, State.withPort_port, fifoOf_removeNotice, if_neg differs]
    · rw [fifoOf_dropNotice, State.withPort_port, fifoOf_removeNotice, if_pos rfl, queue]
      rfl
  · next again =>
    obtain ⟨state, score, turn, serial, dropped, sending⟩ :=
      withFifo_frame s.port slot ({ n with attempts := n.attempts + 1 } :: rest)
    refine ⟨state, score, sending, serial, fun other differs => fifoOf_withFifo_other _ _ _ _ differs, fun _ =>
      ⟨fifoOf_withFifo_same fun one => ?_, turn, dropped⟩, fun third => absurd third again⟩
    have tail := fifoOf_tail_length s.port slot one
    rw [queue] at tail
    rw [show rest = [] from tail]
    exact le_rfl

/-- A rise of the score takes back nothing that has been latched. -/
theorem raiseScore_latched (n : Nat) (s : State) : LatchedStays s.link.latched (raiseScore n s).link.latched :=
  ((raiseScore_evolves (counts := true) (clears := false) (stops := true) n s) False nofun).latchedStays rfl

theorem bitError_eq {s : State} {frame : InFlight} (sending : s.port.sending = some frame) : bitError s =
    raiseScore 8 (if frame.superseded then s.withPort (stopSending s.port)
      else failAttempt frame.slot (s.withPort (stopSending s.port))) := by
  rw [bitError, sending]
  rfl

theorem fifoOf_stopSending (p : BusPort) (slot : Slot) : fifoOf (stopSending p) slot = fifoOf p slot := by cases slot <;> rfl

/-- What a rise of the score in ACTIVE leaves of the port. -/
theorem raiseScore_port {n : Nat} {s : State} (active : s.port.state = .active) :
    (raiseScore n s).port.score = min (s.port.score + n) 255 ∧ (∀ slot, fifoOf (raiseScore n s).port slot = fifoOf s.port slot) ∧
      (raiseScore n s).port.sending = s.port.sending ∧ (raiseScore n s).port.ownTurn = s.port.ownTurn ∧
      (raiseScore n s).port.serialCounter = s.port.serialCounter ∧ (raiseScore n s).port.dropped = s.port.dropped ∧
      (192 ≤ min (s.port.score + n) 255 → (raiseScore n s).port.state = .muted ∧ (raiseScore n s).port.idleGaps = 0 ∧
        hasCondition .busMuted (raiseScore n s).link.latched = true) ∧
      (min (s.port.score + n) 255 < 192 → (raiseScore n s).port.state = .active) := by
  rw [raiseScore_active active]
  split
  · next mute =>
    exact ⟨rfl, fun slot => by cases slot <;> rfl, rfl, rfl, rfl, rfl, fun _ => ⟨rfl, rfl, latch_latches _ _⟩,
      fun below => absurd mute (Nat.not_le.2 below)⟩
  · next mute =>
    exact ⟨rfl, fun slot => by cases slot <;> rfl, rfl, rfl, rfl, rfl, fun above => absurd above mute, fun _ => active⟩

/-- Settles O47: each end of the frame is one change of the port, and the score follows. -/
theorem frameEndsSettleTheNotice : Obligations.FrameEndsSettleTheNotice := by
  intro s frame n rest active sending
  refine ⟨⟨_, congrArg Host.Outcome.next (loseArbitration_sending sending), rfl, withPort s _⟩, fun stands queue =>
    ⟨⟨_, rfl, ?_⟩, ⟨_, rfl, ?_⟩⟩, fun superseded => ⟨⟨_, rfl, ?_⟩, ⟨_, rfl, ?_⟩⟩⟩
  · have port := frameSent_active active sending
    rw [stands, if_neg nofun] at port
    obtain ⟨state, -, serial, dropped, -⟩ := removeNotice_fields frame.slot s.port
    have queues (slot : Slot) : fifoOf (frameSent s).port slot = fifoOf (removeNotice frame.slot s.port) slot := by
      rw [port]
      cases slot <;> rfl
    refine ⟨by rw [port], by rw [port], by rw [port]; exact state.trans active, ?_, fun slot other => ?_, ?_,
      by rw [port]; exact serial, by rw [port]; exact dropped, frameSent_frame s⟩
    · rw [queues, fifoOf_removeNotice, if_pos rfl, queue]
      rfl
    · rw [queues, fifoOf_removeNotice, if_neg other]
    · rw [port]
      exact turnAfter_eq _ _
  · have stopped : fifoOf (stopSending s.port) frame.slot = n :: rest := (fifoOf_stopSending _ _).trans queue
    have error := bitError_eq sending
    rw [stands, if_neg nofun] at error
    obtain ⟨state, score, sends, counter, others, again, third⟩ :=
      failAttempt_port (s := s.withPort (stopSending s.port)) stopped
    generalize failAttempt frame.slot (s.withPort (stopSending s.port)) = u at *
    obtain ⟨risen, queues, free, turn, serial, drops, mutes, stays⟩ := raiseScore_port (n := 8) (state.trans active)
    have latched := raiseScore_latched 8 u
    rw [← error] at risen queues free turn serial drops mutes stays latched
    rw [show u.port.score = s.port.score from score] at risen mutes stays
    refine ⟨free.trans sends, risen, fun above => mutes (by omega), fun below => stays (by omega), fun short => ?_,
      fun enough => ?_, fun slot other => ?_, serial.trans counter, bitError_frame s⟩
    · obtain ⟨queue, turned, dropped⟩ := again short
      exact ⟨(queues _).trans queue, turn.trans turned, drops.trans dropped⟩
    · obtain ⟨queue, turned, dropped, told⟩ := third enough
      exact ⟨(queues _).trans queue, turn.trans turned, drops.trans dropped, latched _ told⟩
    · exact (queues slot).trans ((others slot other).trans (fifoOf_stopSending _ _))
  · have port := frameSent_active active sending
    rw [superseded, if_pos rfl] at port
    exact ⟨port, frameSent_frame s⟩
  · have error := bitError_eq sending
    rw [superseded, if_pos rfl] at error
    obtain ⟨score, queues, sends, -, -, dropped, -⟩ := raiseScore_port (n := 8) (s := s.withPort (stopSending s.port)) active
    rw [← error] at score queues sends dropped
    exact ⟨sends, score, fun slot => (queues slot).trans (fifoOf_stopSending _ _), dropped, bitError_frame s⟩

end Sys2Proof.Machine
end

section
/-! PROOFS. MARK PLACE (3.7): a mark of the host's that fires, waits, evicts another, or is refused (O21, O22). -/

namespace Sys2Proof.Machine

-- One theorem after another: side by side they need more threads than the memory of the check allows.
set_option Elab.async false

open SameOutside

/-! ## Marks that change no lot -/

theorem mergeOut_of_not_lotChange {m : Mark} (s : State) (kind : m.kind ≠ .lotChange) : mergeOut m s = s := by
  rw [mergeOut, mergedOut_eq_none_of_ordinary s kind]

theorem offerMerge_of_not_lotChange {m : Mark} (s t : State) (kind : m.kind ≠ .lotChange) : offerMerge m s t = t := by
  rw [offerMerge, mergedOut_eq_none_of_ordinary s kind]
  rfl

/-- A mark of a new identity that lies ahead, and is no LOT_CHANGE, is placed by the capacity rules (R40 to R42). -/
theorem placementOf_ahead {m : Mark} {s : State} (fresh : ∀ w ∈ s.marks.marks, w.origin ≠ m.origin)
    (kind : m.kind ≠ .lotChange) (ahead : s.length.runCount < m.position) : placementOf m s = capacity m s.marks.marks := by
  have new : ¬isDuplicate m s = true := fun h => by
    obtain ⟨w, hw, e⟩ := (isDuplicate_iff m s).1 h
    exact fresh w hw e
  have alone : sameLotWaiting m s = none := if_neg kind
  rw [placementOf, if_neg new, alone, if_neg (by simp), if_neg (Nat.not_le.2 ahead), waitingAfterMerge,
    mergedOut_eq_none_of_ordinary s kind]

theorem capacity_ordinary {m : Mark} {waiting : List Mark} (ordinary : m.kind.isBoundary = false) : capacity m waiting =
    if ordinaryWaiting waiting < 88 ∧ waiting.length < 96 then .stored else .refused := by
  rw [capacity, ordinary]; rfl

theorem capacity_boundary {m : Mark} {waiting : List Mark} (boundary : m.kind.isBoundary = true) : capacity m waiting =
    if waiting.length < 96 then .stored else if 0 < ordinaryWaiting waiting then .evicts else .refused := by
  rw [capacity, boundary]; rfl

theorem fireMark_ordinary {m : Mark} (s : State) (kind : m.kind ≠ .lotChange) : fireMark m s = fireOrdinary m s := by
  unfold fireMark
  split
  · next lot => exact absurd lot kind
  · rfl

theorem placeMark_fires {m : Mark} {s : State} (kind : m.kind ≠ .lotChange) (placement : placementOf m s = .fires) :
    placeMark m s = fireOrdinary m s := by
  rw [placeMark, placement]
  dsimp only
  rw [mergeOut_of_not_lotChange s kind, offerMerge_of_not_lotChange _ _ kind, fireMark_ordinary s kind]

theorem placeMark_stored {m : Mark} {s : State} (kind : m.kind ≠ .lotChange) (placement : placementOf m s = .stored) :
    placeMark m s = storeMark m s := by
  rw [placeMark, placement]
  dsimp only
  rw [mergeOut_of_not_lotChange s kind]

theorem placeMark_evicts {m : Mark} {s : State} (kind : m.kind ≠ .lotChange) (placement : placementOf m s = .evicts) :
    placeMark m s = storeMark m (evict s) := by
  rw [placeMark, placement]
  dsimp only
  rw [mergeOut_of_not_lotChange s kind]

/-! ## The mark that MARK PLACE raises (R31, R32, R47) -/

/-- A mark of the host's as it comes to the mark list. -/
def hostMark (kind : MarkKind) (offset detail : Nat) (s : State) : Mark :=
  { position := s.length.runCount + offset, kind := kind, span := 0, lotTag := s.lots.activeTag
    origin := { station := s.stationNumber, serial := s.marks.nextSerial }, detail := BitVec.ofNat 16 detail, hops := 0
    source := .here, flags := noFlags }

theorem completeMark_hostRaising (kind : MarkKind) {offset : Nat} (detail : Nat) {s : State}
    (below : s.length.runCount + offset ≤ maxCount) :
    completeMark (hostRaising kind offset detail s) s = hostMark kind offset detail s := by
  have position : (hostRaising kind offset detail s).position = s.length.runCount + offset := min_eq_left below
  have clamped : (hostRaising kind offset detail s).clamped = false := decide_eq_false (Nat.not_lt.2 below)
  rw [completeMark_eq, lookBack_near _ _ (by rw [position]; omega), position, clamped]
  rfl

theorem hostMarkKind_eq_none {kind : Nat} (operator : kind ≠ 4) (cutRequest : kind ≠ 7) : hostMarkKind kind = none := by
  unfold hostMarkKind markKindOf
  split <;> grind

theorem placeKind_operator_eq (offset detail : Nat) :
    placeKind 4 offset detail = if offset ≤ 10000000 then some .operator else none := by
  by_cases near : offset ≤ 10000000 <;> simp [placeKind, show hostMarkKind 4 = some .operator from rfl,
    show horizon = 10000000 from rfl, Option.filter, near]

theorem placeKind_cutRequest_eq (offset detail : Nat) :
    placeKind 7 offset detail = if offset ≤ 10000000 ∧ detail = 0 then some .cutRequest else none := by
  by_cases near : offset ≤ 10000000 <;> simp [placeKind, show hostMarkKind 7 = some .cutRequest from rfl,
    show horizon = 10000000 from rfl, Option.filter, near]

theorem placeKind_eq_none {kind offset detail : Nat}
    (out : (kind ≠ 4 ∧ kind ≠ 7) ∨ 10000000 < offset ∨ (kind = 7 ∧ detail ≠ 0)) : placeKind kind offset detail = none := by
  by_cases operator : kind = 4
  · subst operator
    rw [placeKind_operator_eq, if_neg (by omega)]
  · by_cases cutRequest : kind = 7
    · subst cutRequest
      rw [placeKind_cutRequest_eq, if_neg (by omega)]
    · rw [placeKind, hostMarkKind_eq_none operator cutRequest]
      rfl

theorem placeKind_operator {offset : Nat} (detail : Nat) (near : offset ≤ 10000000) : placeKind 4 offset detail = some .operator :=
  (placeKind_operator_eq offset detail).trans (if_pos near)

theorem placeKind_cutRequest {offset : Nat} (near : offset ≤ 10000000) : placeKind 7 offset 0 = some .cutRequest :=
  (placeKind_cutRequest_eq offset 0).trans (if_pos ⟨near, rfl⟩)

theorem exec_markPlace_refused {kind offset detail : Nat} {s : State} {code : ResultCode} (fill : Nat)
    (check : placeCheck kind offset detail s = .error code) :
    exec (.markPlace kind offset detail fill) s = .next (finishFrame (10 + fill) (bare code) s) := by
  change execMarkPlace kind offset detail fill s = _
  rw [execMarkPlace, check]
  rfl

/-- A MARK PLACE in range, by the place of its mark. -/
theorem exec_markPlace {kind offset detail : Nat} {k : MarkKind} {s : State} (fill : Nat) (running : s.station = .running)
    (inRange : placeKind kind offset detail = some k) (below : s.length.runCount + offset ≤ maxCount)
    (taken : 0 < offset → placementOf (hostMark k offset detail s) s ≠ .refused) :
    exec (.markPlace kind offset detail fill) s = .next (finishFrame (10 + fill)
      (done (be 2 s.marks.nextSerial ++ [BitVec.ofNat 8 (placeOutcome (placementOf (hostMark k offset detail s) s))]))
      (placeMark (hostMark k offset detail s) (takeSerial s))) := by
  have check : placeCheck kind offset detail s = .ok (hostRaising k offset detail s) := by
    rw [placeCheck, isRunning_of_running running, if_neg nofun, inRange]
    dsimp only
    rw [completeMark_hostRaising k detail below, if_neg fun h => taken h.1 h.2]
  change execMarkPlace kind offset detail fill s = _
  rw [execMarkPlace, check, ← be_one]
  dsimp only
  rw [raiseAny, completeMark_hostRaising k detail below]
  rfl

theorem placeCheck_full {kind offset detail : Nat} {k : MarkKind} {s : State} (running : s.station = .running)
    (inRange : placeKind kind offset detail = some k) (below : s.length.runCount + offset ≤ maxCount) (ahead : 0 < offset)
    (refused : placementOf (hostMark k offset detail s) s = .refused) : placeCheck kind offset detail s = .error .full := by
  rw [placeCheck, isRunning_of_running running, if_neg nofun, inRange]
  dsimp only
  rw [completeMark_hostRaising k detail below, if_pos ⟨ahead, refused⟩]

/-- Settles O21: the mark at the run count goes straight to the line bus, and each refusal is one branch of the check. -/
theorem markPlaceFiresOrIsRefused : Obligations.MarkPlaceFiresOrIsRefused := by
  intro kind offset detail fill s
  refine ⟨fun running within free => ?fires, fun opened => ?_, fun running out => ?_, fun running ahead near below fresh full => ?_⟩
  case fires =>
    obtain ⟨on, off, room, fresh⟩ := free
    have placement : placementOf (hostMark .operator 0 detail s) s = .fires :=
      placementOf_fires fresh (nofun : MarkKind.operator ≠ .lotChange) (Nat.add_zero _).le
    have fired : placeMark (hostMark .operator 0 detail s) (takeSerial s) =
        forwardOwn (ownNotice s .operator s.length.runCount 0 (BitVec.ofNat 16 detail)) s :=
      (placeMark_fires (m := hostMark .operator 0 detail s) (s := takeSerial s) (nofun : MarkKind.operator ≠ .lotChange) placement).trans
        (fireOrdinary_free on off room rfl rfl rfl)
    have placed := exec_markPlace fill running (placeKind_operator detail (Nat.zero_le _)) within (k := .operator) nofun
    rw [placement, fired] at placed
    refine ⟨_, placed, ?_, answers_finishFrame _ _ rfl, sameOutside_finishFrame _ _ (forwardOwn_frame _ s
      (bs := [.marks, .port]))⟩
    rw [forwardedOwn, finishFrame_marks, finishFrame_port]
    exact forwardedOwn_forwardOwn _ _
  · refine ⟨_, exec_markPlace_refused fill ?_, (answers_read _ _ _).symm⟩
    rw [placeCheck, isRunning_of_open opened]
    rfl
  · refine ⟨_, exec_markPlace_refused fill ?_, (answers_read _ _ _).symm⟩
    rw [placeCheck, isRunning_of_running running, if_neg nofun, placeKind_eq_none out]
  · refine ⟨_, exec_markPlace_refused fill ?_, (answers_read _ _ _).symm⟩
    have later (k : MarkKind) : s.length.runCount < (hostMark k offset detail s).position := Nat.lt_add_of_pos_right ahead
    obtain ⟨rfl, full⟩ | ⟨rfl, rfl, places, ordinary⟩ := full
    · refine placeCheck_full running (placeKind_operator detail near) below ahead ?_
      rw [placementOf_ahead fresh (nofun : MarkKind.operator ≠ .lotChange) (later _), capacity_ordinary rfl, if_neg (by omega)]
    · refine placeCheck_full running (placeKind_cutRequest near) below ahead ?_
      rw [placementOf_ahead fresh (nofun : MarkKind.cutRequest ≠ .lotChange) (later _), capacity_boundary rfl,
        if_neg (by omega), if_neg (by omega)]

/-! ## A mark stored in its order (R35, R39) -/

theorem insertMark_eq_filter (m : Mark) {marks : List Mark} (sorted : marks.Pairwise fun a b => a.position ≤ b.position) :
    insertMark m marks = marks.filter (fun w => w.position ≤ m.position) ++
      m :: marks.filter (fun w => m.position < w.position) := by
  induction marks with
  | nil => rfl
  | cons w rest ih =>
    obtain ⟨later, sorted⟩ := List.pairwise_cons.1 sorted
    unfold insertMark
    by_cases atOrBefore : w.position ≤ m.position
    · rw [if_pos atOrBefore, ih sorted, List.filter_cons_of_pos (by simpa using atOrBefore),
        List.filter_cons_of_neg (by simpa using atOrBefore), List.cons_append]
    · have noneBefore : (w :: rest).filter (fun v => v.position ≤ m.position) = [] := by
        refine List.filter_eq_nil_iff.2 fun v hv => ?_
        obtain rfl | hv := List.mem_cons.1 hv
        · simpa using atOrBefore
        · have := later v hv
          simp only [decide_eq_true_eq]
          omega
      have allAfter : (w :: rest).filter (fun v => m.position < v.position) = w :: rest := by
        refine List.filter_eq_self.2 fun v hv => ?_
        obtain rfl | hv := List.mem_cons.1 hv
        · simpa using atOrBefore
        · have := later v hv
          simp only [decide_eq_true_eq]
          omega
      rw [if_neg atOrBefore, noneBefore, allAfter, List.nil_append]

theorem cutTest_marks (s : State) : (cutTest s).marks = s.marks :=
  (cutTest_frame s (bs := [.builder, .hold, .port])) .marks (by decide)

theorem storeMark_marks (m : Mark) (s : State) :
    (storeMark m s).marks = { s.marks with marks := insertMark m s.marks.marks } := cutTest_marks _

theorem storeMark_link (m : Mark) (s : State) : (storeMark m s).link = s.link := cutTest_link _

theorem storeMark_idle {m : Mark} {s : State} (idle : s.builder.state ≠ .building) :
    storeMark m s = withWaiting (insertMark m s.marks.marks) s :=
  cutTest_idle (s := withWaiting (insertMark m s.marks.marks) s) idle

/-- The mark of MARK PLACE ahead is stored while there is room for its kind. -/
theorem placementOf_hostMark_stored {kind : MarkKind} {offset : Nat} (detail : Nat) {s : State} (ahead : 0 < offset)
    (fresh : ∀ w ∈ s.marks.marks, w.origin ≠ { station := s.stationNumber, serial := s.marks.nextSerial })
    (room : (kind = .operator ∧ ordinaryWaiting s.marks.marks < 88 ∧ s.marks.marks.length < 96) ∨
      (kind = .cutRequest ∧ s.marks.marks.length < 96)) : placementOf (hostMark kind offset detail s) s = .stored := by
  have later : s.length.runCount < (hostMark kind offset detail s).position := Nat.lt_add_of_pos_right ahead
  obtain ⟨rfl, room⟩ | ⟨rfl, room⟩ := room
  · rw [placementOf_ahead fresh (nofun : MarkKind.operator ≠ .lotChange) later, capacity_ordinary rfl, if_pos room]
  · rw [placementOf_ahead fresh (nofun : MarkKind.cutRequest ≠ .lotChange) later, capacity_boundary rfl, if_pos room]

/-! ## Eviction (R41) -/

/-- The farther of the farthest ordinary mark so far and the next mark of the list (R41). -/
def fartherOf (best : Option Mark) (w : Mark) : Option Mark :=
  if w.kind.isBoundary then best
  else match best with
    | none => some w
    | some b => if b.position ≤ w.position then some w else best

theorem farthestOrdinary_eq (marks : List Mark) : farthestOrdinary marks = marks.foldl fartherOf none := rfl

theorem foldl_fartherOf_boundaries {after : List Mark} (boundaries : ∀ w ∈ after, w.kind.isBoundary = true) (best : Option Mark) :
    after.foldl fartherOf best = best := by
  induction after with
  | nil => rfl
  | cons w rest ih =>
    obtain ⟨here, boundaries⟩ := List.forall_mem_cons.1 boundaries
    rw [List.foldl_cons, show fartherOf best w = best from if_pos here, ih boundaries]

/-- The ordinary mark that stands last is the farthest, where the list is in order of position. -/
theorem farthestOrdinary_last {before after : List Mark} {gone : Mark}
    (sorted : (before ++ gone :: after).Pairwise fun a b => a.position ≤ b.position) (ordinary : gone.kind.isBoundary = false)
    (boundaries : ∀ w ∈ after, w.kind.isBoundary = true) : farthestOrdinary (before ++ gone :: after) = some gone := by
  have upTo : ∀ w ∈ before, w.position ≤ gone.position := fun w hw =>
    (List.pairwise_append.1 sorted).2.2 w hw gone List.mem_cons_self
  have step : fartherOf (before.foldl fartherOf none) gone = some gone := by
    cases best : before.foldl fartherOf none with
    | none => exact if_neg (Bool.eq_false_iff.1 ordinary)
    | some b =>
      have mem : b ∈ before := farthestOrdinary_mem ((farthestOrdinary_eq before).trans best)
      exact (if_neg (Bool.eq_false_iff.1 ordinary)).trans (if_pos (upTo b mem))
  rw [farthestOrdinary_eq, List.foldl_append, List.foldl_cons, step, foldl_fartherOf_boundaries boundaries]

/-- A hull covers what it is made of. -/
theorem foldl_hull_covers (near : List LossInterval) {i acc : LossInterval} (closed : isClosed acc = true)
    (low : acc.low ≤ i.low) (high : highOf i ≤ highOf acc) :
    isClosed (near.foldl (fun acc j => hull j acc) acc) = true ∧ (near.foldl (fun acc j => hull j acc) acc).low ≤ i.low ∧
      highOf i ≤ highOf (near.foldl (fun acc j => hull j acc) acc) := by
  induction near generalizing acc with
  | nil => exact ⟨closed, low, high⟩
  | cons k rest ih => exact ih (acc := hull k acc) rfl ((min_le_right _ _).trans low) (high.trans (le_max_right _ _))

/-- A list of losses covers a stretch of product. -/
def Covers (held : List LossInterval) (low high : Nat) : Prop :=
  ∃ j ∈ held, ∃ h, j.high = some h ∧ j.low ≤ low ∧ high ≤ h

theorem covers_of_mem {held : List LossInterval} {j : LossInterval} {low high : Nat} (mem : j ∈ held)
    (closed : isClosed j = true) (from_low : j.low ≤ low) (to_high : high ≤ highOf j) : Covers held low high := by
  obtain ⟨h, is⟩ := (isClosed_iff j).1 closed
  exact ⟨j, mem, h, is, from_low, highOf_eq is ▸ to_high⟩

/-- A closed interval added to a list that is not full is covered by one that the list then holds (R63). -/
theorem addClosed_covers {i : LossInterval} {held : List LossInterval} (closed : isClosed i = true) (room : held.length < 8) :
    Covers (addClosed i held) i.low (highOf i) := by
  unfold addClosed
  split
  · obtain ⟨hullClosed, low, high⟩ := foldl_hull_covers (held.filter (nearEachOther i)) closed le_rfl le_rfl
    exact covers_of_mem ((mem_insertInterval _ _ _).2 (.inl rfl)) hullClosed low high
  · rw [if_pos (show held.length < lossPlaces from room)]
    exact covers_of_mem ((mem_insertInterval _ _ _).2 (.inl rfl)) closed le_rfl le_rfl

theorem offerInterval_losses (i : LossInterval) (s : State) :
    (offerInterval i s).feeds = { s.feeds with losses := offered i s.feeds.losses } :=
  ((lossTest_frame _ _ (bs := [.builder])).mono (by decide) |>.trans (retroTest_frame i.low _ (bs := [.builder, .link])))
    .feeds (by decide)

theorem addInterval_losses {i : LossInterval} {s : State} (closed : isClosed i = true) :
    (addInterval i s).feeds = { s.feeds with losses := addClosed i s.feeds.losses } := by
  rw [addInterval, raiseLoss_feeds, offerInterval_losses, offered, if_pos closed]

@[simp] theorem raiseLoss_lost (i : LossInterval) (s : State) : (raiseLoss i s).marks.lost = s.marks.lost := by
  unfold raiseLoss
  split
  · rw [(fireOrdinary_frame _ _ (bs := [.feeds, .builder, .hold, .port, .link])) .marks (by decide)]
    rfl
  · rfl

theorem addInterval_lost (i : LossInterval) (s : State) : (addInterval i s).marks.lost = s.marks.lost := by
  rw [addInterval, raiseLoss_lost, (offerInterval_frame i s (bs := [.feeds, .builder, .link])) .marks (by decide)]

/-- What the loss of an evicted mark leaves of the mark list: the tally of marks lost, and the serial that a LOSS mark took. -/
theorem evict_marks {s : State} {w : Mark} (far : farthestOrdinary s.marks.marks = some w) :
    (evict s).marks.marks = s.marks.marks.erase w ∧ (evict s).marks.lost = tally s.marks.lost ∧
      (evict s).feeds.losses = addClosed (lostInterval w .evicted) s.feeds.losses ∧
      hasCondition .markLost (evict s).link.latched = true := by
  have removed : (cutTest (withWaiting (s.marks.marks.erase w) s)).marks.lost = s.marks.lost := by
    rw [cutTest_marks]
    rfl
  have held : (cutTest (withWaiting (s.marks.marks.erase w) s)).feeds = s.feeds :=
    (cutTest_frame (withWaiting (s.marks.marks.erase w) s) (bs := [.builder, .hold, .port])) .feeds (by decide)
  have evicted : evict s = loseOrdinary (addInterval (lostInterval w .evicted)
      (cutTest (withWaiting (s.marks.marks.erase w) s))) := by rw [evict, far]
  refine ⟨evict_waiting far, ?_, ?_, ?_⟩
  · rw [evicted]
    exact congrArg tally ((addInterval_lost _ _).trans removed)
  · rw [evicted]
    change (addInterval _ _).feeds.losses = _
    rw [addInterval_losses rfl, held]
  · rw [evicted]
    exact latch_latches _ _

theorem placeMark_link (m : Mark) (s : State) :
    (placeMark m s).link = { s.link with latched := (placeMark m s).link.latched } :=
  (placeMark_path (bounded := False) (scope := .growing) m s nofun nofun).link_eq rfl

/-- Settles O22: the mark is stored in its order, after the farthest ordinary mark has made room for it where all places are
full. -/
theorem markPlaceAheadWaitsInOrder : Obligations.MarkPlaceAheadWaitsInOrder := by
  refine ⟨fun kind offset detail fill s k law running kinds ahead near below fresh => ?_,
    fun offset fill s before after gone law running ahead near below fresh full list notLot notCut boundaries => ?_⟩
  · have stored : placementOf (hostMark k offset detail s) s = .stored := placementOf_hostMark_stored detail ahead fresh (by
      obtain ⟨-, rfl, room⟩ | ⟨-, rfl, -, room⟩ := kinds
      · exact .inl ⟨rfl, room⟩
      · exact .inr ⟨rfl, room⟩)
    have inRange : placeKind kind offset detail = some k := by
      obtain ⟨rfl, rfl, -⟩ | ⟨rfl, rfl, rfl, -⟩ := kinds
      · exact placeKind_operator detail near
      · exact placeKind_cutRequest near
    have kept : k ≠ .lotChange := by obtain ⟨-, rfl, -⟩ | ⟨-, rfl, -⟩ := kinds <;> nofun
    have placed := exec_markPlace fill running inRange below fun _ => by rw [stored]; nofun
    have store : placeMark (hostMark k offset detail s) (takeSerial s) = storeMark (hostMark k offset detail s) (takeSerial s) :=
      placeMark_stored kept stored
    rw [stored, store] at placed
    refine ⟨_, placed, ?_, answers_finishFrame _ _ (storeMark_link _ _), ?_, fun idle => ?_⟩
    · rw [finishFrame_marks, storeMark_marks]
      exact congrArg (fun l => { (takeSerial s).marks with marks := l }) (insertMark_eq_filter (hostMark k offset detail s) law.1)
    · exact sameOutside_finishFrame _ _ ((takeSerial_frame s (bs := [.marks])).mono (by decide) |>.trans (storeMark_frame _ _
        (bs := [.marks, .builder, .hold, .port])))
    · rw [storeMark_idle (s := takeSerial s) idle]
      exact sameOutside_finishFrame _ _ ((takeSerial_frame s (bs := [.marks])).trans (withWaiting_frame _ _))
  · obtain ⟨sorted, -, -, -, origins, -⟩ := law
    have later : s.length.runCount < (hostMark .cutRequest offset 0 s).position := Nat.lt_add_of_pos_right ahead
    have ordinary : gone.kind.isBoundary = false := by
      cases kind : gone.kind
      case lotChange => exact absurd kind notLot
      case cutRequest => exact absurd kind notCut
      all_goals rfl
    have evicts : placementOf (hostMark .cutRequest offset 0 s) s = .evicts := by
      rw [placementOf_ahead fresh (nofun : MarkKind.cutRequest ≠ .lotChange) later, capacity_boundary rfl, if_neg (by omega),
        if_pos]
      exact List.countP_pos_iff.2 ⟨gone, by rw [list]; simp, by rw [ordinary]; rfl⟩
    have placed := exec_markPlace fill running (placeKind_cutRequest near) below fun _ => by rw [evicts]; nofun
    have store : placeMark (hostMark .cutRequest offset 0 s) (takeSerial s) =
        storeMark (hostMark .cutRequest offset 0 s) (evict (takeSerial s)) :=
      placeMark_evicts (s := takeSerial s) (nofun : MarkKind.cutRequest ≠ .lotChange) evicts
    have far : farthestOrdinary (takeSerial s).marks.marks = some gone := by
      change farthestOrdinary s.marks.marks = some gone
      rw [list] at sorted ⊢
      refine farthestOrdinary_last sorted ordinary fun w hw => ?_
      obtain kind | kind := boundaries w hw <;> rw [kind] <;> rfl
    obtain ⟨waiting, lost, losses, told⟩ := evict_marks far
    have others : (takeSerial s).marks.marks.erase gone = before ++ after := by
      have notBefore : gone ∉ before := fun mem => by
        rw [list] at origins
        exact (List.pairwise_append.1 origins).2.2 gone mem gone List.mem_cons_self rfl
      change s.marks.marks.erase gone = _
      rw [list, List.erase_append_right _ notBefore, List.erase_cons_head]
    have link := placeMark_link (hostMark .cutRequest offset 0 s) (takeSerial s)
    rw [store] at link
    rw [evicts, store] at placed
    have sortedOthers : (evict (takeSerial s)).marks.marks.Pairwise fun a b => a.position ≤ b.position := by
      rw [waiting]
      exact sorted.sublist List.erase_sublist
    refine ⟨_, placed, ?_, ?_, ?_, fun room => ?_, replies_finishFrame _ _ link, ?_⟩
    · rw [finishFrame_marks, storeMark_marks]
      change insertMark _ _ = _
      rw [insertMark_eq_filter _ sortedOthers, waiting, others]
      rfl
    · rw [finishFrame_marks, storeMark_marks]
      exact lost
    · rw [finishFrame_latched, storeMark_link]
      exact told
    · have same : (storeMark (hostMark .cutRequest offset 0 s) (evict (takeSerial s))).feeds = (evict (takeSerial s)).feeds :=
        (storeMark_frame _ _ (bs := [.marks, .builder, .hold, .port])) .feeds (by decide)
      rw [finishFrame_feeds, same, losses]
      exact addClosed_covers (i := lostInterval gone .evicted) rfl room
    · exact sameOutside_finishFrame _ _ (((takeSerial_frame s (bs := [.marks])).mono (by decide)).trans ((evict_frame _).trans
        ((storeMark_frame _ _ (bs := [.marks, .builder, .hold, .port])).mono (by decide)))
        (bs := [.marks, .feeds, .builder, .hold, .port, .link]))

end Sys2Proof.Machine
end

section
/-! PROOFS. The hold unit's watch on the wire (9.2), and what the monitors make of it (O44). -/

namespace Sys2Proof.Machine

-- One theorem after another: side by side they need more threads than the memory of the check allows.
set_option Elab.async false

open SameOutside

/-! ## The wire (R144, R145) -/

theorem exec_holdWireChange (level : Bool) (s : State) : exec (.holdWireChange level) s = .next (wireChange level s) := rfl

theorem exec_holdDebounceExpiry (s : State) : exec .holdDebounceExpiry s = .next (wireExpiry s) := rfl

theorem wireChange_change {level : Bool} {s : State} (change : s.pins.holdw ≠ level) : wireChange level s =
    (s.withPins { s.pins with holdw := level }).withHold { s.hold with
      pending := if wireStateOf level = s.hold.observed then none
        else some { state := wireStateOf level, since := s.now } } := if_neg change

theorem wireStateOf_eq_iff (level : Bool) (w : WireState) :
    wireStateOf level = w ↔ (level = true ∧ w = .running) ∨ (level = false ∧ w = .held) := by
  cases level <;> cases w <;> decide

theorem wireExpiry_early {s : State} {p : PendingWire} (pending : s.hold.pending = some p) (early : s.now < p.since + 200) :
    wireExpiry s = s := by
  rw [wireExpiry, pending]
  refine if_neg ?_
  rw [wireDue, pending]
  exact fun come => Nat.not_le.2 early (of_decide_eq_true come)

theorem wireExpiry_due {s : State} {p : PendingWire} (pending : s.hold.pending = some p) (due : p.since + 200 ≤ s.now) :
    wireExpiry s = match p.state with
      | .held => seeHeld s
      | .running => seeRunning s := by
  rw [wireExpiry, pending]
  refine if_pos ?_
  rw [wireDue, pending]
  exact decide_eq_true due

/-! ## HELD (R81, R84, R101) -/

/-- The part that sees the wire HELD, before the monitors do. -/
def sawHeld (s : State) : State := latch .lineHeld (s.withHold { s.hold with observed := .held, pending := none })

theorem seeHeld_eq (s : State) : seeHeld s = knotSeesHeld (laySeesHeld (sawHeld s)) := rfl

theorem sawHeld_frame (s : State) : SameOutside [.hold, .link] s (sawHeld s) := (withHold s _).trans (latch_frame _ _)

theorem knotSeesHeld_knot (s : State) :
    (knotSeesHeld s).knot = if s.knot.state = .counting then { s.knot with faultRun := none } else s.knot := by
  unfold knotSeesHeld
  split
  · exact closeKnotRun_knot s
  · rfl

theorem knotSeesHeld_lay (s : State) : (knotSeesHeld s).lay = s.lay := by
  unfold knotSeesHeld closeKnotRun
  split
  · split
    · exact raiseMark_lay _ _
    · rfl
  · rfl

theorem laySeesHeld_idle {s : State} (idle : s.lay.state = .off ∨ s.lay.state = .suspended) : laySeesHeld s = s := by
  obtain h | h := idle <;> rw [laySeesHeld, h]

theorem laySeesHeld_working {s : State} (working : s.lay.state = .settling ∨ s.lay.state = .measuring) :
    laySeesHeld s = measureLayRun (faultWindowsOf s.lay.working) (suspend s) := by
  obtain h | h := working <;> rw [laySeesHeld, h]

theorem laySeesHeld_lay {s : State} (working : s.lay.state = .settling ∨ s.lay.state = .measuring) :
    (laySeesHeld s).lay = { s.lay with state := .suspended, settleCount := 0, window := none, faultRun := none } := by
  rw [laySeesHeld_working working, measureLayRun_lay]
  rfl

/-- Without a fault run to measure, the lay monitor changes itself alone. -/
theorem laySeesHeld_quiet {s : State} (quiet : s.lay.state = .off ∨ s.lay.state = .suspended ∨ s.lay.faultRun = none) :
    SameOutside [.lay] s (laySeesHeld s) := by
  unfold laySeesHeld
  split
  case h_3 => exact refl _ s
  all_goals
    next state =>
    have none : (suspend s).lay.faultRun = none := quiet.resolve_left (by rw [state]; nofun) |>.resolve_left (by rw [state]; nofun)
    rw [measureLayRun, none]
    exact changeLay_frame _ s

/-- A fault run too short is discarded, and one of windows enough raises its LAY_FAULT (R81). -/
theorem measureLayRun_short {k : Nat} {s : State} {run : LayFaultRun} (opened : s.lay.faultRun = some run) (short : run.windows < k) :
    measureLayRun k s = endLayRun s := by
  rw [measureLayRun, opened]
  exact if_neg (Nat.not_le.2 short)

theorem measureLayRun_long {k : Nat} {s : State} {run : LayFaultRun} (opened : s.lay.faultRun = some run) (long : k ≤ run.windows) :
    measureLayRun k s = raiseMark (layFault run s.length.runCount) (endLayRun s) := by
  rw [measureLayRun, opened]
  exact if_pos long

theorem forwardsFreely_of_frame {s t : State} (free : forwardsFreely s) {bs : List Block} (same : SameOutside bs s t)
    (out : ∀ b ∈ bs, b ≠ .profile ∧ b ≠ .builder ∧ b ≠ .port ∧ b ≠ .marks := by decide) : forwardsFreely t := by
  have builder : t.builder = s.builder := same .builder fun h => (out _ h).2.1 rfl
  exact forwardsFreely_congr free (same .profile fun h => (out _ h).1 rfl) (builder ▸ free.2.1)
    (same .port fun h => (out _ h).2.2.1 rfl) (same .marks fun h => (out _ h).2.2.2 rfl)

theorem knotSeesHeld_quiet {s : State} (quiet : s.knot.state ≠ .counting ∨ s.knot.faultRun = none) : knotSeesHeld s = s := by
  unfold knotSeesHeld closeKnotRun
  split
  · next counting => rw [quiet.resolve_left (not_not.2 counting)]
  · rfl

/-- The monitors' part in what is seen leaves the hold unit what it has seen. -/
theorem seeHeld_hold (s : State) : (seeHeld s).hold = { s.hold with
    own := (seeHeld s).hold.own, observed := .held, pending := none } := by
  have monitors : Evolves .growing (sawHeld s) (seeHeld s) := (laySeesHeld_evolves _).trans (knotSeesHeld_evolves _)
  have hold : (seeHeld s).hold = { (sawHeld s).hold with own := (seeHeld s).hold.own } := (monitors False nofun).hold_eq rfl
  exact hold

theorem seeHeld_latched (s : State) : hasCondition .lineHeld (seeHeld s).link.latched = true := by
  have monitors : Evolves .growing (sawHeld s) (seeHeld s) := (laySeesHeld_evolves _).trans (knotSeesHeld_evolves _)
  exact monitors.latchedStays _ (latch_latches _ _)

/-- The knot monitor's fault run raises its mark (R101). -/
theorem seeHeld_knotFault {s : State} {run : KnotFaultRun} (counting : s.knot.state = .counting)
    (opened : s.knot.faultRun = some run) (quiet : s.lay.state = .off ∨ s.lay.state = .suspended ∨ s.lay.faultRun = none)
    (reached : run.start ≤ s.length.runCount) (near : s.length.runCount ≤ run.start + 262144) (free : forwardsFreely s) :
    forwardedOwn (ownNotice s .knotFault run.start (run.finish - run.start) (BitVec.ofNat 16 run.total)) s (seeHeld s) := by
  have before : SameOutside [.hold, .lay, .link] s (laySeesHeld (sawHeld s)) :=
    ((sawHeld_frame s).mono (by decide)).trans ((laySeesHeld_quiet (s := sawHeld s) quiet).mono (by decide))
  rw [seeHeld_eq]
  generalize laySeesHeld (sawHeld s) = u at before
  have knot : u.knot = s.knot := before .knot (by decide)
  have length : u.length = s.length := before .length (by decide)
  have raised : knotSeesHeld u = closeKnotRun u := if_pos (knot ▸ counting)
  rw [raised, closeKnotRun_raises (knot ▸ opened) (forwardsFreely_of_frame free before) (length ▸ reached) (length ▸ near),
    ownNotice_congr _ _ _ _ (before .profile (by decide)) (before .lots (by decide)) (before .port (by decide))
      (before .marks (by decide))]
  exact forwardedOwn_congr (s := s) (t := endKnotRun u) (forwardedOwn_forwardOwn _ _) (before .port (by decide))
    (before .marks (by decide))

/-- The lay monitor's fault run of windows enough raises its mark (R81, R84). -/
theorem seeHeld_layFault {s : State} {run : LayFaultRun} {w : LayWorkingSet}
    (working : s.lay.state = .settling ∨ s.lay.state = .measuring) (opened : s.lay.faultRun = some run)
    (set : s.lay.working = some w) (quiet : s.knot.state ≠ .counting ∨ s.knot.faultRun = none)
    (long : w.faultWindows ≤ run.windows) (near : s.length.runCount ≤ run.start + 262144) (free : forwardsFreely s) :
    forwardedOwn (ownNotice s .layFault (min run.start s.length.runCount)
      (min 131071 (run.finish - min run.start s.length.runCount)) (BitVec.ofInt 16 run.worst)) s (seeHeld s) := by
  have before : SameOutside [.hold, .lay, .link] s (endLayRun (suspend (sawHeld s))) :=
    ((sawHeld_frame s).mono (by decide)).trans ((changeLay_frame _ _).trans (changeLay_frame _ _))
  have enough : faultWindowsOf s.lay.working ≤ run.windows := by rw [set]; exact long
  have lay : laySeesHeld (sawHeld s) = raiseMark (layFault run s.length.runCount) (endLayRun (suspend (sawHeld s))) :=
    (laySeesHeld_working (s := sawHeld s) working).trans (measureLayRun_long (s := suspend (sawHeld s)) opened enough)
  have quietAfter : knotSeesHeld (laySeesHeld (sawHeld s)) = laySeesHeld (sawHeld s) := by
    refine knotSeesHeld_quiet ?_
    rw [lay, raiseMark_knot]
    exact quiet
  rw [seeHeld_eq, quietAfter, lay]
  have length : (endLayRun (suspend (sawHeld s))).length = s.length := rfl
  rw [raiseMark_free (r := layFault run s.length.runCount) (forwardsFreely_of_frame free before) rfl rfl
    (min_le_right _ _) (by rw [length]; change _ ≤ min run.start s.length.runCount + 262144; omega),
    ownNotice_congr _ _ _ _ (before .profile (by decide)) (before .lots (by decide)) (before .port (by decide))
      (before .marks (by decide))]
  have span : min (run.finish - min run.start s.length.runCount) 131071 =
      min 131071 (run.finish - min run.start s.length.runCount) := min_comm _ _
  rw [← span]
  exact forwardedOwn_congr (s := s) (t := endLayRun (suspend (sawHeld s))) (forwardedOwn_forwardOwn _ _) (before .port (by decide))
    (before .marks (by decide))

theorem seeHeld_discarded {s : State} {run : LayFaultRun} {w : LayWorkingSet}
    (working : s.lay.state = .settling ∨ s.lay.state = .measuring) (opened : s.lay.faultRun = some run)
    (set : s.lay.working = some w) (quiet : s.knot.state ≠ .counting ∨ s.knot.faultRun = none)
    (short : run.windows < w.faultWindows) : SameOutside [.hold, .lay, .knot, .link] s (seeHeld s) := by
  have few : run.windows < faultWindowsOf s.lay.working := by rw [set]; exact short
  have lay : laySeesHeld (sawHeld s) = endLayRun (suspend (sawHeld s)) :=
    (laySeesHeld_working (s := sawHeld s) working).trans (measureLayRun_short (s := suspend (sawHeld s)) opened few)
  rw [seeHeld_eq, lay, knotSeesHeld_quiet (s := endLayRun (suspend (sawHeld s))) quiet]
  exact ((sawHeld_frame s).mono (by decide)).trans ((changeLay_frame _ _).trans (changeLay_frame _ _))

/-! ## RUNNING (R83) -/

/-- The part that sees the wire RUNNING, before the lay monitor does. -/
def sawRunning (s : State) : State := latch .lineReleased (s.withHold { s.hold with
  observed := .running, pending := none, holders := [], uncounted := false })

theorem seeRunning_eq (s : State) : seeRunning s = laySeesRunning (sawRunning s) := rfl

theorem laySeesRunning_idle {s : State} (other : s.lay.state ≠ .suspended) : laySeesRunning s = s := by
  unfold laySeesRunning
  split
  · next suspended => exact absurd suspended other
  · rfl

theorem laySeesRunning_settles {s : State} {w : LayWorkingSet} (suspended : s.lay.state = .suspended)
    (set : s.lay.working = some w) (turns : 0 < w.settleTurns) :
    (laySeesRunning s).lay = { s.lay with state := .settling, settleCount := 0, window := none } := by
  have settling : enterSettling s =
      changeLay (fun l => { l with state := .settling, settleCount := 0, window := none }) s := by
    rw [enterSettling, set]
    exact if_neg (Nat.pos_iff_ne_zero.1 turns)
  rw [laySeesRunning, suspended]
  dsimp only
  rw [settling]
  rfl

/-- Settles O44: the change of level, the debounce, and then what is seen, by the state of each monitor. -/
theorem wireIsObservedAfterItsDebounce : Obligations.WireIsObservedAfterItsDebounce := by
  intro level s
  refine ⟨fun same => ?_, fun change => ⟨_, rfl, ?_⟩, fun p pending => ⟨fun early => ?_, fun due => ?_⟩⟩
  · rw [exec_holdWireChange, wireChange, if_pos same]
  · rw [wireChange_change change]
    refine ⟨rfl, ?_, (withPins s _).trans (withHold _ _)⟩
    simp only [State.withHold_hold, wireStateOf_eq_iff]
    rfl
  · rw [exec_holdDebounceExpiry, wireExpiry_early pending early]
  · rw [exec_holdDebounceExpiry, wireExpiry_due pending due]
    cases seen : p.state with
    | held =>
      have hold := seeHeld_hold s
      refine ⟨seeHeld s, rfl, by rw [hold], by rw [hold], fun _ => ⟨by rw [hold], by rw [hold], seeHeld_latched s,
        fun working => ?_, fun idle => ?_, fun counting => ?_, fun other => ?_,
        fun run counting opened quiet reached near free => seeHeld_knotFault counting opened quiet reached near free,
        fun run w working opened set quiet => ⟨fun long near free => seeHeld_layFault working opened set quiet long near free,
          fun short => seeHeld_discarded working opened set quiet short⟩, seeHeld_frame s⟩, nofun⟩
      · rw [seeHeld_eq, knotSeesHeld_lay, laySeesHeld_lay (s := sawHeld s) working]
        rfl
      · rw [seeHeld_eq, knotSeesHeld_lay, laySeesHeld_idle (s := sawHeld s) idle]
        rfl
      · have knot : (laySeesHeld (sawHeld s)).knot = s.knot :=
          (laySeesHeld_frame (sawHeld s) (bs := layBlocks)) .knot (by decide)
        rw [seeHeld_eq, knotSeesHeld_knot, knot, if_pos counting]
      · have knot : (laySeesHeld (sawHeld s)).knot = s.knot :=
          (laySeesHeld_frame (sawHeld s) (bs := layBlocks)) .knot (by decide)
        rw [seeHeld_eq, knotSeesHeld_knot, knot, if_neg other]
    | running =>
      have observed := laySeesRunning_frame (sawRunning s) (bs := [.lay])
      rw [← seeRunning_eq] at observed
      have hold : (seeRunning s).hold = (sawRunning s).hold := observed .hold (by decide)
      refine ⟨seeRunning s, rfl, by rw [hold]; rfl, by rw [hold]; rfl, nofun, fun _ => ⟨hold, observed .link (by decide),
        fun other => by
          rw [seeRunning_eq, laySeesRunning_idle (s := sawRunning s) other]
          rfl, fun w suspended set turns =>
        laySeesRunning_settles (s := sawRunning s) suspended set turns, seeRunning_frame s⟩⟩

end Sys2Proof.Machine
end

section
/-! PROOFS. LOSS marks, and feeds that fall silent (4.2, 4.5): O25. -/

namespace Sys2Proof.Machine

-- One theorem after another: side by side they need more threads than the memory of the check allows.
set_option Elab.async false

open SameOutside

/-! ## LOSS marks (R34, R67) -/

theorem builderTakes_ordinary_frame {m : Mark} (ordinary : m.kind.isBoundary = false) (answer : Option LotAnswer) (s : State) :
    SameOutside [.builder] s (builderTakes m answer s) := by
  rw [builderTakes, if_neg (Bool.eq_false_iff.1 ordinary)]
  exact SameOutside.ite (refl _ _) (changeRecord_frame _ _)

/-- An ordinary mark of this station's own that fires goes to the own-origin FIFO while forwarding is on (R44, R46). -/
theorem fireOrdinary_own {m : Mark} {s : State} (on : s.profile.forwarding = true) (room : s.port.own.length < 4)
    (ordinary : m.kind.isBoundary = false) (here : m.source = .here) (hops : m.hops = 0) :
    forwardedOwn (freshNotice (.mark (payloadOf m)) s.port.serialCounter) s (fireOrdinary m (takeSerial s)) := by
  have slot : markSlot m.kind m.source = .own := by simp [markSlot, ordinary, here]
  have added (t : State) : relay m t = t := by
    have none : relayedBy m = none := by
      unfold relayedBy
      split
      · next source => cases here.symm.trans source
      · rfl
    rw [relay, none]
  have taken := builderTakes_ordinary_frame ordinary none (takeSerial s)
  rw [fireOrdinary, added, forward]
  generalize builderTakes m none (takeSerial s) = t at taken
  have port : t.port = s.port := taken .port (by decide)
  have marks : t.marks = (takeSerial s).marks := taken .marks (by decide)
  have profile : t.profile = s.profile := taken .profile (by decide)
  rw [if_pos (show t.profile.forwarding = true ∧ m.hops < maxHops from ⟨profile ▸ on, hops ▸ (by decide : 0 < 7)⟩), slot,
    offerMark_queued .own _ t (show t.port.own.length < 4 from port ▸ room), port]
  exact ⟨marks, rfl⟩

/-- The place and the span that the lookback bound leaves (R31). -/
theorem lookBack_place (runCount position span : Nat) (clamped : Bool) :
    (lookBack runCount position span clamped).1 = max position (runCount - 262144) ∧
      (lookBack runCount position span clamped).2.1 = span - (max position (runCount - 262144) - position) := by
  by_cases far : position + 262144 < runCount
  · have bound : max position (runCount - 262144) = runCount - 262144 := max_eq_right (by omega)
    rw [lookBack_far _ _ far, bound]
    exact ⟨rfl, rfl⟩
  · have bound : max position (runCount - 262144) = position := max_eq_left (by omega)
    rw [lookBack_near _ _ (by omega), bound, Nat.sub_self, Nat.sub_zero]
    exact ⟨rfl, rfl⟩

theorem lossNotice_eq {i : LossInterval} {high : Nat} (closed : i.high = some high) (s : State) :
    freshNotice (.mark (payloadOf (completeMark (lossRaising i) s))) s.port.serialCounter = lossNotice s i.low high := by
  have span : (lossRaising i).span = min (high - i.low) 16777215 := by
    rw [lossRaising, highOf_eq closed]
    rfl
  have position : (lossRaising i).position = i.low := rfl
  have notice (b : Nat × Nat × Bool) : freshNotice (.mark (payloadOf (completedWith b (lossRaising i) s))) s.port.serialCounter =
      ownNotice s .loss b.1 b.2.1 0 := rfl
  obtain ⟨at_position, cut⟩ := lookBack_place s.length.runCount (lossRaising i).position (lossRaising i).span (lossRaising i).clamped
  rw [completeMark_eq, notice, at_position, cut, span, position]
  rfl

/-- While forwarding is on, the LOSS mark of a closed interval goes to the own-origin FIFO. -/
theorem raiseLoss_forwards {i : LossInterval} {high : Nat} {s : State} (closed : i.high = some high)
    (on : s.profile.forwarding = true) (room : s.port.own.length < 4) :
    forwardedOwn (lossNotice s i.low high) s (raiseLoss i s) := by
  rw [raiseLoss, if_pos on, ← lossNotice_eq closed]
  exact fireOrdinary_own on room rfl rfl rfl

theorem raiseLoss_off {i : LossInterval} {s : State} (off : s.profile.forwarding = false) : raiseLoss i s = s :=
  if_neg (Bool.eq_false_iff.1 off)

/-- A notice of this part's own, as a part sees it that differs in other blocks. -/
theorem lossNotice_congr {s t : State} (low high : Nat) (length : t.length = s.length) (profile : t.profile = s.profile)
    (lots : t.lots = s.lots) (port : t.port.serialCounter = s.port.serialCounter) (marks : t.marks = s.marks) :
    lossNotice t low high = lossNotice s low high := by
  rw [lossNotice, lossNotice, ownNotice, ownNotice, State.stationNumber, State.stationNumber, length, profile, lots, port, marks]

/-! ## A feed falls silent (R55) -/

theorem exec_feedTimeout (i : Fin 4) (s : State) : exec (.feedTimeout i) s = .next (feedSilent i s) := rfl

theorem mem_insertInterval_self (i : LossInterval) (held : List LossInterval) : i ∈ insertInterval i held :=
  (mem_insertInterval _ _ _).2 (.inl rfl)

/-- What an OPEN interval stands for in the list: itself. -/
theorem filter_standsFor_open {i : LossInterval} (opened : i.high = none) (held : List LossInterval) :
    held.filter (standsFor i) = held.filter fun j => decide (j = i) := by
  have : isClosed i = false := by simp [isClosed, opened]
  refine List.filter_congr fun j _ => ?_
  rw [standsFor, this, Bool.false_and, Bool.false_and, Bool.false_and, Bool.or_false]

/-- An OPEN interval meets the coil that has reached its low (R62). -/
theorem any_meets_open {i : LossInterval} (opened : i.high = none) {held : List LossInterval} (mem : i ∈ held) (a b : Nat) :
    (held.filter (standsFor i)).any (fun j => meets j a b) = decide (i.low ≤ b) := by
  rw [filter_standsFor_open opened, Bool.eq_iff_iff, List.any_eq_true, decide_eq_true_iff]
  constructor
  · rintro ⟨j, hj, meet⟩
    obtain rfl := of_decide_eq_true (List.mem_filter.1 hj).2
    simpa [meets, opened] using meet
  · intro low
    exact ⟨i, List.mem_filter.2 ⟨mem, decide_eq_true rfl⟩, by simp [meets, opened, low]⟩

/-- The part with a feed gone LOST and its OPEN interval held. -/
def wentLost (i : Nat) (e : FeedEntry) (s : State) : State :=
  (latch .feedLost s).withFeeds { s.feeds with
    table := s.feeds.table.set i { e with state := .lost, silenceSince := none }
    losses := addOpen (openInterval i (e.lastLocal + e.reach)) s.feeds.losses }

theorem feedSilent_due {i : Nat} {e : FeedEntry} {s : State} {since : Nat} (entry : s.feeds.table[i]? = some e)
    (heard : e.state ≠ .lost) (silence : e.silenceSince = some since) (due : since + e.timeout * 100 ≤ s.now) :
    feedSilent i s = retroTest (min (e.lastLocal + e.reach) maxCount)
      (offerBuilder (openInterval i (e.lastLocal + e.reach)) (wentLost i e s)) := by
  have come : timeCome (silenceDue e) s.now = true := by
    rw [silenceDue, silence]
    exact decide_eq_true due
  rw [feedSilent, entry]
  dsimp only
  rw [if_pos ⟨heard, come⟩, changeFeed, modify_eq_set entry]
  rfl

theorem feedSilent_early {i : Nat} {e : FeedEntry} {s : State} (entry : s.feeds.table[i]? = some e)
    (early : e.state = .lost ∨ ∀ since, e.silenceSince = some since → s.now < since + e.timeout * 100) : feedSilent i s = s := by
  rw [feedSilent, entry]
  dsimp only
  refine if_neg fun ⟨heard, come⟩ => ?_
  have early := early.resolve_left heard
  cases silence : e.silenceSince with
  | none => rw [silenceDue, silence] at come; cases come
  | some since =>
    rw [silenceDue, silence] at come
    exact Nat.not_le.2 (early since silence) (of_decide_eq_true come)

theorem offerBuilder_coilless {s : State} (i : LossInterval) (coilless : s.builder.current = none) : offerBuilder i s = s := by
  rw [offerBuilder, lossTest, coilless]

theorem retroTest_coilless {s : State} (low : Nat) (coilless : s.builder.current = none) : retroTest low s = s := by
  rw [retroTest, coilless]

theorem retroTest_current {s : State} {cur : CurrentCoil} (low : Nat) (current : s.builder.current = some cur) :
    retroTest low s = if low < cur.record.start then latch .retroLoss s else s := by
  rw [retroTest, current]

/-- The loss test of an OPEN interval marks the coil that has reached its low (R62, R137). -/
theorem offerBuilder_open {s : State} {i : LossInterval} {cur : CurrentCoil} (opened : i.high = none) (mem : i ∈ s.feeds.losses)
    (current : s.builder.current = some cur) : offerBuilder i s =
      s.withBuilder { s.builder with current := some { cur with record := { cur.record with flags := { cur.record.flags with
        incomplete := cur.record.flags.incomplete || decide (i.low ≤ s.length.runCount) } } } } := by
  rw [offerBuilder, lossTest, current]
  dsimp only
  rw [any_meets_open opened mem]
  by_cases reached : i.low ≤ s.length.runCount
  · rw [if_pos (decide_eq_true reached), decide_eq_true reached, Bool.or_true, markIncomplete, changeRecord, changeCoil, current]
    rfl
  · rw [if_neg (by simpa using reached), decide_eq_false reached, Bool.or_false]
    have builder : s.builder = { s.builder with current := some cur } := by rw [← current]
    calc s
      _ = s.withBuilder s.builder := rfl
      _ = s.withBuilder { s.builder with current := some cur } := congrArg s.withBuilder builder

theorem addOpen_keeps {i : LossInterval} {held : List LossInterval} (room : held.length < 8) :
    ∀ j ∈ held, j ∈ addOpen i held := by
  intro j hj
  rw [addOpen, if_pos (show held.length < lossPlaces from room)]
  exact (mem_insertInterval _ _ _).2 (.inr hj)

/-- Settles O25: the feed's entry, its OPEN interval, and what the coil builder makes of it. -/
theorem silentFeedGoesLost : Obligations.SilentFeedGoesLost := by
  intro i s e entry
  refine ⟨fun since heard silence due => ?_, fun early => by rw [exec_feedTimeout, feedSilent_early entry early]⟩
  have silent := feedSilent_due entry heard silence due
  have held : openInterval i (e.lastLocal + e.reach) ∈ (wentLost i e s).feeds.losses := mem_insertInterval_self _ _
  have feeds : (feedSilent i s).feeds = (wentLost i e s).feeds := by
    rw [silent]
    exact ((lossTest_frame _ _ (bs := [.builder, .link])).trans (retroTest_frame _ _)) .feeds (by decide)
  refine ⟨_, exec_feedTimeout i s, ?_, ?_, fun room j hj => ?_, fun coilless => ?_, fun cur current => ?_, feedSilent_frame i s⟩
  · rw [feeds]; rfl
  · rw [feeds]; exact held
  · rw [feeds]; exact addOpen_keeps room j hj
  · have same : feedSilent i s = wentLost i e s := by
      rw [silent, offerBuilder_coilless _ (s := wentLost i e s) coilless, retroTest_coilless _ (s := wentLost i e s) coilless]
    rw [same]
    exact ⟨rfl, rfl⟩
  · rw [silent, offerBuilder_open (s := wentLost i e s) rfl held current, retroTest_current _ rfl]
    by_cases below : min (e.lastLocal + e.reach) maxCount < cur.record.start
    · rw [if_pos below, if_pos below]
      exact ⟨rfl, rfl⟩
    · rw [if_neg below, if_neg below, show ∀ a : AttentionSet, a ||| 0 = a from fun _ => BitVec.or_zero]
      exact ⟨rfl, rfl⟩

end Sys2Proof.Machine
end

section
/-! PROOFS. Feeds that are found (4.2), and gaps in their serials (4.4): O27 and O29. -/

namespace Sys2Proof.Machine

-- One theorem after another: side by side they need more threads than the memory of the check allows.
set_option Elab.async false

open SameOutside

/-! ## A feed is found (R56) -/

theorem addOpenOf_mem {i : Nat} {held : List LossInterval} {lost : LossInterval} (found : held.find? (isOpenOf i) = some lost) :
    lost ∈ held ∧ lost.high = none ∧ lost.feed = some i := by
  refine ⟨List.mem_of_find?_eq_some found, ?_⟩
  have := List.find?_some found
  simpa [isOpenOf, isClosed] using this

/-- The OPEN interval of a feed is the one that the list holds. -/
theorem find?_isOpenOf {lostFeeds : Nat → Prop} {held : List LossInterval} (fits : ListFits lostFeeds held) {i : Nat}
    {lost : LossInterval} (mem : lost ∈ held) (opened : lost.high = none) (tied : lost.feed = some i) :
    held.find? (isOpenOf i) = some lost := by
  cases found : held.find? (isOpenOf i) with
  | none =>
    have := List.find?_eq_none.1 found lost mem
    simp [isOpenOf, isClosed, opened, tied] at this
  | some other =>
    obtain ⟨mem', opened', tied'⟩ := addOpenOf_mem found
    by_contra differs
    exact (fits.apart_of_ne mem' mem fun e => differs (congrArg some e)).1 opened' opened (tied'.trans tied.symm)

/-- The interval that has closed covers what it covered, to its high (R56, R64). -/
theorem closeOpen_covers {i high : Nat} {held : List LossInterval} {lost : LossInterval}
    (found : held.find? (isOpenOf i) = some lost) : Covers (closeOpen i high held) lost.low (max lost.low high) := by
  rw [closeOpen, found]
  dsimp only
  split
  · obtain ⟨closed, low, to_high⟩ := foldl_hull_covers
      ((held.erase lost).filter (nearEachOther { lost with high := some (max lost.low high) }))
      (i := { lost with high := some (max lost.low high) }) rfl le_rfl le_rfl
    exact covers_of_mem (mem_insertInterval_self _ _) closed low to_high
  · exact ⟨_, List.mem_map_of_mem (addOpenOf_mem found).1, _, by rw [if_pos rfl], by rw [if_pos rfl], le_rfl⟩

theorem closeOpen_none_left {lostFeeds : Nat → Prop} {held : List LossInterval} (fits : ListFits lostFeeds held) (i high : Nat) :
    ∀ j ∈ closeOpen i high held, j.high = none → j.feed ≠ some i := by
  intro j mem opened tied
  obtain ⟨f, feed, other⟩ := (fits.closeOpen (lost' := fun f => f ≠ i) i high fun f ne _ => ne).tied j mem opened
  exact other (Option.some.inj (feed.symm.trans tied))

/-- The part with a feed found and its OPEN interval closed at a high. -/
def foundAgain (i high : Nat) (e : FeedEntry) (s : State) : State :=
  (latch .feedFound s).withFeeds { s.feeds with
    table := s.feeds.table.set i { e with state := .heard, expectedSerial := none }
    losses := closeOpen i high s.feeds.losses }

theorem feedFound_eq {i : Nat} {e : FeedEntry} {lost : LossInterval} {s : State} (entry : s.feeds.table[i]? = some e)
    (found : s.feeds.losses.find? (isOpenOf i) = some lost) : feedFound i e s =
      raiseLoss { lost with high := some (max lost.low (min (s.length.runCount + e.reach) maxCount)) }
        (offerBuilder { lost with high := some (max lost.low (min (s.length.runCount + e.reach) maxCount)) }
          (foundAgain i (min (s.length.runCount + e.reach) maxCount) e s)) := by
  have closing (t : State) (same : t.feeds.losses = s.feeds.losses) (high : Nat) :
      closingInterval i high t = some { lost with high := some (max lost.low high) } := by
    rw [closingInterval, same, found]
    rfl
  rw [feedFound, changeFeed, modify_eq_set entry]
  dsimp only
  rw [closeInterval, closing]
  · rfl
  · rfl

/-- A LOSS mark raised here holds nothing and adds no interval: it is recorded in the coil and forwarded. -/
theorem raiseLoss_own_frame (i : LossInterval) (s : State) {bs : List Block}
    (h : Within [.marks, .builder, .port, .link] bs := by decide) : SameOutside bs s (raiseLoss i s) := by
  refine mono (bs := [.marks, .builder, .port, .link]) ?_ h
  unfold raiseLoss fireOrdinary
  rw [relay_completeMark]
  exact ite ((takeSerial_frame _).trans
    (((builderTakes_ordinary_frame rfl none _).mono (by decide)).trans (forward_frame _ _))) (refl _ _)

/-- What the LOSS mark of a closed interval leaves, where a part has come to it with the same marks, port, lots, run count
and profile (R34, R46, R67). -/
theorem raiseLoss_after {i : LossInterval} {low high : Nat} {s t : State}
    (before : SameOutside [.feeds, .builder, .link] s t) (from_low : i.low = low) (closed : i.high = some high) :
    (s.profile.forwarding = false → (raiseLoss i t).marks = s.marks ∧ (raiseLoss i t).port = s.port) ∧
      (s.profile.forwarding = true → s.port.own.length < 4 → forwardedOwn (lossNotice s low high) s (raiseLoss i t)) := by
  have port : t.port = s.port := before .port (by decide)
  have marks : t.marks = s.marks := before .marks (by decide)
  have profile : t.profile = s.profile := before .profile (by decide)
  refine ⟨fun off => ?_, fun on room => ?_⟩
  · rw [raiseLoss_off (profile ▸ off)]
    exact ⟨marks, port⟩
  · have notice : lossNotice t low high = lossNotice s low high := lossNotice_congr low high (before .length (by decide))
      profile (before .lots (by decide)) (congrArg BusPort.serialCounter port) marks
    rw [← notice, ← from_low]
    exact forwardedOwn_congr (raiseLoss_forwards closed (profile ▸ on) (port ▸ room)) port marks

/-- A notice of a LOST feed is as good as a finding: the entry apart, the part is as the finding leaves it. -/
theorem feedHears_lost {i : Nat} {e : FeedEntry} {s : State} (entry : s.feeds.table[i]? = some e) (lost : e.state = .lost) :
    (feedHears i e s).feeds = { (feedFound i e s).feeds with table := s.feeds.table.set i (heardEntry s e) } ∧
      SameOutside [.feeds] (feedFound i e s) (feedHears i e s) := by
  have found := feedFound_entry i e s
  rw [modify_eq_set entry] at found
  rw [feedHears, if_pos lost]
  refine ⟨?_, changeFeed_frame _ _ _⟩
  rw [changeFeed, State.withFeeds_feeds, found, modify_eq_set (getElem?_set_of_entry entry _), List.set_set, heardEntry, if_pos lost]

theorem foundAgain_frame (i high : Nat) (e : FeedEntry) (s : State) : SameOutside [.feeds, .link] s (foundAgain i high e s) :=
  (latch_frame .feedFound s (bs := [.feeds, .link])).trans (mono (bs := [.feeds]) (withFeeds _ _) (by decide))

/-- A feed found: its OPEN interval closes, its LOSS mark going to the line bus while forwarding is on (R56, R67). -/
theorem feedFound_closes {i : Nat} {e : FeedEntry} {lost : LossInterval} {s : State} (fits : FeedsFit s.feeds)
    (entry : s.feeds.table[i]? = some e) (mem : lost ∈ s.feeds.losses) (opened : lost.high = none) (tied : lost.feed = some i) :
    (∀ j ∈ (feedFound i e s).feeds.losses, j.high = none → j.feed ≠ some i) ∧
      Covers (feedFound i e s).feeds.losses lost.low (max lost.low (min (s.length.runCount + e.reach) maxCount)) ∧
      (s.profile.forwarding = false → (feedFound i e s).marks = s.marks ∧ (feedFound i e s).port = s.port) ∧
      (s.profile.forwarding = true → s.port.own.length < 4 →
        forwardedOwn (lossNotice s lost.low (max lost.low (min (s.length.runCount + e.reach) maxCount))) s (feedFound i e s)) ∧
      SameOutside [.feeds, .marks, .builder, .port, .link] s (feedFound i e s) := by
  obtain ⟨-, listed⟩ := (feedsFit_iff _).1 fits
  have found := find?_isOpenOf listed mem opened tied
  rw [feedFound_eq entry found]
  generalize min (s.length.runCount + e.reach) maxCount = high
  have before := ((foundAgain_frame i high e s).mono (show Within _ [.feeds, .builder, .link] by decide)).trans
    (offerBuilder_frame { lost with high := some (max lost.low high) } _)
  have losses : (offerBuilder { lost with high := some (max lost.low high) } (foundAgain i high e s)).feeds.losses =
      closeOpen i high s.feeds.losses :=
    congrArg FeedUnit.losses
      ((offerBuilder_frame { lost with high := some (max lost.low high) } _ (bs := [.builder])) .feeds (by decide))
  obtain ⟨off, on⟩ := raiseLoss_after (i := { lost with high := some (max lost.low high) }) before rfl rfl
  rw [raiseLoss_feeds, losses]
  exact ⟨closeOpen_none_left listed i high, closeOpen_covers found, off, on,
    (before.mono (by decide)).trans (raiseLoss_own_frame _ _)⟩

/-- The condition that says so stays latched (R56, R151). -/
theorem feedFound_latches (i : Nat) (e : FeedEntry) (s : State) :
    hasCondition .feedFound (feedFound i e s).link.latched = true := by
  have closes (high : Nat) (t : State) (latched : hasCondition .feedFound t.link.latched = true) :
      hasCondition .feedFound (closeInterval i high t).link.latched = true := by
    unfold closeInterval
    split
    · exact ((offerBuilder_evolves _ _).trans (raiseLoss_evolves _ _)).latchedStays _ latched
    · exact latched
  exact closes _ _ (latch_latches _ _)

theorem takeFrame_release {f : RxFrame} {i : Nat} {e : FeedEntry} {s : State} (release : readPayload f.kindCode f.payload = .release)
    (sender : feedOf s f.station = some i) (entry : s.feeds.table[i]? = some e) :
    takeFrame f s = feedHears i e (holderReleases f.station s) := by
  rw [takeFrame, release, holdUnitTakes, feedUnitTakes, show feedOf (holderReleases f.station s) f.station = some i from sender]
  dsimp only
  rw [feedTakes, show (holderReleases f.station s).feeds.table[i]? = some e from entry]

/-- Settles O27: the RELEASE takes its sender off the holder list, and finds the feed. -/
theorem noticeFindsALostFeed : Obligations.NoticeFindsALostFeed := by
  intro early bits s f i e lost law hears release sender entry isLost mem opened tied
  obtain ⟨-, -, fits⟩ := (lossLaw_iff s).1 law
  obtain ⟨u, is, released⟩ : ∃ u, u = holderReleases f.station (s.withPort (portAfterGood s bits)) ∧
      SameOutside [.hold, .port] s u :=
    ⟨_, rfl, (mono (bs := [.port]) (withPort s _) (by decide)).trans (holderReleases_frame _ _)⟩
  have port : u.port = portAfterGood s bits := by rw [is]; rfl
  have feeds : u.feeds = s.feeds := released .feeds (by decide)
  have marks : u.marks = s.marks := released .marks (by decide)
  have length : u.length = s.length := released .length (by decide)
  have now : u.now = s.now := released .now (by decide)
  have profile : u.profile = s.profile := released .profile (by decide)
  have own : u.port.own = s.port.own := by rw [port]; rfl
  have entry' : u.feeds.table[i]? = some e := feeds ▸ entry
  obtain ⟨noneLeft, covers, off, on, frame⟩ := feedFound_closes (feeds ▸ fits) entry' (feeds ▸ mem) opened tied
  obtain ⟨table, after⟩ := feedHears_lost entry' isLost
  have sameMarks : (feedHears i e u).marks = (feedFound i e u).marks := after .marks (by decide)
  have samePort : (feedHears i e u).port = (feedFound i e u).port := after .port (by decide)
  have sameLink : (feedHears i e u).link = (feedFound i e u).link := after .link (by decide)
  have heard : heardEntry u e = heardEntry s e := by rw [heardEntry, length, now, heardEntry]
  rw [length] at covers on
  refine ⟨feedHears i e u, ?_, ?_, ?_, ?_, ?_, ?_, ?_, ?_⟩
  · rw [exec_frameReceived_heard hears, takeFrame_release release (s := s.withPort (portAfterGood s bits)) sender entry, is]
  · rw [table, heard, feeds]
  · rw [sameLink]
    exact feedFound_latches i e u
  · rw [table]
    exact noneLeft
  · rw [table]
    exact covers
  · rw [sameMarks, samePort, ← marks, ← port, ← profile]
    exact off
  · intro forwarding room
    have forwarded := on (profile ▸ forwarding) (own ▸ room)
    rw [lossNotice_congr _ _ length profile (released .lots (by decide)) (by rw [port]; rfl) marks] at forwarded
    rw [forwardedOwn, sameMarks, samePort]
    exact forwardedOwn_congr (s := s.withPort (portAfterGood s bits)) forwarded port marks
  · exact (released.mono (by decide)).trans ((frame.mono (by decide)).trans (after.mono (by decide)))

/-! ## A gap in the serials (R60, R61) -/

/-- The serial check of a MARK notice whose serial shows a gap. -/
theorem serialCheck_gap {i serial stamp : Nat} {e : FeedEntry} {s : State} (gap : showsGap e serial = true)
    (entry : s.feeds.table[i]? = some e) : (serialCheck i e serial stamp s).feeds = { s.feeds with
      table := s.feeds.table.set i { e with expectedSerial := some (nextSerial8 serial), prevStamp := some stamp }
      losses := addClosed (gapInterval e stamp s.length.runCount) s.feeds.losses } ∧
      SameOutside [.feeds] (addInterval (gapInterval e stamp s.length.runCount) (latch .gap s)) (serialCheck i e serial stamp s) := by
  rw [serialCheck, if_pos gap]
  refine ⟨?_, changeFeed_frame _ _ _⟩
  rw [changeFeed, State.withFeeds_feeds, addInterval_losses rfl]
  dsimp only
  rw [show (latch .gap s).feeds = s.feeds from rfl, modify_eq_set entry]

theorem takeFrame_mark {f : RxFrame} {i : Nat} {e : FeedEntry} {m : MarkPayload} {s : State}
    (mark : readPayload f.kindCode f.payload = .mark m) (sender : feedOf s f.station = some i)
    (entry : s.feeds.table[i]? = some e) (found : e.state ≠ .lost) : takeFrame f s =
      takeMark i (heardEntry s e) m f.stamp (serialCheck i (heardEntry s e) f.serial f.stamp
        (s.withFeeds { s.feeds with table := s.feeds.table.set i (heardEntry s e) })) := by
  rw [takeFrame, mark, holdUnitTakes, feedUnitTakes, sender]
  dsimp only
  rw [feedTakes, entry]
  dsimp only
  rw [feedHears_heard found entry]
  dsimp only [State.withFeeds_feeds]
  rw [getElem?_set_of_entry entry]

/-- What the LOSS mark of an interval that has been added leaves. -/
theorem addInterval_after {i : LossInterval} {low high : Nat} {s t : State}
    (before : SameOutside [.feeds, .builder, .link] s t) (from_low : i.low = low) (closed : i.high = some high) :
    (s.profile.forwarding = false → (addInterval i t).marks = s.marks ∧ (addInterval i t).port = s.port) ∧
      (s.profile.forwarding = true → s.port.own.length < 4 → forwardedOwn (lossNotice s low high) s (addInterval i t)) := by
  exact raiseLoss_after (before.trans (offerInterval_frame i t)) from_low closed

/-- The interval of a gap, by its two ends (R61). -/
theorem gapInterval_low {e : FeedEntry} {stamp count high low : Nat} (isHigh : high = min (count + e.reach) maxCount)
    (isLow : match e.prevStamp with
      | none => low = count
      | some prev =>
        let x := min ((count : Int) + (((prev : Int) - 262144 - stamp + e.path) * e.ratio + 32768) / 65536).toNat maxCount
        low = if high < x then count else x) : (gapInterval e stamp count).low = low := by
  rw [gapInterval]
  dsimp only
  cases prev : e.prevStamp with
  | none =>
    rw [prev] at isLow
    exact isLow.symm
  | some p =>
    rw [prev] at isLow
    dsimp only at isLow ⊢
    rw [isLow, ← isHigh, scale, lookback]
    rfl

theorem readable_of_unknown {m : MarkPayload} (unknown : 8 ≤ m.kindCode) : readable m = none := by
  have code : markKindOf m.kindCode = none := by
    obtain ⟨n, is⟩ : ∃ n, m.kindCode = n + 8 := ⟨m.kindCode - 8, by omega⟩
    rw [is]
    rfl
  rw [readable, code]

/-- Settles O29: the entry is heard, the gap shown, and the mark only counted. -/
theorem serialGapCoversTheLostStretch : Obligations.SerialGapCoversTheLostStretch := by
  intro early bits s f i e m expected high low law hears mark sender entry found expects shows unreadable room isHigh isLow
  have gap : showsGap (heardEntry s e) f.serial = true := by
    rw [showsGap, heardEntry, if_neg found, expects]
    simpa using shows
  have from_low : (gapInterval (heardEntry s e) f.stamp s.length.runCount).low = low := gapInterval_low isHigh isLow
  have to_high : (gapInterval (heardEntry s e) f.stamp s.length.runCount).high = some high := congrArg some isHigh.symm
  obtain ⟨u, is, heard⟩ : ∃ u, u = (s.withPort (portAfterGood s bits)).withFeeds
      { s.feeds with table := s.feeds.table.set i (heardEntry s e) } ∧ SameOutside [.feeds] (s.withPort (portAfterGood s bits)) u :=
    ⟨_, rfl, withFeeds _ _⟩
  have feeds : u.feeds = { s.feeds with table := s.feeds.table.set i (heardEntry s e) } := by rw [is]; rfl
  have entry' : u.feeds.table[i]? = some (heardEntry s e) := by rw [feeds]; exact getElem?_set_of_entry entry _
  have length : u.length = s.length := heard .length (by decide)
  have port : u.port = portAfterGood s bits := heard .port (by decide)
  have marks : u.marks = s.marks := heard .marks (by decide)
  obtain ⟨checked, after⟩ := serialCheck_gap (stamp := f.stamp) gap entry'
  have gapped : SameOutside [.feeds, .builder, .link] u (latch .gap u) := latch_frame _ _
  rw [length, feeds] at checked
  rw [length] at after
  obtain ⟨off, on⟩ := addInterval_after gapped from_low to_high
  obtain ⟨v, v_is⟩ : ∃ v, v = serialCheck i (heardEntry s e) f.serial f.stamp u := ⟨_, rfl⟩
  rw [← v_is] at checked after
  have counted : takeFrame f (s.withPort (portAfterGood s bits)) =
      v.withFeeds { v.feeds with badMarks := tally v.feeds.badMarks } := by
    rw [takeFrame_mark (s := s.withPort (portAfterGood s bits)) mark sender entry found, takeMark, readable_of_unknown unreadable, v_is, is]
    rfl
  have sameMarks : v.marks = (addInterval (gapInterval (heardEntry s e) f.stamp s.length.runCount) (latch .gap u)).marks :=
    after .marks (by decide)
  have samePort : v.port = (addInterval (gapInterval (heardEntry s e) f.stamp s.length.runCount) (latch .gap u)).port :=
    after .port (by decide)
  refine ⟨v.withFeeds { v.feeds with badMarks := tally v.feeds.badMarks }, ?_, ?_, ?_, ?_, ?_, ?_, ?_, ?_⟩
  · rw [exec_frameReceived_heard hears, counted]
  · change hasCondition .gap v.link.latched = true
    rw [show v.link = _ from after .link (by decide)]
    exact (addInterval_path (bounded := False) (scope := .growing) _ rfl nofun nofun).latchedStays rfl _ (latch_latches _ _)
  · change v.feeds.table = _
    rw [checked]
    exact List.set_set _
  · change tally v.feeds.badMarks = _
    rw [checked]
    rfl
  · change Covers v.feeds.losses low high
    rw [checked]
    have covers := addClosed_covers (i := gapInterval (heardEntry s e) f.stamp s.length.runCount) rfl room
    rw [from_low, highOf_eq to_high] at covers
    exact covers
  · intro forwarding
    have same := off (by rw [show u.profile = s.profile from heard .profile (by decide)]; exact forwarding)
    rw [← marks, ← port]
    exact ⟨sameMarks.trans same.1, samePort.trans same.2⟩
  · intro forwarding own
    have forwarded := on (by rw [show u.profile = s.profile from heard .profile (by decide)]; exact forwarding) (by rw [port]; exact own)
    rw [lossNotice_congr low high length (heard .profile (by decide)) (heard .lots (by decide)) (by rw [port]; rfl) marks] at forwarded
    change (v.marks = _ ∧ v.port = _)
    rw [sameMarks, samePort]
    exact forwardedOwn_congr (s := s.withPort (portAfterGood s bits)) forwarded port marks
  · have raised : SameOutside [.feeds, .marks, .builder, .port, .link] (latch .gap u)
        (addInterval (gapInterval (heardEntry s e) f.stamp s.length.runCount) (latch .gap u)) :=
      (offerInterval_frame _ _).trans (raiseLoss_own_frame _ _)
    exact (mono (bs := [.port]) (withPort s _) (by decide)).trans ((heard.mono (by decide)).trans ((gapped.mono (by decide)).trans
      (raised.trans ((after.mono (by decide)).trans (mono (bs := [.feeds]) (withFeeds _ _) (by decide))))))

end Sys2Proof.Machine
end

section
/-! PROOFS. What the entry to RUNNING leaves in every block (11.4): O8. -/

namespace Sys2Proof.Machine

-- One theorem after another: side by side they need more threads than the memory of the check allows.
set_option Elab.async false

open SameOutside

/-! ## Operations on one input after another (R19, R27) -/

/-- Another part, the sense unit apart, in which an input stands as it does in this one. -/
def AlikeAt (j : Nat) (s u : State) : Prop :=
  SameOutside [.sense] s u ∧ u.sense.inputs.length = s.sense.inputs.length ∧ senseInput u j = senseInput s j

/-- An operation on one input changes nothing but that input. -/
def OnOneInput (f : Nat → State → State) : Prop :=
  ∀ i u, i < u.sense.inputs.length → SameOutside [.sense] u (f i u) ∧ (f i u).sense.inputs.length = u.sense.inputs.length ∧
    ∀ j, j ≠ i → senseInput (f i u) j = senseInput u j

/-- An operation on the first inputs, one after another: each finds its own input as it was. -/
theorem foldl_inputs {f : Nat → State → State} (one : OnOneInput f) (s : State) : ∀ n ≤ s.sense.inputs.length,
    (∀ j, AlikeAt j s ((List.range n).foldl (fun u i => f i u) s) ∨ j < n) ∧
      SameOutside [.sense] s ((List.range n).foldl (fun u i => f i u) s) ∧
      ((List.range n).foldl (fun u i => f i u) s).sense.inputs.length = s.sense.inputs.length ∧
      ∀ j < n, ∃ u, AlikeAt j s u ∧ senseInput ((List.range n).foldl (fun u i => f i u) s) j = senseInput (f j u) j
  | 0, _ => ⟨fun _ => .inl ⟨refl _ _, rfl, rfl⟩, refl _ _, rfl, fun _ below => absurd below (Nat.not_lt_zero _)⟩
  | n + 1, within => by
    obtain ⟨untouched, same, length, done⟩ := foldl_inputs one s n (Nat.le_of_succ_le within)
    rw [List.range_succ, List.foldl_append, List.foldl_cons, List.foldl_nil]
    generalize (List.range n).foldl (fun u i => f i u) s = t at untouched same length done
    obtain ⟨frame, size, others⟩ := one n t (length ▸ within)
    refine ⟨fun j => ?_, same.trans frame, size.trans length, fun j below => ?_⟩
    · rcases Nat.lt_or_ge j (n + 1) with below | above
      · exact .inr below
      · refine .inl ⟨same.trans frame, size.trans length, ?_⟩
        rw [others j (by omega)]
        exact ((untouched j).resolve_right (by omega)).2.2
    · rcases Nat.lt_succ_iff_lt_or_eq.1 below with below | rfl
      · obtain ⟨u, alike, is⟩ := done j below
        exact ⟨u, alike, (others j (by omega)).trans is⟩
      · exact ⟨t, (untouched j).resolve_right (Nat.lt_irrefl _), rfl⟩

theorem inputEntry_one : OnOneInput inputEntry := by
  intro i u within
  refine ⟨inputEntry_frame i u, ?_⟩
  unfold inputEntry
  split
  · exact ⟨rfl, fun _ _ => rfl⟩
  · have changed (g : SenseInput → SenseInput) (v : State) (inside : i < v.sense.inputs.length) (j : Nat) (other : j ≠ i) :
        senseInput (changeInput i g v) j = senseInput v j := by rw [senseInput_changeInput i j g v inside, if_neg other]
    have size (g : SenseInput → SenseInput) (v : State) : (changeInput i g v).sense.inputs.length = v.sense.inputs.length :=
      List.length_set
    dsimp only
    split
    · refine ⟨(size _ _).trans (size _ _), fun j other => ?_⟩
      rw [openGauge, changed _ _ (by rw [size]; exact within) j other, changed _ _ within j other]
    · exact ⟨size _ _, changed _ _ within⟩

/-- Whether a used input's pin is at its active level: what opens the run of a GAUGE input at the entry (R24). -/
def gaugeAtEntry (s : State) (i : Nat) : Prop :=
  (assignment s.profile i).service = .gauge ∧
    (((assignment s.profile i).detection = .high ∧ pinLevel s i = true) ∨
      ((assignment s.profile i).detection = .low ∧ pinLevel s i = false))

theorem gaugeIsActive_iff {s t : State} {i : Nat} (profile : t.profile = s.profile)
    (level : (senseInput t i).filtered = some (pinLevel s i)) : gaugeIsActive t i = true ↔ gaugeAtEntry s i := by
  rw [gaugeIsActive, gaugeAtEntry, profile, level, Bool.and_eq_true, decide_eq_true_iff]
  cases (assignment s.profile i).detection <;> simp

/-- An input at the entry to RUNNING (R19, R24). -/
theorem senseInput_inputEntry {i : Nat} {s : State} (used : (assignment s.profile i).service ≠ .unused)
    (within : i < s.sense.inputs.length) (noRun : (senseInput s i).gauge = none) :
    (senseInput (inputEntry i s) i).filtered = some (pinLevel s i) ∧ (senseInput (inputEntry i s) i).pending = none ∧
      ((senseInput (inputEntry i s) i).gauge = some { start := s.length.runCount, byCap := false } ↔ gaugeAtEntry s i) := by
  rw [inputEntry, if_neg used]
  dsimp only
  have level := senseInput_changeInput i i (fun inp => { inp with filtered := some (pinLevel s i), pending := none }) s within
  have inside : i < (changeInput i (fun inp => { inp with filtered := some (pinLevel s i), pending := none }) s).sense.inputs.length :=
    within.trans_eq List.length_set.symm
  have length : (changeInput i (fun inp => { inp with filtered := some (pinLevel s i), pending := none }) s).length = s.length := rfl
  have profile : (changeInput i (fun inp => { inp with filtered := some (pinLevel s i), pending := none }) s).profile = s.profile := rfl
  rw [if_pos rfl] at level
  generalize changeInput i (fun inp => { inp with filtered := some (pinLevel s i), pending := none }) s = t at level inside length profile
  have active := gaugeIsActive_iff profile (by rw [level])
  by_cases opens : gaugeIsActive t i = true
  · rw [if_pos opens, openGauge, senseInput_changeInput i i _ t inside, if_pos rfl, level, length]
    exact ⟨rfl, rfl, iff_of_true rfl (active.1 opens)⟩
  · rw [if_neg opens, level]
    exact ⟨rfl, rfl, iff_of_false (by rw [noRun]; nofun) fun entered => opens (active.2 entered)⟩

/-- The inputs after the entry to RUNNING. -/
theorem senseEntry_inputs {s : State} (inputs : s.sense.inputs.length = 32) {i : Nat} (below : i < 32) :
    ((assignment s.profile i).service ≠ .unused → (senseInput s i).gauge = none →
      (senseInput (senseEntry s) i).filtered = some (pinLevel s i) ∧ (senseInput (senseEntry s) i).pending = none ∧
        ((senseInput (senseEntry s) i).gauge = some { start := s.length.runCount, byCap := false } ↔ gaugeAtEntry s i)) ∧
      ((assignment s.profile i).service = .unused → senseInput (senseEntry s) i = senseInput s i) := by
  obtain ⟨-, -, -, done⟩ := foldl_inputs inputEntry_one s 32 inputs.ge
  obtain ⟨u, ⟨same, size, alike⟩, is⟩ := done i below
  have profile : u.profile = s.profile := same .profile (by decide)
  have length : u.length = s.length := same .length (by decide)
  have pins : u.pins = s.pins := same .pins (by decide)
  have pin : pinLevel u i = pinLevel s i := by rw [pinLevel, pins, pinLevel]
  have entered : senseInput (senseEntry s) i = senseInput (inputEntry i u) i := by
    rw [← is, senseEntry]
    generalize (List.range 32).foldl (fun u i => inputEntry i u) s = t
    rfl
  rw [entered]
  refine ⟨fun used noRun => ?_, fun unused => ?_⟩
  · have := senseInput_inputEntry (profile ▸ used) (by rw [size, inputs]; exact below) (alike ▸ noRun)
    rw [length, pin] at this
    rw [show gaugeAtEntry u i ↔ gaugeAtEntry s i by rw [gaugeAtEntry, profile, pin, gaugeAtEntry]] at this
    exact this
  · rw [inputEntry, if_pos (profile ▸ unused), alike]

theorem senseEntry_spin (s : State) : (senseEntry s).sense.spinFiltered = some s.pins.spin ∧
    (senseEntry s).sense.spinPending = none := by
  have pins : ((List.range 32).foldl (fun u i => inputEntry i u) s).pins = s.pins :=
    (foldl_frame (bs := [.sense]) _ (fun t i => inputEntry_frame i t) (List.range 32) s) .pins (by decide)
  rw [senseEntry]
  generalize (List.range 32).foldl (fun u i => inputEntry i u) s = t at pins
  exact ⟨congrArg (fun p : Pins => some p.spin) pins, rfl⟩

/-! ## The monitors and TRIM (R73, R87) -/

/-- The lay monitor once it settles or is suspended, as the wire stands. -/
theorem settleByWire_lay {s : State} {w : LayWorkingSet} (working : s.lay.working = some w) :
    (settleByWire s).lay.working = some w ∧ (settleByWire s).lay.trimCorrection = s.lay.trimCorrection ∧
      (settleByWire s).lay.faultRun = s.lay.faultRun ∧ (settleByWire s).lay.settleCount = 0 ∧
      (s.hold.observed = .held → (settleByWire s).lay.state = .suspended ∧ (settleByWire s).lay.window = none) ∧
      (s.hold.observed = .running → 0 < w.settleTurns →
        (settleByWire s).lay.state = .settling ∧ (settleByWire s).lay.window = none) ∧
      (s.hold.observed = .running → w.settleTurns = 0 →
        (settleByWire s).lay.state = .measuring ∧
        (settleByWire s).lay.window = some { start := s.fullPosition, twists := 0 }) := by
  unfold settleByWire
  split
  · next running =>
    rw [enterSettling, working]
    dsimp only
    split
    · next none_to_settle =>
      exact ⟨working, rfl, rfl, rfl, fun held => absurd (running.symm.trans held) nofun,
        fun _ some_to_settle => absurd none_to_settle some_to_settle.ne', fun _ _ => ⟨rfl, rfl⟩⟩
    · next some_to_settle =>
      exact ⟨working, rfl, rfl, rfl, fun held => absurd (running.symm.trans held) nofun, fun _ _ => ⟨rfl, rfl⟩,
        fun _ none_to_settle => absurd none_to_settle some_to_settle⟩
  · next held =>
    exact ⟨working, rfl, rfl, rfl, fun _ => ⟨rfl, rfl⟩, fun running => absurd (held.symm.trans running) nofun,
      fun running => absurd (held.symm.trans running) nofun⟩

/-- TRIM's high time in the middle of its range, with no correction standing. -/
theorem trimHigh_uncorrected {s : State} (uncorrected : s.lay.trimCorrection = 0) : trimHigh s = 500 := by
  rw [trimHigh, uncorrected]
  split <;> rfl

/-! ## The coil builder (R139) -/

/-- A coil that opens at 0 with an empty plan, no marks waiting and no loss listed. -/
theorem builderEntry_fresh {s : State} (builder : s.builder = State.reset.builder) (losses : s.feeds.losses = [])
    (marks : s.marks.marks = []) (lot : s.lots.activeTag = 0) (building : s.profile.coilBuilding = true) :
    builderEntry s = latch .planExhausted (s.withBuilder { s.builder with
      state := .building, nextSerial := 2
      current := some { record := newCoil 1 0 0, entryRef := false, reading := readingOf s.effective } }) := by
  have number : s.builder.nextSerial = 1 := by rw [builder]; rfl
  have plan : s.builder.plan = [] := by rw [builder]; rfl
  have coil : openCoil 0 [] (s.withBuilder { s.builder with state := .building }) =
      cutTest (latch .planExhausted (s.withBuilder { s.builder with
        state := .building, nextSerial := 2
        current := some { record := newCoil 1 0 0, entryRef := false, reading := readingOf s.effective } })) := by
    rw [openCoil]
    dsimp only [State.withBuilder_builder, State.withBuilder_lots]
    rw [takeHead]
    dsimp only [State.withBuilder_builder, State.withBuilder_lots]
    rw [plan]
    dsimp only
    rw [number, lot]
    refine congrArg cutTest ?_
    rw [show ∀ (f : Coil → Coil) (t : State), (changeRecord f t).feeds = t.feeds from fun _ _ => rfl]
    rw [show ∀ (c : Condition) (t : State), (latch c t).feeds = t.feeds from fun _ _ => rfl, State.withBuilder_feeds,
      State.withBuilder_feeds, losses]
    rfl
  rw [builderEntry, if_pos building, coil]
  refine cutTest_ahead rfl ?_
  rintro (⟨p, planned, -⟩ | ⟨m, ⟨before, after, listed, -⟩, -⟩)
  · cases planned
  · rw [show ∀ (c : Condition) (t : State), (latch c t).marks = t.marks from fun _ _ => rfl, State.withBuilder_marks, marks] at listed
    simp at listed

/-! ## The entry to RUNNING (R173) -/

/-- The blocks of a part in OPEN whose fields the entry reads: each stands at its reset values. -/
theorem openLaw_blocks {s : State} (law : OpenLaw s) (opened : s.station = .openState) :
    s.length = State.reset.length ∧ s.sense = State.reset.sense ∧ s.marks = State.reset.marks ∧
      s.feeds = State.reset.feeds ∧ s.lay = State.reset.lay ∧ s.builder = State.reset.builder := by
  obtain ⟨length, sense, marks, feeds, lay, -, -, -, builder, -⟩ := law opened
  exact ⟨length, sense, marks, feeds, lay, builder⟩

/-- The lay monitor at the entry: it starts work only where the profile supervises the lay. -/
theorem layEntry_on {s : State} (on : s.profile.laySupervision = true) : layEntry s =
    settleByWire (changeLay (fun l => { l with
      working := some (layWorkingSet s.effective), trimCorrection := 0, window := none, faultRun := none
      settleCount := 0 }) s) := if_pos on

theorem layEntry_off {s : State} (off : s.profile.laySupervision = false) : layEntry s = s :=
  if_neg (Bool.eq_false_iff.1 off)

theorem layEntry_trimCorrection {s : State} (fresh : s.lay.trimCorrection = 0) : (layEntry s).lay.trimCorrection = 0 := by
  cases on : s.profile.laySupervision with
  | false => rw [layEntry_off on]; exact fresh
  | true =>
    rw [layEntry_on on]
    exact (settleByWire_lay (s := changeLay _ s) rfl).2.1

/-- The part once the feed table has started work (R3, R16, R52, R118). -/
theorem feedsEntry_blocks (s : State) :
    (feedsEntry (untilFeeds s)).length = { s.length with
      reference := if s.profile.source = .wheel then some (s.pins.wha, s.pins.whb) else none
      sampleBase := s.length.runCount, sampleDue := some (s.now + 10000) } ∧
    (feedsEntry (untilFeeds s)).lots = { s.lots with activeTag := 0, effective := some s.profile.base, unknown := false } ∧
    (feedsEntry (untilFeeds s)).sense = (senseEntry (lengthEntry (s.withStation .running))).sense ∧
    (feedsEntry (untilFeeds s)).feeds = { s.feeds with
      table := (feedsInUse s.profile).map fun c => { freshEntry c with silenceSince := some s.now } } := by
  have until_now := (SameOutside.withStation s .running (bs := [.station, .length])).trans (lengthEntry_frame _)
  have length : (lengthEntry (s.withStation .running)).length = { s.length with
      reference := if s.profile.source = .wheel then some (s.pins.wha, s.pins.whb) else none
      sampleBase := s.length.runCount, sampleDue := some (s.now + 10000) } := rfl
  rw [untilFeeds]
  generalize lengthEntry (s.withStation .running) = t at until_now length ⊢
  have entered := until_now.mono (show Within _ [.station, .length, .sense] by decide) |>.trans (senseEntry_frame t)
  have length : (senseEntry t).length = _ := ((senseEntry_frame t (bs := [.sense])) .length (by decide)).trans length
  generalize senseEntry t = u at entered length ⊢
  have lots : u.lots = s.lots := entered .lots (by decide)
  have profile : u.profile = s.profile := entered .profile (by decide)
  have feeds : u.feeds = s.feeds := entered .feeds (by decide)
  have now : u.now = s.now := entered .now (by decide)
  refine ⟨length, ?_, rfl, ?_⟩
  · rw [← lots, ← profile]
    rfl
  · rw [← feeds, ← profile, ← now]
    rfl

/-- The part at the coil builder: the monitors and TRIM have started work (R73, R87, R91). -/
theorem untilBuilder_blocks {s : State} (uncorrected : s.lay.trimCorrection = 0) :
    (untilBuilder s).trim = { periodStart := some s.now, highTime := 500, level := true } ∧
      (untilBuilder s).lay = (layEntry s).lay ∧
      (s.profile.knotSupervision = false → (untilBuilder s).knot = s.knot) ∧
      (s.profile.knotSupervision = true → (untilBuilder s).knot = { s.knot with
        state := .firstRow, cause := .start, sections := sectionTable s.profile.inputs
        working := some (knotWorkingSet s.effective) }) := by
  have entered := layEntry_frame s (bs := [.lay])
  have trim := trimHigh_uncorrected (layEntry_trimCorrection uncorrected)
  rw [untilBuilder]
  generalize layEntry s = t at entered trim ⊢
  have profile : t.profile = s.profile := entered .profile (by decide)
  have effective : t.effective = s.effective := by
    rw [State.effective, profile, show t.lots = s.lots from entered .lots (by decide), State.effective]
  have knot : t.knot = s.knot := entered .knot (by decide)
  have periods : startTrimPeriod s.now t = t.withTrim { periodStart := some s.now, highTime := 500, level := true } := by
    rw [startTrimPeriod, trim]
  rw [periods, knotEntry, State.withTrim_profile, profile]
  cases s.profile.knotSupervision with
  | false => exact ⟨rfl, rfl, fun _ => knot, nofun⟩
  | true =>
    refine ⟨rfl, rfl, nofun, fun _ => ?_⟩
    rw [← effective, ← knot, ← profile]
    rfl

/-- The part as it starts to build coils, or not (R139). -/
theorem builderEntry_blocks {s : State} (builder : s.builder = State.reset.builder) (losses : s.feeds.losses = [])
    (marks : s.marks.marks = []) (lot : s.lots.activeTag = 0) : SameOutside [.builder, .link] s (builderEntry s) ∧
      (s.profile.coilBuilding = false → (builderEntry s).builder = s.builder ∧ (builderEntry s).link.latched = s.link.latched) ∧
      (s.profile.coilBuilding = true → (builderEntry s).builder = { s.builder with
          state := .building, nextSerial := 2
          current := some { record := newCoil 1 0 0, entryRef := false, reading := readingOf s.effective } } ∧
        (builderEntry s).link.latched = s.link.latched ||| oneCondition .planExhausted) ∧
      (builderEntry s).link = { s.link with latched := (builderEntry s).link.latched } := by
  cases building : s.profile.coilBuilding with
  | false =>
    rw [show builderEntry s = s from if_neg (Bool.eq_false_iff.1 building)]
    exact ⟨refl _ _, fun _ => ⟨rfl, rfl⟩, nofun, rfl⟩
  | true =>
    rw [builderEntry_fresh builder losses marks lot building]
    exact ⟨(withBuilder s _).trans (latch_frame _ _), nofun, fun _ => ⟨rfl, rfl⟩, rfl⟩

/-- Settles O8: every block is as its own part of the entry leaves it. -/
theorem profileCloseStartsEveryBlock : Obligations.ProfileCloseStartsEveryBlock := by
  intro fill s law places opened passed
  obtain ⟨length, sense, marks, feeds, lay, builder⟩ := openLaw_blocks law opened
  obtain ⟨-, inputs, -⟩ := places
  refine ⟨_, exec_profileClose_passed fill opened passed, (finishFrame_station _ _ _).trans (enterRunning_station s), ?_⟩
  simp only [finishFrame_length, senseInput, finishFrame_sense, finishFrame_lots, finishFrame_feeds, finishFrame_trim,
    finishFrame_lay, finishFrame_knot, finishFrame_builder, finishFrame_latched, finishFrame_port]
  -- The part as the feed table starts work, and what it has from before.
  have untilTable : SameOutside [.station, .length, .sense, .lots, .feeds] s (feedsEntry (untilFeeds s)) :=
    ((untilFeeds_frame s).mono (by decide)).trans (feedsEntry_frame _)
  obtain ⟨lengths, lots, senses, table⟩ := feedsEntry_blocks s
  have atZero : s.length.runCount = 0 := by rw [length]; rfl
  rw [atZero] at lengths
  rw [enterRunning_eq]
  generalize feedsEntry (untilFeeds s) = v at untilTable table lengths lots senses ⊢
  have profile : v.profile = s.profile := untilTable .profile (by decide)
  have now : v.now = s.now := untilTable .now (by decide)
  have knot : v.knot = s.knot := untilTable .knot (by decide)
  have vlay : v.lay = s.lay := untilTable .lay (by decide)
  have effective : v.effective = s.profile.base := by rw [State.effective, lots]; rfl
  have monitors := untilBuilder_frame v
  obtain ⟨trim, lays, knotOff, knotOn⟩ := untilBuilder_blocks (s := v) (by rw [vlay, lay]; rfl)
  rw [now] at trim
  rw [profile, knot] at knotOff
  rw [profile, knot, effective] at knotOn
  generalize untilBuilder v = w at monitors trim lays knotOff knotOn ⊢
  have untilCoil : SameOutside [.station, .length, .sense, .lots, .feeds, .lay, .trim, .knot] s w :=
    (untilTable.mono (by decide)).trans (monitors.mono (by decide))
  have wfeeds : w.feeds = _ := (monitors .feeds (by decide)).trans table
  have wlots : w.lots = _ := (monitors .lots (by decide)).trans lots
  have wprofile : w.profile = s.profile := untilCoil .profile (by decide)
  have wbuilder : w.builder = s.builder := untilCoil .builder (by decide)
  have wlink : w.link = s.link := untilCoil .link (by decide)
  have wport : w.port = s.port := untilCoil .port (by decide)
  have weffective : w.effective = s.profile.base := by rw [State.effective, wlots]; rfl
  obtain ⟨coil, off, on, link⟩ := builderEntry_blocks (s := w) (wbuilder.trans builder) (by rw [wfeeds, feeds]; rfl)
    (by rw [show w.marks = s.marks from untilCoil .marks (by decide), marks]; rfl) (by rw [wlots])
  rw [wprofile, wbuilder, wlink] at off
  rw [wprofile, wbuilder, wlink, weffective] at on
  generalize builderEntry w = x at coil off on link ⊢
  have senseV : x.sense = v.sense := (coil .sense (by decide)).trans (monitors .sense (by decide))
  have atStart : (lengthEntry (s.withStation .running)).length.runCount = 0 := atZero
  have noRun (i : Nat) : (senseInput s i).gauge = none := by
    rw [senseInput, sense]
    rcases Nat.lt_or_ge i 32 with within | beyond
    · exact congrArg SenseInput.gauge (List.getD_replicate _ within)
    · rw [List.getD_eq_default _ _ (by rw [show State.reset.sense.inputs.length = 32 from rfl]; exact beyond)]
      rfl
  refine ⟨?_, fun i below used => ?_, fun i below unused => ?_, ?_, ?_, ?_, ?_, ?_, ?_, ?_, ?_, ?_, ?_, ?_, ?_, ?_, ?_, ?_⟩
  · exact ((coil .length (by decide)).trans (monitors .length (by decide))).trans lengths
  · change (senseInput x i).filtered = _ ∧ (senseInput x i).pending = none ∧ ((senseInput x i).gauge = _ ↔ _)
    have entered := (senseEntry_inputs (s := lengthEntry (s.withStation .running)) inputs below).1 used (noRun i)
    rw [atStart] at entered
    rw [senseInput, senseV, senses]
    exact entered
  · change senseInput x i = senseInput s i
    rw [senseInput, senseV, senses]
    exact (senseEntry_inputs (s := lengthEntry (s.withStation .running)) inputs below).2 unused
  · exact (congrArg SenseUnit.spinFiltered (senseV.trans senses)).trans (senseEntry_spin _).1
  · exact (congrArg SenseUnit.spinPending (senseV.trans senses)).trans (senseEntry_spin _).2
  · exact (coil .lots (by decide)).trans wlots
  · exact congrArg FeedUnit.table ((coil .feeds (by decide)).trans wfeeds)
  · change x.feeds = { s.feeds with table := x.feeds.table }
    rw [show x.feeds = _ from (coil .feeds (by decide)).trans wfeeds]
  · exact (coil .trim (by decide)).trans trim
  · intro off
    exact ((coil .lay (by decide)).trans lays).trans ((congrArg State.lay (layEntry_off (profile ▸ off))).trans vlay)
  · intro on
    have lay' : (portEntry x).lay = (layEntry v).lay := (coil .lay (by decide)).trans lays
    rw [lay', layEntry_on (profile ▸ on)]
    have hold : v.hold = s.hold := untilTable .hold (by decide)
    have started := settleByWire_lay (s := changeLay (fun l => { l with
      working := some (layWorkingSet v.effective), trimCorrection := 0, window := none, faultRun := none
      settleCount := 0 }) v) rfl
    have position : v.fullPosition = 0 := by
      rw [State.fullPosition, lengths]
      change s.length.runCount * 65536 + s.length.fraction = 0
      rw [length]
      rfl
    rw [show (changeLay _ v).hold = v.hold from rfl, hold, effective, show (changeLay _ v).fullPosition = v.fullPosition from rfl,
      position] at started
    obtain ⟨working, trimmed, run, count, held, settling, measuring⟩ := started
    rw [effective]
    exact ⟨working, trimmed, run, count, held, settling, measuring⟩
  · intro off
    exact (coil .knot (by decide)).trans (knotOff off)
  · intro on
    exact (coil .knot (by decide)).trans (knotOn on)
  · exact off
  · exact on
  · change { x.port with state := .listen, positionSince := some x.now, noFrameYet := true } = _
    rw [show x.port = s.port from (coil .port (by decide)).trans wport,
      show x.now = s.now from (coil .now (by decide)).trans (untilCoil .now (by decide))]
  · have entered : SameOutside [.station, .length, .sense, .feeds, .lay, .trim, .knot, .lots, .builder, .port, .link] s
        (portEntry x) := (untilCoil.mono (by decide)).trans ((coil.mono (by decide)).trans (portEntry_frame x))
    exact sameOutside_finishFrame _ _ entered
  · exact replies_finishFrame _ _ (link.trans (by rw [wlink]; rfl))

end Sys2Proof.Machine
end

section
/-! PROOFS. What a LOT_CHANGE that fires does to the lot unit and the monitors (7.3, 7.4), and LOT START: O32. -/

namespace Sys2Proof.Machine

-- One theorem after another: side by side they need more threads than the memory of the check allows.
set_option Elab.async false

open SameOutside

/-! ## An activation (R85, R102, R114) -/

theorem enterSettling_lay {s : State} {w : LayWorkingSet} (working : s.lay.working = some w) :
    (enterSettling s).lay.working = some w ∧ (enterSettling s).lay.trimCorrection = s.lay.trimCorrection ∧
      (enterSettling s).lay.faultRun = s.lay.faultRun := by
  rw [enterSettling, working]
  dsimp only
  split <;> exact ⟨working, rfl, rfl⟩

theorem measureAtActivation_lay (old new : Nat) (s : State) :
    (measureAtActivation old new s).lay = { s.lay with faultRun := none } := by
  unfold measureAtActivation
  split <;> exact measureLayRun_lay _ _

/-- An activation measures the lay monitor's fault run, and its working set is the effective set's. -/
theorem layActivation_lay {s : State} (on : s.lay.state ≠ .off) :
    (layActivation s).lay.working = some (layWorkingSet s.effective) ∧ (layActivation s).lay.trimCorrection = 0 ∧
      (layActivation s).lay.faultRun = none := by
  rw [layActivation, if_neg on]
  dsimp only
  have measured := measureAtActivation_lay (faultWindowsOf s.lay.working) (layWorkingSet s.effective).faultWindows
    (changeLay (fun l => { l with working := some (layWorkingSet s.effective), trimCorrection := 0, window := none }) s)
  generalize measureAtActivation _ _ _ = t at measured ⊢
  have working : t.lay.working = some (layWorkingSet s.effective) := by rw [measured]; rfl
  have trim : t.lay.trimCorrection = 0 := by rw [measured]; rfl
  have run : t.lay.faultRun = none := by rw [measured]
  split
  · exact ⟨working, trim, run⟩
  · obtain ⟨settled, corrected, ended⟩ := enterSettling_lay working
    exact ⟨settled, corrected.trans trim, ended.trans run⟩

/-- An activation ends the knot monitor's fault run, and a settling row begins (R102). -/
theorem knotActivation_knot {s : State} (on : s.knot.state ≠ .off) :
    (knotActivation s).knot.state = .firstRow ∧ (knotActivation s).knot.cause = .lot ∧
      (knotActivation s).knot.faultRun = none ∧ (knotActivation s).knot.working = some (knotWorkingSet s.effective) := by
  rw [knotActivation, if_neg on, changeKnot, State.withKnot_knot, closeKnotRun_knot]
  exact ⟨rfl, rfl, rfl, rfl⟩

/-- What an activation leaves of the monitors that are at work. -/
structure Activated (set : Params Nat) (s t : State) : Prop where
  lay : s.lay.state ≠ .off → t.lay.working = some (layWorkingSet set) ∧ t.lay.trimCorrection = 0 ∧ t.lay.faultRun = none
  knot : s.knot.state ≠ .off → t.knot.state = .firstRow ∧ t.knot.cause = .lot ∧ t.knot.faultRun = none ∧
    t.knot.working = some (knotWorkingSet set)

theorem offerActivation_activated (s : State) : Activated s.effective s (offerActivation s) := by
  have first := layActivation_frame s (bs := .orders :: layBlocks)
  have second := knotActivation_frame (layActivation s) (bs := knotBlocks)
  have knot : (layActivation s).knot = s.knot := first .knot (by decide)
  have effective : (layActivation s).effective = s.effective := by
    rw [State.effective, first .lots (by decide), first .profile (by decide), State.effective]
  refine ⟨fun on => ?_, fun on => ?_⟩
  · rw [offerActivation, second .lay (by decide)]
    exact layActivation_lay on
  · rw [← effective]
    exact knotActivation_knot (by rw [knot]; exact on)

/-- No LOT_CHANGE waits in a part that did not wait in another. -/
def GainsNoLot (s t : State) : Prop := ∀ w ∈ t.marks.marks, w.kind = .lotChange → w ∈ s.marks.marks

namespace GainsNoLot

theorem of_marks {s t : State} (marks : t.marks = s.marks) : GainsNoLot s t := fun _ hw _ => marks ▸ hw

theorem trans {s t u : State} (a : GainsNoLot s t) (b : GainsNoLot t u) : GainsNoLot s u :=
  fun w hw kind => a w (b w hw kind) kind

theorem raiseMark {r : Raising} (ordinary : r.kind ≠ .lotChange) (s : State) : GainsNoLot s (raiseMark r s) :=
  fun _ hw kind => (raiseMark_waiting hw).resolve_right fun same => ordinary (same.symm.trans kind)

theorem measureLayRun (k : Nat) (s : State) : GainsNoLot s (measureLayRun k s) := by
  unfold Machine.measureLayRun
  split
  · next run _ =>
    split
    · exact trans (of_marks rfl) (raiseMark (r := layFault run s.length.runCount) (nofun : MarkKind.layFault ≠ .lotChange) (endLayRun s))
    · exact of_marks rfl
  · exact of_marks rfl

theorem measureAtActivation (old new : Nat) (s : State) : GainsNoLot s (measureAtActivation old new s) := by
  unfold Machine.measureAtActivation
  split
  · exact trans (of_marks rfl) (measureLayRun _ s.useOrder)
  · exact measureLayRun new s

theorem layActivation (s : State) : GainsNoLot s (layActivation s) := by
  unfold Machine.layActivation
  split
  · exact of_marks rfl
  · dsimp only
    refine trans (measureAtActivation (faultWindowsOf s.lay.working) (layWorkingSet s.effective).faultWindows
      (changeLay (fun l => { l with working := some (layWorkingSet s.effective), trimCorrection := 0, window := none }) s)) ?_
    split
    · exact of_marks rfl
    · exact of_marks ((enterSettling_frame _ (bs := [.lay])) .marks (by decide))

theorem closeKnotRun (s : State) : GainsNoLot s (closeKnotRun s) :=
  fun _ hw kind => (closeKnotRun_waiting hw).resolve_right fun same => absurd (same.symm.trans kind) nofun

theorem knotActivation (s : State) : GainsNoLot s (knotActivation s) := by
  unfold Machine.knotActivation
  split
  · exact of_marks rfl
  · exact trans (closeKnotRun (changeKnot _ s)) (of_marks rfl)

theorem rebuild (r : LotRecord) (s : State) : GainsNoLot s (rebuild r s) :=
  trans (layActivation (s.withLots { s.lots with effective := some (completeRecord r s.profile.base), unknown := false }))
    (knotActivation _)

theorem lotChange (tag : Nat) (s : State) : GainsNoLot s (lotChange tag s) := by
  unfold Machine.lotChange
  split
  · exact of_marks rfl
  · split
    · next r _ => exact trans (of_marks (s := s) rfl) (rebuild r (s.withLots { s.lots with activeTag := tag }))
    · exact of_marks rfl

end GainsNoLot

theorem offerActivation_lots (s : State) : (offerActivation s).lots = s.lots :=
  ((layActivation_frame s (bs := .knot :: .orders :: layBlocks)).trans (knotActivation_frame _)) .lots (by decide)

theorem rebuild_lots (r : LotRecord) (s : State) : (rebuild r s).lots =
    { s.lots with effective := some (completeRecord r s.profile.base), unknown := false } := by
  rw [rebuild, offerActivation_lots]
  rfl

theorem rebuild_activated (r : LotRecord) (s : State) : Activated (completeRecord r s.profile.base) s (rebuild r s) := by
  obtain ⟨lay, knot⟩ := offerActivation_activated
    (s.withLots { s.lots with effective := some (completeRecord r s.profile.base), unknown := false })
  exact ⟨lay, knot⟩

/-! ## A fired LOT_CHANGE (R113 to R115) -/

theorem lotChange_held {tag : Nat} {r : LotRecord} {s : State} (other : tag ≠ s.lots.activeTag)
    (held : heldRecord s.lots.table tag = some r) : lotChange tag s = rebuild r (s.withLots { s.lots with activeTag := tag }) := by
  rw [lotChange, if_neg other, held]

theorem lotChange_unknown {tag : Nat} {s : State} (other : tag ≠ s.lots.activeTag)
    (absent : heldRecord s.lots.table tag = none) :
    lotChange tag s = latch .lotUnknown (s.withLots { s.lots with activeTag := tag, unknown := true }) := by
  rw [lotChange, if_neg other, absent]

theorem lotChange_lots {m : Mark} {s : State} (kind : m.kind = .lotChange) :
    (lotChange m.lotTag s).lots = lotsAfter s.profile.base s.lots m := by
  rw [lotsAfter]
  by_cases active : m.lotTag = s.lots.activeTag
  · rw [if_pos (.inr active), lotChange, if_pos active]
  · rw [if_neg (by simp [kind, active])]
    cases held : heldRecord s.lots.table m.lotTag with
    | some r =>
      rw [lotChange_held active held, rebuild_lots, show s.lots.table.find? _ = some r from held]
      rfl
    | none =>
      rw [lotChange_unknown active held, show s.lots.table.find? _ = none from held]
      rfl

theorem fireMark_lotChange {m : Mark} (s : State) (kind : m.kind = .lotChange) :
    fireMark m s = forward m (builderTakes m (some (lotAnswer s m.lotTag)) (lotChange m.lotTag s)) := by
  rw [fireMark, kind]

/-- What follows the lot unit's part: the coil builder, then the line bus. -/
theorem fireMark_afterLots {m : Mark} (s : State) (kind : m.kind = .lotChange) :
    SameOutside [.builder, .hold, .port, .link] (lotChange m.lotTag s) (fireMark m s) := by
  rw [fireMark_lotChange s kind]
  exact (builderTakes_frame _ _ _).trans (forward_frame _ _)

/-! ## LOT START (R116) -/

/-- The LOT_CHANGE of a LOT START as it comes to the mark list. -/
def startMark (tag : Nat) (s : State) : Mark :=
  { position := s.length.runCount, kind := .lotChange, span := 0, lotTag := tag
    origin := { station := s.stationNumber, serial := s.marks.nextSerial }, detail := 0, hops := 0
    source := .here, flags := noFlags }

theorem completeMark_startRaising (tag : Nat) (s : State) : completeMark (startRaising tag s) s = startMark tag s := by
  have position : (startRaising tag s).position = s.length.runCount := rfl
  rw [completeMark_eq, lookBack_near _ _ (by rw [position]; omega), position]
  rfl

theorem exec_lotStart_refused {tag : Nat} {s : State} {code : ResultCode} (fill : Nat) (refused : startRefusal tag s = some code) :
    exec (.lotStart tag fill) s = .next (finishFrame (4 + fill) (bare code) s) := by
  change execLotStart tag fill s = _
  rw [execLotStart, refused]
  rfl

theorem exec_lotStart_taken {tag : Nat} {s : State} (fill : Nat) (taken : startRefusal tag s = none) :
    exec (.lotStart tag fill) s = .next (finishFrame (4 + fill) (done (be 2 s.marks.nextSerial ++ be 1 (startAnswer tag s)))
      (placeMark (startMark tag s) (takeSerial s))) := by
  change execLotStart tag fill s = _
  rw [execLotStart, taken, ← completeMark_startRaising]
  rfl

/-- A LOT_CHANGE at the run count removes the one of its lot that waits ahead (R37). -/
theorem mergedOut_ahead {m : Mark} {s : State} (ahead : Ahead s) (reached : m.position ≤ s.length.runCount) :
    mergedOut m s = sameLotWaiting m s := by
  rw [mergedOut]
  cases waiting : sameLotWaiting m s with
  | none => rfl
  | some w =>
    have higher := ahead w (sameLotWaiting_spec waiting).2.1
    rw [Option.filter_some, if_pos (decide_eq_true (by omega))]

/-- A LOT_CHANGE placed at the run count, no waiting mark having its identity, fires (R36, R38). -/
theorem placementOf_lotChange_fires {m : Mark} {s : State} (merged : mergedOut m s = sameLotWaiting m s)
    (fresh : ∀ w ∈ s.marks.marks, w.origin ≠ m.origin) (reached : m.position ≤ s.length.runCount) : placementOf m s = .fires := by
  have new : ¬isDuplicate m s = true := fun h => by
    obtain ⟨w, hw, e⟩ := (isDuplicate_iff m s).1 h
    exact fresh w hw e
  rw [placementOf, if_neg new, merged, if_pos reached]
  cases sameLotWaiting m s <;> rfl

theorem placeMark_lotChange {m : Mark} {s : State} (ahead : Ahead s) (fresh : ∀ w ∈ s.marks.marks, w.origin ≠ m.origin)
    (reached : m.position ≤ s.length.runCount) (kind : m.kind = .lotChange) :
    SameOutside [.builder, .hold, .port, .link] (lotChange m.lotTag (mergeOut m s)) (placeMark m s) := by
  rw [placeMark, placementOf_lotChange_fires (mergedOut_ahead ahead reached) fresh reached]
  dsimp only
  have fired := fireMark_afterLots (mergeOut m s) kind
  rw [offerMerge]
  exact ite (fired.trans (cutTest_frame _)) fired

theorem placeMark_lotChange_grows {m : Mark} {s : State} (ahead : Ahead s) (fresh : ∀ w ∈ s.marks.marks, w.origin ≠ m.origin)
    (reached : m.position ≤ s.length.runCount) (kind : m.kind = .lotChange) :
    Evolves .growing (lotChange m.lotTag (mergeOut m s)) (placeMark m s) := by
  rw [placeMark, placementOf_lotChange_fires (mergedOut_ahead ahead reached) fresh reached]
  dsimp only
  rw [fireMark_lotChange _ kind]
  exact ((builderTakes_evolves _ _ _).trans (forward_evolves _ _)).trans (offerMerge_evolves m s _)

/-- Once a LOT_CHANGE has fired, none of its lot waits. -/
theorem placeMark_lotChange_waiting {m : Mark} {s : State} (law : MarkLaw s) (fresh : ∀ w ∈ s.marks.marks, w.origin ≠ m.origin)
    (reached : m.position ≤ s.length.runCount) (kind : m.kind = .lotChange) :
    ∀ w ∈ (placeMark m s).marks.marks, w.kind = .lotChange → w.lotTag ≠ m.lotTag := by
  obtain ⟨fit, ahead, -⟩ := (markLaw_iff s).1 law
  intro w hw lot
  rw [placeMark_lotChange ahead fresh reached kind .marks (by decide)] at hw
  have waited := GainsNoLot.lotChange m.lotTag (mergeOut m s) w hw lot
  rw [mergeOut_waiting] at waited
  exact lot_ne_of_merged fit (by rw [mergedOut_ahead ahead reached]) kind w waited lot

theorem startRefusal_taken {tag : Nat} {s : State} (running : s.station = .running) (named : tag ≠ 0)
    (other : tag ≠ s.lots.activeTag) : startRefusal tag s = none := by
  rw [startRefusal, isRunning_of_running running, if_neg nofun, if_neg named, if_neg other]

/-- The link of a part in which a LOT START's mark has been placed. -/
theorem placeMark_talkless (m : Mark) (s : State) :
    (placeMark m s).link = { s.link with latched := (placeMark m s).link.latched } :=
  (placeMark_path (bounded := False) (scope := .growing) m s nofun nofun).link_eq rfl

/-- Settles O32: the mark fires, whatever waits; the lot unit acts on it first. -/
theorem lotStartActivatesTheLot : Obligations.LotStartActivatesTheLot := by
  intro tag fill r set s law running isSet
  obtain ⟨fit, ahead, -⟩ := (markLaw_iff s).1 law
  have answered (t : State) (link : t.link = { s.link with latched := t.link.latched }) (x : Reply) :
      Replies (4 + fill) x s (finishFrame (4 + fill) x t) := replies_finishFrame _ _ link
  refine ⟨fun zero => ?_, fun named active => ?_, fun named other taken => ?_, fun named other fresh => ?_,
    fun inside passes active unknown room => ?_⟩
  · refine ⟨_, exec_lotStart_refused fill (by rw [startRefusal, isRunning_of_running running, if_neg nofun, if_pos zero]), ?_⟩
    exact (answers_read _ _ _).symm
  · refine ⟨_, exec_lotStart_refused fill
      (by rw [startRefusal, isRunning_of_running running, if_neg nofun, if_neg named, if_pos active]), ?_⟩
    exact (answers_read _ _ _).symm
  · refine ⟨_, exec_lotStart_taken fill (startRefusal_taken running named other), ?_⟩
    have duplicate : isDuplicate (startMark tag s) s = true := (isDuplicate_iff _ _).2 taken
    have dropped : placeMark (startMark tag s) (takeSerial s) = countDuplicate (takeSerial s) := by
      rw [placeMark, placementOf, if_pos (show isDuplicate (startMark tag s) (takeSerial s) = true from duplicate)]
    have answer : startAnswer tag s = 2 := by rw [startAnswer, completeMark_startRaising, if_pos duplicate]
    rw [dropped, answer, finishFrame_marks]
    exact ⟨rfl, answers_finishFrame _ _ rfl, sameOutside_finishFrame _ _
      ((takeSerial_frame s (bs := [.marks])).trans (countDuplicate_frame _))⟩
  · have ahead' : Ahead (takeSerial s) := ahead
    have placed := placeMark_lotChange (m := startMark tag s) ahead' fresh le_rfl rfl
    have grows := placeMark_lotChange_grows (m := startMark tag s) ahead' fresh le_rfl rfl
    have waiting := placeMark_lotChange_waiting (m := startMark tag s) (s := takeSerial s) law fresh le_rfl rfl
    have talkless : (placeMark (startMark tag s) (takeSerial s)).link =
        { s.link with latched := (placeMark (startMark tag s) (takeSerial s)).link.latched } := placeMark_talkless _ _
    have merged := (takeSerial_frame s (bs := [.marks, .builder])).trans (mergeOut_frame (startMark tag s) (takeSerial s))
    have unique : isDuplicate (startMark tag s) s ≠ true := fun h => by
      obtain ⟨w, hw, e⟩ := (isDuplicate_iff _ _).1 h
      exact fresh w hw e
    have answer : startAnswer tag s = if (heldRecord s.lots.table tag).isSome then 0 else 1 := by
      rw [startAnswer, completeMark_startRaising, if_neg unique]
    have lots : (mergeOut (startMark tag s) (takeSerial s)).lots = s.lots := merged .lots (by decide)
    have profile : (mergeOut (startMark tag s) (takeSerial s)).profile = s.profile := merged .profile (by decide)
    have lay : (mergeOut (startMark tag s) (takeSerial s)).lay = s.lay := merged .lay (by decide)
    have knot : (mergeOut (startMark tag s) (takeSerial s)).knot = s.knot := merged .knot (by decide)
    refine ⟨fun held => ⟨_, exec_lotStart_taken fill (startRefusal_taken running named other), ?_⟩,
      fun absent => ⟨_, exec_lotStart_taken fill (startRefusal_taken running named other), ?_⟩⟩
    · have heldAnswer : startAnswer tag s = 0 := by rw [answer, held]; rfl
      rw [heldAnswer, show be 1 0 = [0] from rfl, finishFrame_lots, finishFrame_lay, finishFrame_knot, finishFrame_marks]
      generalize mergeOut (startMark tag s) (takeSerial s) = u at placed merged lots profile lay knot
      have changed : lotChange tag u = rebuild r (u.withLots { u.lots with activeTag := tag }) :=
        lotChange_held (by rw [lots]; exact other) (by rw [lots]; exact held)
      have activated : Activated (completeRecord r u.profile.base) u (lotChange tag u) := by
        obtain ⟨onLay, onKnot⟩ := rebuild_activated r (u.withLots { u.lots with activeTag := tag })
        rw [changed]
        exact ⟨onLay, onKnot⟩
      rw [profile, ← isSet] at activated
      refine ⟨?_, fun on => ?_, fun on => ?_, waiting, answered _ talkless _, ?_⟩
      · rw [placed .lots (by decide)]
        change (lotChange tag u).lots = _
        rw [changed, rebuild_lots, State.withLots_profile, profile, ← isSet, State.withLots_lots, lots]
      · rw [placed .lay (by decide)]
        exact activated.lay (by rw [lay]; exact on)
      · rw [placed .knot (by decide)]
        exact activated.knot (by rw [knot]; exact on)
      · have whole : SameOutside [.marks, .feeds, .lay, .knot, .lots, .builder, .hold, .port, .link, .orders] s
            (placeMark (startMark tag s) (takeSerial s)) :=
          (merged.mono (by decide)).trans ((lotChange_frame tag u).trans (placed.mono (by decide)))
        exact sameOutside_finishFrame _ _ whole
    · have absentAnswer : startAnswer tag s = 1 := by rw [answer, absent]; rfl
      rw [absentAnswer, show be 1 1 = [1] from rfl, finishFrame_lots, finishFrame_latched, finishFrame_marks]
      generalize mergeOut (startMark tag s) (takeSerial s) = u at grows placed merged lots profile lay knot
      have changed : lotChange tag u = latch .lotUnknown (u.withLots { u.lots with activeTag := tag, unknown := true }) :=
        lotChange_unknown (by rw [lots]; exact other) (by rw [lots]; exact absent)
      refine ⟨?_, ?_, waiting, answered _ talkless _, ?_⟩
      · rw [placed .lots (by decide)]
        change (lotChange tag u).lots = _
        rw [changed, ← lots]
        rfl
      · refine grows.latchedStays _ ?_
        change hasCondition .lotUnknown (lotChange tag u).link.latched = true
        rw [changed]
        exact latch_latches _ _
      · have unknown : SameOutside [.lots, .link] u (lotChange tag u) := by
          rw [changed]
          exact (withLots u _).trans (latch_frame _ _)
        have whole : SameOutside [.marks, .lots, .builder, .hold, .port, .link] s
            (placeMark (startMark tag s) (takeSerial s)) :=
          (merged.mono (by decide)).trans ((unknown.mono (by decide)).trans (placed.mono (by decide)))
        exact sameOutside_finishFrame _ _ whole
  · have taken : loadRefusal r s = none := by
      rw [loadRefusal_tested running inside (by rw [← isSet]; exact passes), if_neg fun h => by simp [unknown] at h,
        if_neg fun h => ?_]
      obtain held | places := room
      · exact held h.1
      · omega
    have outcome : be 1 (loadOutcome r s) = [2] := by rw [loadOutcome, if_pos active]; rfl
    have load : loadRecord r s = rebuild r (storeRecord r s) := if_pos active
    have rebuilt := rebuild_activated r (storeRecord r s)
    have lots := rebuild_lots r (storeRecord r s)
    rw [show (storeRecord r s).profile = s.profile from rfl, ← isSet] at rebuilt lots
    refine ⟨_, exec_lotLoad_taken fill taken, ?_⟩
    rw [load, outcome, finishFrame_lots, finishFrame_lay, finishFrame_knot]
    have talkless : (rebuild r (storeRecord r s)).link = { s.link with latched := (rebuild r (storeRecord r s)).link.latched } :=
      (rebuild_evolves (scope := .growing) r (storeRecord r s) False nofun).link_eq rfl
    refine ⟨?_, ?_, fun on => ?_, fun on => ?_, replies_finishFrame _ _ talkless, ?_⟩
    · rw [lots]
      exact (heldRecord_insertRecord r _ _).trans (if_pos rfl)
    · rw [lots]
      rfl
    · obtain ⟨working, corrected, -⟩ := rebuilt.lay on
      exact ⟨working, corrected⟩
    · obtain ⟨state, cause, -⟩ := rebuilt.knot on
      exact ⟨state, cause⟩
    · have whole : SameOutside [.marks, .feeds, .lay, .knot, .lots, .builder, .hold, .port, .link, .orders] s
          (rebuild r (storeRecord r s)) := (withLots s _).trans (rebuild_frame r (storeRecord r s))
      exact sameOutside_finishFrame _ _ whole

end Sys2Proof.Machine
end

section
/-! PROOFS. The close of a coil and the opening of the next (8.3, 8.7): what a record is once closed, and what the coil that
follows is before its cut test. -/

namespace Sys2Proof.Machine

-- One theorem after another: side by side they need more threads than the memory of the check allows.
set_option Elab.async false

open SameOutside

/-! ## The record of a closed coil (R133, R135, R136) -/

theorem isFaultEntry_eq (e : Event) : isFaultEntry e = e.kind.isFault := by
  rw [isFaultEntry]
  cases e.kind <;> rfl

theorem settleEvent_eq (start endAt : Nat) (e : Event) : settleEvent start endAt e = entryAtClose start endAt e := by
  by_cases beyond : endAt < start + e.offset + e.span
  · rw [settleEvent, entryAtClose, reachesBeyond, if_pos (show endAt < eventReach start e from beyond), if_pos (decide_eq_true beyond)]
  · rw [settleEvent, entryAtClose, reachesBeyond, if_neg (show ¬endAt < eventReach start e from beyond), if_neg (by simpa using beyond)]

/-- Taken off one after another, amounts are taken off together, since none goes below 0. -/
theorem foldl_sub_eq {α : Type} (away : α → Nat) (l : List α) (total : Nat) :
    l.foldl (fun t e => t - away e) total = total - (l.map away).sum := by
  induction l generalizing total with
  | nil => rfl
  | cons e rest ih => rw [List.foldl_cons, ih, List.map_cons, List.sum_cons]; omega

theorem sum_settledAway (start endAt : Nat) (events : List Event) : (events.map (settledAway start endAt)).sum =
    ((events.filter isFaultEntry).map fun e => e.span - (entryAtClose start endAt e).span).sum := by
  induction events with
  | nil => rfl
  | cons e rest ih =>
    rw [List.map_cons, List.sum_cons, ih, settledAway, ← isFaultEntry_eq, settleEvent_eq, List.filter_cons]
    split
    · rw [List.map_cons, List.sum_cons]
    · rw [Nat.zero_add]

/-- The faults that a close carries on are the copies that the statements give. -/
theorem carriedFaults_eq {s : State} {cur : CurrentCoil} (current : s.builder.current = some cur) :
    carriedFaults s = entriesCarried cur s.length.runCount := by
  rw [carriedFaults, current, entriesCarried]
  dsimp only
  induction cur.record.events with
  | nil => rfl
  | cons e rest ih =>
    rw [List.filterMap_cons, ih, List.filter_cons, isFaultEntry_eq, reachesBeyond]
    by_cases carried : s.length.runCount < eventReach cur.record.start e ∧ e.kind.isFault = true
    · obtain ⟨beyond, fault⟩ := carried
      rw [carriedCopy, if_pos ⟨beyond, fault⟩, if_pos (by rw [fault]; exact decide_eq_true beyond)]
      rfl
    · rw [carriedCopy, if_neg carried, if_neg fun both => carried ?_]
      obtain ⟨fault, beyond⟩ := Bool.and_eq_true_iff.1 both
      exact ⟨of_decide_eq_true beyond, fault⟩

/-- The record that a close puts into the log is the one that the statements describe. -/
theorem closedRecord_closedAs (s : State) (cur : CurrentCoil) (causes : CauseSet) (lateCut confirmed : Bool) :
    closedAs s cur causes lateCut confirmed (closedRecord cur s.length.runCount causes
      (s.builder.sequence.bind CutSequence.boundary) lateCut confirmed) := by
  refine ⟨_, rfl, rfl, rfl, rfl, rfl, rfl, rfl, rfl, rfl, rfl, ?_, ?_, rfl, rfl, rfl, rfl, rfl, rfl, rfl, rfl, ?_, rfl⟩
  · exact List.map_congr_left fun e _ => settleEvent_eq _ _ e
  · rw [← sum_settledAway, ← foldl_sub_eq]
    rfl
  · simp [closedRecord, isShort, and_assoc]

theorem chargePlan_eq (cur : CurrentCoil) (causes : CauseSet) (plan : List PlanEntry) :
    (if cur.entryRef then chargePlan causes plan else plan) = planAfterClose cur causes plan := by
  unfold planAfterClose
  cases plan <;> rfl

/-! ## The coil that opens (R123, R137) -/

/-- The faults carried into a coil, as its record counts them. -/
theorem foldl_addCarried {l : List Event} {c : Coil} (total : c.faultTotal ≤ maxCount) (gauges : c.gauges ≤ 65535) :
    l.foldl addCarried c = { c with
      faultTotal := min (c.faultTotal + (l.map Event.span).sum) maxCount
      gauges := min (c.gauges + l.countP fun e => decide (e.kind = .gaugeFault)) 65535 } := by
  induction l generalizing c with
  | nil =>
    rw [List.foldl_nil, List.map_nil, List.sum_nil, List.countP_nil, Nat.add_zero, Nat.add_zero, min_eq_left total,
      min_eq_left gauges]
  | cons e rest ih =>
    have counted : (addCarried c e).gauges ≤ 65535 := by
      rw [addCarried]
      dsimp only
      split
      · exact min_le_right _ _
      · exact gauges
    rw [List.foldl_cons, ih (min_le_right _ _) counted, List.map_cons, List.sum_cons, List.countP_cons]
    have spans : min ((addCarried c e).faultTotal + (rest.map Event.span).sum) maxCount =
        min (c.faultTotal + (e.span + (rest.map Event.span).sum)) maxCount := by
      rw [addCarried]
      dsimp only
      omega
    have counts : min ((addCarried c e).gauges + rest.countP fun e => decide (e.kind = .gaugeFault)) 65535 =
        min (c.gauges + (rest.countP (fun e => decide (e.kind = .gaugeFault)) +
          if decide (e.kind = .gaugeFault) = true then 1 else 0)) 65535 := by
      rw [addCarried]
      by_cases gauge : e.kind = .gaugeFault
      · simp only [gauge, if_true, decide_true, tally]
        omega
      · simp [gauge]
    rw [spans, counts]
    rfl

/-- The coil that opens at `start`, before it has looked at the plan. -/
def freshCoil (start : Nat) (s : State) : CurrentCoil :=
  { record := newCoil s.builder.nextSerial s.lots.activeTag start, entryRef := false, reading := readingOf s.effective }

/-- The coil once it has looked at the head of the plan (R123, step 4). -/
def plannedCoil (start : Nat) (s : State) : CurrentCoil :=
  match s.builder.plan with
  | [] => freshCoil start s
  | e :: _ => if entryMatches e s.lots.activeTag then takeEntry e (freshCoil start s) else freshCoil start s

/-- The coil that opens, with the faults carried into it and the loss list met: as its cut test finds it. -/
def openedCoil (start : Nat) (carried : List Event) (s : State) : CurrentCoil :=
  { plannedCoil start s with record := { (plannedCoil start s).record with
      events := carried
      faultTotal := min (carried.map Event.span).sum maxCount
      gauges := min (carried.countP fun e => decide (e.kind = .gaugeFault)) 65535
      flags := { incomplete := s.feeds.losses.any fun i => meets i start s.length.runCount
                 short := false, lateCut := false, confirmed := false } } }

/-- The conditions latched by the look at the plan (R123, step 4). -/
def latchedAtHead (s : State) : AttentionSet :=
  match s.builder.plan with
  | [] => s.link.latched ||| oneCondition .planExhausted
  | e :: _ => if entryMatches e s.lots.activeTag ∨ awaitsLot s e.lotTag then s.link.latched
    else s.link.latched ||| oneCondition .planMismatch

/-- The part with its new coil open, before the cut test. -/
def coilOpen (start : Nat) (carried : List Event) (s : State) : State :=
  (s.withBuilder { s.builder with
    current := some (openedCoil start carried s), nextSerial := nextCoilSerial s.builder.nextSerial }).withLink
    { s.link with latched := latchedAtHead s }

/-- The look at the head of the plan by a coil that has just opened. -/
theorem takeHead_freshCoil (start : Nat) (s : State) : takeHead (s.withBuilder { s.builder with
      current := some (freshCoil start s), nextSerial := nextCoilSerial s.builder.nextSerial }) =
    (s.withBuilder { s.builder with
      current := some (plannedCoil start s), nextSerial := nextCoilSerial s.builder.nextSerial }).withLink
      { s.link with latched := latchedAtHead s } := by
  unfold takeHead plannedCoil latchedAtHead
  dsimp only [State.withBuilder_builder, State.withBuilder_lots]
  cases s.builder.plan with
  | nil => rfl
  | cons e rest =>
    dsimp only
    by_cases same : entryMatches e s.lots.activeTag = true
    · simp only [same, if_true, true_or]
      rfl
    · by_cases waits : awaitsLot s e.lotTag = true
      · refine (if_neg same).trans ((if_pos waits).trans ?_)
        rw [if_neg same, if_pos (.inr waits)]
        rfl
      · refine (if_neg same).trans ((if_neg waits).trans ?_)
        rw [if_neg same, if_neg (not_or.2 ⟨same, waits⟩)]
        rfl

theorem plannedCoil_record (start : Nat) (s : State) :
    (plannedCoil start s).record.faultTotal = 0 ∧ (plannedCoil start s).record.gauges = 0 ∧
      (plannedCoil start s).record.start = start ∧ (plannedCoil start s).record.flags =
        { incomplete := false, short := false, lateCut := false, confirmed := false } := by
  unfold plannedCoil
  split
  · exact ⟨rfl, rfl, rfl, rfl⟩
  · split <;> exact ⟨rfl, rfl, rfl, rfl⟩

theorem openCoil_eq (start : Nat) (carried : List Event) (s : State) :
    openCoil start carried s = cutTest (coilOpen start carried s) := by
  obtain ⟨total, gauges, from_start, flags⟩ := plannedCoil_record start s
  have counted : (carried.foldl addCarried { (plannedCoil start s).record with events := carried }) =
      { (plannedCoil start s).record with
        events := carried
        faultTotal := min (carried.map Event.span).sum maxCount
        gauges := min (carried.countP fun e => decide (e.kind = .gaugeFault)) 65535 } := by
    rw [foldl_addCarried (by rw [total]; exact Nat.zero_le _) (by rw [gauges]; exact Nat.zero_le _)]
    dsimp only
    rw [total, gauges, Nat.zero_add, Nat.zero_add]
  have taken := takeHead_freshCoil start s
  rw [freshCoil] at taken
  rw [openCoil]
  dsimp only
  rw [taken, changeRecord, changeCoil]
  refine congrArg cutTest ?_
  rw [lossTest, coilOpen, openedCoil]
  dsimp only [State.withLink_builder, State.withBuilder_builder, Option.map_some]
  rw [counted]
  have any_met : (s.feeds.losses.any fun i => meets i (plannedCoil start s).record.start s.length.runCount) =
      s.feeds.losses.any fun i => meets i start s.length.runCount := by rw [from_start]
  by_cases met : (s.feeds.losses.any fun i => meets i start s.length.runCount) = true
  · refine (if_pos (any_met.trans met)).trans ?_
    rw [met, markIncomplete, changeRecord, changeCoil]
    dsimp only [State.withLink_builder, State.withBuilder_builder, Option.map_some]
    rw [flags]
    rfl
  · refine (if_neg (any_met ▸ met)).trans ?_
    rw [Bool.eq_false_iff.2 met, ← flags]
    rfl

/-! ## The statements' words for an opening -/

theorem plannedCoil_taken {start : Nat} {s : State} {e : PlanEntry} {rest : List PlanEntry} (plan : s.builder.plan = e :: rest)
    (same : e.lotTag = 0 ∨ e.lotTag = s.lots.activeTag) : plannedCoil start s = takeEntry e (freshCoil start s) := by
  rw [plannedCoil, plan]
  exact if_pos (by simpa [entryMatches] using same)

theorem plannedCoil_fresh {start : Nat} {s : State} {e : PlanEntry} {rest : List PlanEntry} (plan : s.builder.plan = e :: rest)
    (other : ¬(e.lotTag = 0 ∨ e.lotTag = s.lots.activeTag)) : plannedCoil start s = freshCoil start s := by
  rw [plannedCoil, plan]
  exact if_neg (by simpa [entryMatches] using other)

/-- The coil that opens looks at the plan as the statements say. -/
theorem openedCoil_looksAtPlan {s t c : State} (start : Nat) (carried : List Event) (plan : t.builder.plan = c.builder.plan)
    (outstanding : t.builder.outstanding = c.builder.outstanding) (latched : t.link.latched = latchedAtHead c)
    (lots : c.lots = s.lots) (profile : c.profile = s.profile) : looksAtPlan s t (openedCoil start carried c) := by
  have effective : c.effective = s.effective := by rw [State.effective, lots, profile, State.effective]
  rw [looksAtPlan, plan, latched]
  cases head : c.builder.plan with
  | nil =>
    have fresh : plannedCoil start c = freshCoil start c := by rw [plannedCoil, head]
    rw [openedCoil, fresh, latchedAtHead, head]
    exact ⟨rfl, rfl, rfl, rfl, hasCondition_latch _ _⟩
  | cons e rest =>
    dsimp only
    rw [← lots]
    split
    · next same =>
      rw [openedCoil, plannedCoil_taken head same]
      refine ⟨rfl, rfl, rfl, ?_⟩
      rw [← effective]
      exact (plannedAt_eq start e.target c.effective.stretch).symm
    · next other =>
      rw [openedCoil, plannedCoil_fresh head other]
      refine ⟨rfl, rfl, rfl, rfl, fun free => ?_⟩
      have unawaited : ¬awaitsLot c e.lotTag = true := by
        rw [awaitsLot, ← outstanding, Option.any_eq_true_iff_get]
        rintro ⟨claimed, same⟩
        obtain ⟨kind, tag⟩ := Bool.and_eq_true_iff.1 same
        exact free _ (Option.some_get claimed).symm (of_decide_eq_true kind) (of_decide_eq_true tag)
      have mismatched : ¬entryMatches e c.lots.activeTag = true := by simpa [entryMatches] using other
      rw [latchedAtHead, head]
      dsimp only
      rw [if_neg (not_or.2 ⟨mismatched, unawaited⟩)]
      exact hasCondition_latch _ _

/-- The coil that opens is the one that the statements describe. -/
theorem openedCoil_opensAfter {s t c : State} (cur : CurrentCoil) (endAt : Nat) (serial : c.builder.nextSerial = s.builder.nextSerial)
    (lots : c.lots = s.lots) (profile : c.profile = s.profile) (losses : t.feeds.losses = c.feeds.losses) :
    opensAfter s t cur (openedCoil c.length.runCount (entriesCarried cur endAt) c) endAt c.length.runCount := by
  have effective : c.effective = s.effective := by rw [State.effective, lots, profile, State.effective]
  have fresh : (plannedCoil c.length.runCount c).record.start = c.length.runCount ∧
      (plannedCoil c.length.runCount c).record.serial = c.builder.nextSerial ∧
      (plannedCoil c.length.runCount c).record.lotTag = c.lots.activeTag ∧
      (plannedCoil c.length.runCount c).record.closing = none ∧ (plannedCoil c.length.runCount c).reading = readingOf c.effective ∧
      (plannedCoil c.length.runCount c).record.splices = 0 ∧ (plannedCoil c.length.runCount c).record.unlisted = 0 := by
    unfold plannedCoil
    split
    · exact ⟨rfl, rfl, rfl, rfl, rfl, rfl, rfl⟩
    · split <;> exact ⟨rfl, rfl, rfl, rfl, rfl, rfl, rfl⟩
  obtain ⟨from_start, number, tag, opened, reading, splices, unlisted⟩ := fresh
  refine ⟨from_start, number.trans serial, tag.trans (by rw [lots]), opened, reading.trans (by rw [effective]), rfl, rfl, rfl,
    splices, unlisted, ?_, rfl, rfl, rfl⟩
  rw [losses]
  simp [openedCoil, meets, Option.all_eq_true]

theorem cutIsReached_congr {s t : State} (speed : t.length.speed = s.length.speed) (profile : t.profile = s.profile)
    (marks : t.marks.marks = s.marks.marks) (lots : t.lots = s.lots) (coil : Coil) (count : Nat) :
    cutIsReached t coil count ↔ cutIsReached s coil count := by
  simp only [cutIsReached, targetIsReached, reachAt, isCutPoint, qualifiesAt, speed, profile, marks, lots]

theorem sequenceReached_congr {s t : State} (speed : t.length.speed = s.length.speed) (profile : t.profile = s.profile)
    (marks : t.marks.marks = s.marks.marks) (lots : t.lots = s.lots) (coil : Coil) (count : Nat) (q : CutSequence) :
    sequenceReached t coil count q ↔ sequenceReached s coil count q := by
  simp only [sequenceReached, targetIsReached, reachAt, isCutPoint, qualifiesAt, speed, profile, marks, lots]

end Sys2Proof.Machine
end

section
/-! PROOFS. The close of a coil with all that it leaves, the commands that end a failed cut, and a CUT_DONE edge
(8.5, 8.7): O37 and O38. -/

namespace Sys2Proof.Machine

-- One theorem after another: side by side they need more threads than the memory of the check allows.
set_option Elab.async false

open SameOutside

/-! ## A close and the opening after it (R123, R135) -/

theorem closeCoil_eq {s : State} {cur : CurrentCoil} (current : s.builder.current = some cur) (causes : CauseSet)
    (lateCut confirmed : Bool) : closeCoil causes lateCut confirmed s = latch .coilReady (s.withBuilder { s.builder with
      current := none
      log := s.builder.log ++
        [closedRecord cur s.length.runCount causes (s.builder.sequence.bind CutSequence.boundary) lateCut confirmed]
      plan := planAfterClose cur causes s.builder.plan
      sequence := none
      outstanding := claimAfter s.builder.sequence s.builder.outstanding }) := by
  rw [closeCoil, current, ← chargePlan_eq]

/-- The part in which a cut is settled, from the part that finds it: BUILDING, with the hold reason CUT and the cut timer gone
where it was cutting, and nothing else of the coil's changed. -/
structure CutSettled (s u : State) : Prop where
  frame : SameOutside [.sense, .builder, .hold, .port] s u
  builder : u.builder = { s.builder with state := .building, cutTimer := u.builder.cutTimer }
  stopped : s.builder.state ≠ .building → u.builder.cutTimer = none ∧ hasReason .cut u.hold.own = false
  kept : s.builder.state = .building → u.builder.cutTimer = s.builder.cutTimer ∧ u.hold = s.hold

theorem latchedAtHead_keeps (c : Condition) {s : State} (latched : hasCondition c s.link.latched = true) :
    hasCondition c (latchedAtHead s) = true := by
  have more (d : AttentionSet) : hasCondition c (s.link.latched ||| d) = true := by rw [hasCondition_or, latched, Bool.true_or]
  rw [latchedAtHead]
  split
  · exact more _
  · split
    · exact latched
    · exact more _

/-- The cut test of the coil that has opened, where the part had settled the cut before. -/
theorem cutTest_opensInto {s w : State} {next : CurrentCoil} (current : w.builder.current = some next)
    (frame : SameOutside [.sense, .builder, .hold, .port, .link] s w) (building : w.builder.state = .building)
    (ended : w.builder.sequence = none) (log : w.builder.log.length = s.builder.log.length + 1)
    (stopped : s.builder.state ≠ .building → w.builder.cutTimer = none ∧ hasReason .cut w.hold.own = false)
    (kept : s.builder.state = .building → w.builder.cutTimer = s.builder.cutTimer ∧ w.hold = s.hold) :
    opensInto s (cutTest w) next := by
  have length : w.length = s.length := frame .length (by decide)
  have profile : w.profile = s.profile := frame .profile (by decide)
  have speed : w.length.speed = s.length.speed := congrArg LengthUnit.speed length
  have marks : w.marks.marks = s.marks.marks := congrArg MarkList.marks (frame .marks (by decide))
  have lots : w.lots = s.lots := frame .lots (by decide)
  refine ⟨fun reached => ?_, fun ahead => ?_⟩
  · have reached' : cutIsReached w next.record w.length.runCount := by
      rw [cutIsReached_congr speed profile marks lots, length]
      exact reached
    have sequence := sequenceReached_reachedSequence w next
    rw [length, sequenceReached_congr speed profile marks lots] at sequence
    have goes := cutTest_goesOn building current reached'
    rw [log] at goes
    exact ⟨_, sequence, goes⟩
  · have same : cutTest w = w := cutTest_ahead current (by rw [cutIsReached_congr speed profile marks lots, length]; exact ahead)
    rw [same]
    refine ⟨building, ended, fun cutting => ?_, kept⟩
    obtain ⟨timer, given⟩ := stopped cutting
    refine ⟨timer, ?_, given⟩
    rw [State.cutAsserted, building]
    rfl

/-- A close and the opening after it are what the statements say of a close. -/
theorem closeAndOpen_closesCoil {s u : State} {cur : CurrentCoil} (current : s.builder.current = some cur)
    (settled : CutSettled s u) (causes : CauseSet) (lateCut confirmed : Bool) :
    closesCoil s (closeAndOpen causes lateCut confirmed u) cur causes lateCut confirmed := by
  obtain ⟨frame, builder, stopped, kept⟩ := settled
  have length : u.length = s.length := frame .length (by decide)
  have current' : u.builder.current = some cur := by rw [builder]; exact current
  have sequence : u.builder.sequence = s.builder.sequence := by rw [builder]
  have closed := closeCoil_eq current' causes lateCut confirmed
  have hold : (closeCoil causes lateCut confirmed u).hold = u.hold := by rw [closed]; rfl
  have beyond : SameOutside [.sense, .builder, .hold, .port, .link] s (closeCoil causes lateCut confirmed u) :=
    (frame.mono (by decide)).trans (closeCoil_frame _ _ _ _)
  rw [closeAndOpen, openCoil_eq, carriedFaults_eq current', length]
  rw [length, sequence, builder] at closed
  generalize closeCoil causes lateCut confirmed u = c at closed hold beyond ⊢
  have state : c.builder.state = .building := by rw [closed]; rfl
  have timer : c.builder.cutTimer = u.builder.cutTimer := by rw [closed]; rfl
  have number : c.builder.nextSerial = s.builder.nextSerial := by rw [closed]; rfl
  have atCount : c.length.runCount = s.length.runCount := congrArg LengthUnit.runCount (beyond .length (by decide))
  have lots : c.lots = s.lots := beyond .lots (by decide)
  have profile : c.profile = s.profile := beyond .profile (by decide)
  have opens (t : State) (losses : t.feeds.losses = c.feeds.losses) :=
    openedCoil_opensAfter cur s.length.runCount number lots profile losses
  rw [atCount] at opens
  have untouched := cutTest_builder (coilOpen s.length.runCount (entriesCarried cur s.length.runCount) c)
  have link := cutTest_link (coilOpen s.length.runCount (entriesCarried cur s.length.runCount) c)
  have feeds : (cutTest (coilOpen s.length.runCount (entriesCarried cur s.length.runCount) c)).feeds = c.feeds :=
    (cutTest_frame (coilOpen s.length.runCount (entriesCarried cur s.length.runCount) c) (bs := [.builder, .hold, .port]))
      .feeds (by decide)
  have into : opensInto s (cutTest (coilOpen s.length.runCount (entriesCarried cur s.length.runCount) c))
      (openedCoil s.length.runCount (entriesCarried cur s.length.runCount) c) := by
    refine cutTest_opensInto rfl ?_ state ?_ ?_ ?_ ?_
    · exact beyond.trans ((withBuilder c _).trans (withLink _ _))
    · change c.builder.sequence = none
      rw [closed]
      rfl
    · change c.builder.log.length = _
      rw [closed]
      exact List.length_append
    · intro cutting
      change c.builder.cutTimer = none ∧ hasReason .cut c.hold.own = false
      rw [timer, hold]
      exact stopped cutting
    · intro building
      change c.builder.cutTimer = s.builder.cutTimer ∧ c.hold = s.hold
      rw [timer, hold]
      exact kept building
  generalize cutTest (coilOpen s.length.runCount (entriesCarried cur s.length.runCount) c) = t at untouched link feeds into ⊢
  have log : t.builder.log = c.builder.log := by rw [untouched]; rfl
  have plan : t.builder.plan = c.builder.plan := by rw [untouched]; rfl
  have outstanding : t.builder.outstanding = c.builder.outstanding := by rw [untouched]; rfl
  refine ⟨⟨_, ?_, closedRecord_closedAs s cur causes lateCut confirmed⟩, ?_, ?_,
    ⟨_, ?_, opens t (congrArg _ feeds), ?_, into⟩, ?_, ?_, ?_, ?_⟩
  · rw [log, closed]
    rfl
  · rw [plan, closed]
    rfl
  · rw [outstanding, closed]
    rfl
  · rw [untouched]
    rfl
  · exact openedCoil_looksAtPlan _ _ plan outstanding (congrArg LocalLink.latched link) lots profile
  · rw [untouched]
    exact congrArg nextCoilSerial number
  · rw [untouched]
    change c.builder.repeatedCuts = _
    rw [closed]
    rfl
  · rw [untouched]
    change c.builder.unrecordedCuts = _
    rw [closed]
    rfl
  · rw [link]
    change hasCondition .coilReady (latchedAtHead c) = true
    refine latchedAtHead_keeps _ ?_
    rw [closed]
    exact latch_latches _ _

/-- What a close leaves is read from the builder, the loss list, the latched conditions, the hold unit and the clock. -/
theorem closesCoil_congr {s t u : State} {cur : CurrentCoil} {causes : CauseSet} {lateCut confirmed : Bool}
    (closes : closesCoil s t cur causes lateCut confirmed) (builder : u.builder = t.builder) (feeds : u.feeds = t.feeds)
    (latched : u.link.latched = t.link.latched) (hold : u.hold = t.hold) (now : u.now = t.now) :
    closesCoil s u cur causes lateCut confirmed := by
  simpa only [closesCoil, opensAfter, looksAtPlan, opensInto, goesOn, State.cutAsserted, builder, feeds, latched, hold, now]
    using closes

/-! ## A cut settled (R128, R129) -/

theorem settleCut_settled {s : State} (cutting : s.builder.state ≠ .building) :
    CutSettled s (removeHold .cut (s.withBuilder { s.builder with state := .building, cutTimer := none })) := by
  have given := setReasons_own (removeReason .cut s.hold.own) (s.withBuilder { s.builder with state := .building, cutTimer := none })
  have removed := setReasons_frame (removeReason .cut s.hold.own)
    (s.withBuilder { s.builder with state := .building, cutTimer := none }) (bs := [.hold, .port])
  change SameOutside _ _ (removeHold .cut (s.withBuilder { s.builder with state := .building, cutTimer := none })) at removed
  change (removeHold .cut (s.withBuilder { s.builder with state := .building, cutTimer := none })).hold.own = _ at given
  generalize removeHold .cut (s.withBuilder { s.builder with state := .building, cutTimer := none }) = u at given removed ⊢
  have builder : u.builder = { s.builder with state := .building, cutTimer := none } := removed .builder (by decide)
  refine ⟨(mono (bs := [.builder]) (withBuilder s _) (by decide)).trans (removed.mono (by decide)),
    by rw [builder], fun _ => ⟨by rw [builder], ?_⟩,
    fun building => absurd building cutting⟩
  rw [given]
  exact hasReason_remove _ _

/-- What settles a cut is found the same by another part, the sense unit apart. -/
theorem CutSettled.after {s v u : State} (before : SameOutside [.sense] s v) (settled : CutSettled v u) : CutSettled s u := by
  have builder : v.builder = s.builder := before .builder (by decide)
  have hold : v.hold = s.hold := before .hold (by decide)
  obtain ⟨frame, kept_builder, stopped, kept⟩ := settled
  rw [builder] at kept_builder stopped kept
  rw [hold] at kept
  exact ⟨(before.mono (by decide)).trans frame, kept_builder, stopped, kept⟩

/-- A cut settled closes the coil with the causes of its sequence. -/
theorem settleCut_closesCoil {s v : State} {cur : CurrentCoil} {q : CutSequence} (before : SameOutside [.sense] s v)
    (cutting : s.builder.state ≠ .building) (current : s.builder.current = some cur) (sequence : s.builder.sequence = some q)
    (lateCut confirmed : Bool) : closesCoil s (settleCut lateCut confirmed v) cur q.causes lateCut confirmed := by
  have builder : v.builder = s.builder := before .builder (by decide)
  have causes : sequenceCauses v = q.causes := by rw [sequenceCauses, builder, sequence]
  rw [settleCut, causes]
  exact closeAndOpen_closesCoil current ((settleCut_settled (builder ▸ cutting)).after before) q.causes lateCut confirmed

theorem notFailed_eq_false {s : State} (running : s.station = .running) (failed : s.builder.state = .cutFailed) :
    notFailed s = false := by
  rw [notFailed, isRunning_of_running running, failed]
  rfl

theorem notFailed_eq_true {s : State} (shut : s.station = .openState ∨ s.builder.state ≠ .cutFailed) : notFailed s = true := by
  rw [notFailed]
  rcases shut with opened | other
  · rw [isRunning_of_open opened]
    rfl
  · rw [decide_eq_true other, Bool.or_true]

/-- Settles O37. -/
theorem failedCutIsRetriedOrConfirmed : Obligations.FailedCutIsRetriedOrConfirmed := by
  intro fill s
  refine ⟨fun since cutting timer => ⟨fun due => ?_, fun early => ?_⟩, fun running failed => ⟨?_, fun cur q current sequence => ?_⟩,
    fun shut => ⟨?_, ?_⟩⟩
  · have come : timeCome (cutDue s) s.now = true := by
      rw [cutDue, timer]
      exact decide_eq_true due
    refine ⟨latch .cutFailed (s.withBuilder { s.builder with state := .cutFailed, cutTimer := none }),
      congrArg Host.Outcome.next (if_pos ⟨cutting, come⟩), rfl, rfl, rfl, (withBuilder s _).trans (latch_frame _ _)⟩
  · refine congrArg Host.Outcome.next (if_neg fun ⟨_, come⟩ => ?_)
    rw [cutDue, timer] at come
    exact Nat.not_le.2 early (of_decide_eq_true come)
  · refine ⟨finishFrame (3 + fill) (done []) (s.withBuilder { s.builder with state := .cutting, cutTimer := some s.now }), ?_,
      finishFrame_builder _ _ _, ?_, answers_finishFrame _ _ rfl, sameOutside_finishFrame _ _ (withBuilder s _ (bs := [.builder]))⟩
    · change execCutRetry fill s = _
      rw [execCutRetry, notFailed_eq_false running failed]
      rfl
    · rw [State.cutAsserted, finishFrame_builder]
      rfl
  · have closes := settleCut_closesCoil (refl _ s) (by rw [failed]; nofun) current sequence false true
    refine ⟨finishFrame (3 + fill) (done (be 2 cur.record.serial)) (settleCut false true s), ?_, ?_, ?_,
      sameOutside_finishFrame _ _ (settleCut_frame false true s (bs := [.builder, .hold, .port, .link]))⟩
    · change execCutConfirm fill s = _
      rw [execCutConfirm, notFailed_eq_false running failed, currentSerial, current]
      rfl
    · have framed := finishFrame_frame (3 + fill) (done (be 2 cur.record.serial)) (settleCut false true s) (bs := [.link])
      exact closesCoil_congr closes (framed .builder (by decide)) (framed .feeds (by decide)) (finishFrame_latched _ _ _)
        (framed .hold (by decide)) (framed .now (by decide))
    · exact replies_finishFrame _ _ ((settleCut_evolves (scope := .growing) false true s (.inr failed) False nofun).link_eq rfl)
  · refine ⟨_, ?_, (answers_read _ _ _).symm⟩
    change execCutRetry fill s = _
    rw [execCutRetry, notFailed_eq_true shut]
    rfl
  · refine ⟨_, ?_, (answers_read _ _ _).symm⟩
    change execCutConfirm fill s = _
    rw [execCutConfirm, notFailed_eq_true shut]
    rfl

/-! ## A CUT_DONE edge (R128, R131) -/

theorem handEdge_cutDone {s : State} {i : Nat} (service : (assignment s.profile i).service = .cutDone) :
    handEdge i s = cutDone s := by
  simp [handEdge, service]

/-- A MANUAL cut closes the coil as it stands. -/
theorem building_settled {s v : State} (before : SameOutside [.sense] s v) (building : s.builder.state = .building) :
    CutSettled s v := by
  have builder : v.builder = s.builder := before .builder (by decide)
  have hold : v.hold = s.hold := before .hold (by decide)
  refine ⟨before.mono (by decide), by rw [builder, ← building], fun other => absurd building other, fun _ => ⟨by rw [builder], hold⟩⟩

theorem unrecordedCut_builder {s : State} {cur : CurrentCoil} (current : s.builder.current = some cur) :
    (unrecordedCut s).builder = { s.builder with
      unrecordedCuts := min (s.builder.unrecordedCuts + 1) 65535
      current := some { cur with record := { cur.record with flags := { cur.record.flags with incomplete := true } } } } ∧
    (unrecordedCut s).link = { s.link with latched := s.link.latched ||| oneCondition .cutFailed } := by
  refine ⟨?_, rfl⟩
  rw [unrecordedCut, markIncomplete, changeRecord, changeCoil, current]
  rfl

/-- Settles O38, by the state of the builder. -/
theorem cutDoneClosesTheCoil : Obligations.CutDoneClosesTheCoil := by
  intro i s places service due
  have before : SameOutside [.sense] s (taken s i) := taken_frame s i
  have done := cutDone_frame (taken s i) (bs := [.builder, .hold, .port, .link])
  have edge : exec (.senseFilterExpiry i) s = .next (cutDone (taken s i)) := by
    rw [exec_edgeIsDue due, handEdge_cutDone (s := taken s i) service]
  have floor {cur : CurrentCoil} (current : s.builder.current = some cur) : (taken s i).floor = cur.record.start := by
    rw [State.floor, show (taken s i).builder.current = some cur from current]
  refine ⟨_, edge, done .sense (by decide), fun off => ?_, fun cur current => ⟨fun q sequence cutting => ?_,
    fun q sequence failed => ?_, fun building atStart => ?_, fun building past room => ?_, fun unrecorded => ?_⟩,
    (before.mono (by decide)).trans (done.mono (by decide))⟩
  · have nothing : cutDone (taken s i) = taken s i := by rw [cutDone, show (taken s i).builder.state = .off from off]
    rw [nothing]
    exact before
  · have settles : cutDone (taken s i) = settleCut false false (taken s i) := by
      rw [cutDone, show (taken s i).builder.state = .cutting from cutting]
    rw [settles]
    exact settleCut_closesCoil before (by rw [cutting]; nofun) current sequence false false
  · have settles : cutDone (taken s i) = settleCut true false (taken s i) := by
      rw [cutDone, show (taken s i).builder.state = .cutFailed from failed]
    rw [settles]
    exact settleCut_closesCoil before (by rw [failed]; nofun) current sequence true false
  · have repeats : cutDone (taken s i) = (taken s i).withBuilder { s.builder with
        repeatedCuts := tally s.builder.repeatedCuts } := by
      rw [cutDone, show (taken s i).builder.state = .building from building]
      exact if_pos (floor current ▸ atStart)
    rw [repeats]
    exact ⟨rfl, (before.mono (by decide)).trans (withBuilder _ _)⟩
  · have manual : cutDone (taken s i) = closeAndOpen (oneCause .manual) false false (taken s i) := by
      rw [cutDone, show (taken s i).builder.state = .building from building]
      exact (if_neg (floor current ▸ past)).trans (if_pos room)
    rw [manual]
    exact closeAndOpen_closesCoil current (building_settled before building) (oneCause .manual) false false
  · have lost : cutDone (taken s i) = unrecordedCut (taken s i) := by
      rcases unrecorded with ⟨building, past, full⟩ | due
      · rw [cutDone, show (taken s i).builder.state = .building from building]
        exact (if_neg (floor current ▸ past)).trans (if_neg (Nat.not_lt.2 full))
      · rw [cutDone, show (taken s i).builder.state = .cutDue from due]
    obtain ⟨builder, link⟩ := unrecordedCut_builder (s := taken s i) current
    rw [lost]
    exact ⟨builder, link, (before.mono (by decide)).trans (unrecordedCut_frame _)⟩

end Sys2Proof.Machine
end

section
/-! PROOFS. What a fired boundary mark does to the coil builder (8.6): the re-seating of a coil, and O40. -/

namespace Sys2Proof.Machine

-- One theorem after another: side by side they need more threads than the memory of the check allows.
set_option Elab.async false

open SameOutside

/-! ## Recording (R132) -/

theorem recordMark_recordsBoundary (m : Mark) (absorbed void : Bool) {cur next : CurrentCoil}
    (start : next.record.start = cur.record.start) (events : next.record.events = cur.record.events)
    (unlisted : next.record.unlisted = cur.record.unlisted) : recordsBoundary m absorbed void cur
      { next with record := recordMark m absorbed void next.record } := by
  refine ⟨(recordMark_kept m absorbed void next.record).start.trans start, fun room => ?_, fun full => ?_⟩
  · rw [recordMark, if_pos (show next.record.events.length < eventPlaces by rw [events]; exact room)]
    dsimp only
    rw [events, eventOf, spanInCoil, start]
    exact ⟨unlisted, rfl⟩
  · rw [recordMark, if_neg (show ¬next.record.events.length < eventPlaces by rw [events]; exact Nat.not_lt.2 full)]
    dsimp only
    rw [events, unlisted]
    exact ⟨rfl, rfl⟩

/-- The recording leaves what a cut and a plan entry turn on. -/
theorem recordMark_seat (m : Mark) (absorbed void : Bool) (c : Coil) :
    (recordMark m absorbed void c).start = c.start ∧ (recordMark m absorbed void c).planned = c.planned ∧
      (recordMark m absorbed void c).target = c.target ∧ (recordMark m absorbed void c).package = c.package ∧
      (recordMark m absorbed void c).lotTag = c.lotTag := by
  unfold recordMark
  split <;> exact ⟨rfl, rfl, rfl, rfl, rfl⟩

theorem changeRecord_eq {s : State} {cur : CurrentCoil} (current : s.builder.current = some cur) (f : Coil → Coil) :
    changeRecord f s = s.withBuilder { s.builder with current := some { cur with record := f cur.record } } := by
  rw [changeRecord, changeCoil, current]
  rfl

/-! ## A re-seating (R134) -/

/-- The coil with its lot given, its foreign entry dropped and its planned cut computed again. -/
def retagged (s : State) (tag : Nat) (answer : Option LotAnswer) (cur : CurrentCoil) : CurrentCoil :=
  replan (dropEntry s.builder.plan (retag s tag answer cur))

/-- The coil after a late take, where it makes one (R124). -/
def lateCoil (s : State) (cur : CurrentCoil) : CurrentCoil :=
  if s.builder.state = .building ∧ cur.entryRef = false ∧ cur.record.target = 0 then
    match s.builder.plan with
    | [] => cur
    | e :: _ => if entryMatches e s.lots.activeTag then takeEntry e cur else cur
  else cur

/-- The conditions latched by a late take (R124). -/
def latchedLate (s : State) (cur : CurrentCoil) : AttentionSet :=
  if s.builder.state = .building ∧ cur.entryRef = false ∧ cur.record.target = 0 then
    match s.builder.plan with
    | [] => s.link.latched
    | e :: _ => if entryMatches e s.lots.activeTag then s.link.latched else s.link.latched ||| oneCondition .planMismatch
  else s.link.latched

/-- The part with its coil as a late take leaves it, before the cut test. -/
def lateSeat (s : State) (cur : CurrentCoil) : State :=
  (s.withBuilder { s.builder with current := some (lateCoil s cur) }).withLink { s.link with latched := latchedLate s cur }

theorem goOn_state (s : State) : (goOn s).builder.state ≠ .building := by
  obtain room | full := Nat.lt_or_ge s.builder.log.length 8
  · rw [(goOn_cutting room).1]
    nofun
  · rw [(goOn_cutDue full).1]
    nofun

/-- A cut test made twice is made once: one that starts a sequence leaves BUILDING. -/
theorem cutTest_cutTest (s : State) : cutTest (cutTest s) = cutTest s := by
  obtain same | ⟨cur, -, -, -, test⟩ := cutTest_cases s
  · rw [same, same]
  · refine cutTest_idle ?_
    rw [test]
    exact goOn_state _

theorem cutTest_lateTake {s : State} {cur : CurrentCoil} (current : s.builder.current = some cur) :
    cutTest (lateTake s) = cutTest (lateSeat s cur) := by
  have kept : s.builder = { s.builder with current := some cur } := by rw [← current]
  have stays (l : AttentionSet) (latched : l = s.link.latched) : s =
      (s.withBuilder { s.builder with current := some cur }).withLink { s.link with latched := l } := by
    rw [latched, ← kept]
    rfl
  unfold lateTake lateSeat lateCoil latchedLate
  split
  · next c building coil =>
    cases current.symm.trans coil
    by_cases late : cur.entryRef = false ∧ cur.record.target = 0
    · rw [if_pos late, if_pos ⟨building, late⟩, if_pos ⟨building, late⟩]
      cases s.builder.plan with
      | nil => exact congrArg cutTest (stays _ rfl)
      | cons e rest =>
        dsimp only
        split
        · rw [cutTest_cutTest, changeCoil, current]
          rfl
        · rw [← kept]
          rfl
    · rw [if_neg late, if_neg fun h => late h.2, if_neg fun h => late h.2]
      exact congrArg cutTest (stays _ rfl)
  · next other =>
    have idle : ¬(s.builder.state = .building ∧ cur.entryRef = false ∧ cur.record.target = 0) := fun h => other _ h.1 current
    rw [if_neg idle, if_neg idle]
    exact congrArg cutTest (stays _ rfl)

theorem reseat_eq {s : State} {cur : CurrentCoil} (current : s.builder.current = some cur) (tag : Nat)
    (answer : Option LotAnswer) : reseat tag answer s = cutTest (lateSeat s (retagged s tag answer cur)) := by
  have seat : changeCoil (fun cur => replan (dropEntry s.builder.plan (retag s tag answer cur))) s =
      s.withBuilder { s.builder with current := some (retagged s tag answer cur) } := by
    rw [changeCoil, current]
    rfl
  rw [reseat, seat, cutTest_lateTake (s := s.withBuilder _) rfl]
  rfl

/-- A coil as a re-seating finds it: its fields that a cut and a plan entry turn on. -/
structure SeatedAs (c next : CurrentCoil) : Prop where
  entryRef : next.entryRef = c.entryRef
  reading : next.reading = c.reading
  start : next.record.start = c.record.start
  planned : next.record.planned = c.record.planned
  target : next.record.target = c.record.target
  package : next.record.package = c.record.package
  lotTag : next.record.lotTag = c.record.lotTag

theorem cutIsReached_seat {s : State} {c d : Coil} (start : d.start = c.start) (planned : d.planned = c.planned) (count : Nat) :
    (cutIsReached s d count ↔ cutIsReached s c count) ∧
      ∀ q, sequenceReached s d count q ↔ sequenceReached s c count q := by
  simp only [cutIsReached, sequenceReached, targetIsReached, start, planned, true_and, implies_true, iff_self]

theorem dropEntry_foreign {s : State} {cur : CurrentCoil} {tag : Nat} (answer : Option LotAnswer)
    (foreign : entryIsForeign s cur tag) : (retagged s tag answer cur).entryRef = false ∧
      (retagged s tag answer cur).record.target = 0 ∧ (retagged s tag answer cur).record.planned = none := by
  obtain ⟨held, e, rest, plan, named, other⟩ := foreign
  have drops : (retag s tag answer cur).entryRef = true ∧
      ((s.builder.plan.head?.any fun e => !entryMatches e (retag s tag answer cur).record.lotTag) = true) := by
    refine ⟨held, ?_⟩
    rw [plan]
    change (!entryMatches e tag) = true
    simpa [entryMatches, named] using other
  rw [retagged, dropEntry, if_pos drops]
  exact ⟨rfl, rfl, rfl⟩

theorem dropEntry_own {s : State} {cur : CurrentCoil} {tag : Nat} (answer : Option LotAnswer)
    (own : ¬entryIsForeign s cur tag) : retagged s tag answer cur = replan (retag s tag answer cur) := by
  rw [retagged, dropEntry, if_neg]
  rintro ⟨held, head⟩
  cases plan : s.builder.plan with
  | nil => rw [plan] at head; cases head
  | cons e rest =>
    rw [plan] at head
    change (!entryMatches e tag) = true at head
    have head : e.lotTag ≠ 0 ∧ e.lotTag ≠ tag := by simpa [entryMatches] using head
    exact own ⟨held, e, rest, plan, head⟩

theorem retagged_seat (s : State) (tag : Nat) (answer : Option LotAnswer) (cur : CurrentCoil) :
    (retagged s tag answer cur).record.lotTag = tag ∧ (retagged s tag answer cur).record.start = cur.record.start ∧
      (retagged s tag answer cur).reading = (if answer = some .activated then readingOf s.effective else cur.reading) := by
  rw [retagged, dropEntry]
  split <;> exact ⟨rfl, rfl, rfl⟩

/-- A late take leaves a coil its lot, its start and its reading. -/
theorem lateCoil_seat (s : State) (c : CurrentCoil) : (lateCoil s c).record.lotTag = c.record.lotTag ∧
    (lateCoil s c).record.start = c.record.start ∧ (lateCoil s c).reading = c.reading := by
  unfold lateCoil
  split
  · split
    · exact ⟨rfl, rfl, rfl⟩
    · split <;> exact ⟨rfl, rfl, rfl⟩
  · exact ⟨rfl, rfl, rfl⟩

/-- How a sequence has gone on is read from the builder, its coil apart, the hold unit and the clock. -/
theorem goesOn_congr {n : Nat} {q : CutSequence} {t u : State} (goes : goesOn n q t) {c : Option CurrentCoil}
    (builder : u.builder = { t.builder with current := c }) (hold : u.hold = t.hold) (now : u.now = t.now) : goesOn n q u := by
  rw [goesOn, builder, hold, now]
  exact goes

/-- A re-seating is what the statements say of one, whatever is recorded in the coil after it. -/
theorem reseat_reseats {s t : State} {cur next : CurrentCoil} (current : s.builder.current = some cur) (tag : Nat)
    (answer : Option LotAnswer) (seated : SeatedAs (lateCoil s (retagged s tag answer cur)) next)
    (builder : ∃ c, t.builder = { (reseat tag answer s).builder with current := c }) (link : t.link = (reseat tag answer s).link)
    (hold : t.hold = (reseat tag answer s).hold) (now : t.now = s.now) : reseats s t cur next tag answer := by
  obtain ⟨c, builder⟩ := builder
  rw [reseat_eq current] at builder link hold
  obtain ⟨entryRef, reading, start, planned, target, package, lotTag⟩ := seated
  obtain ⟨tag', start', reading'⟩ := retagged_seat s tag answer cur
  obtain ⟨tag'', start'', reading''⟩ := lateCoil_seat s (retagged s tag answer cur)
  refine ⟨lotTag.trans (tag''.trans tag'), reading.trans (reading''.trans reading'), fun own held => ?_, fun free => ?_, ?_, ?_, ?_⟩
  · have same := dropEntry_own answer own
    have keeps : lateCoil s (retagged s tag answer cur) = retagged s tag answer cur := by
      refine if_neg fun ⟨_, free, targetless⟩ => ?_
      rw [same] at free targetless
      rcases held with held | held
      · exact absurd (held.symm.trans free) nofun
      · exact held targetless
    rw [keeps, same] at entryRef target package planned reading
    rw [entryRef, target, package, planned, reading]
    exact ⟨rfl, rfl, rfl, rfl⟩
  · have freed : (retagged s tag answer cur).entryRef = false ∧ (retagged s tag answer cur).record.target = 0 ∧
        (retagged s tag answer cur).record.planned = none := by
      by_cases foreign : entryIsForeign s cur tag
      · exact dropEntry_foreign answer foreign
      · obtain ⟨unheld, targetless⟩ := free.resolve_left foreign
        rw [dropEntry_own answer foreign]
        exact ⟨unheld, targetless, if_pos targetless⟩
    obtain ⟨unheld, targetless, unplanned⟩ := freed
    refine ⟨fun e rest building plan same => ?_, fun none_fits => ?_, fun e rest building plan named other => ?_⟩
    · have taken : lateCoil s (retagged s tag answer cur) = takeEntry e (retagged s tag answer cur) := by
        rw [lateCoil, if_pos ⟨building, unheld, targetless⟩, plan]
        exact if_pos (by simpa [entryMatches] using same)
      rw [taken] at entryRef target package planned reading
      rw [entryRef, target, package, planned, reading, ← start']
      exact ⟨rfl, rfl, rfl, rfl⟩
    · have keeps : lateCoil s (retagged s tag answer cur) = retagged s tag answer cur := by
        unfold lateCoil
        split
        · next late =>
          rcases none_fits with other | empty | ⟨e, rest, plan, named, other⟩
          · exact absurd late.1 other
          · rw [empty]
          · rw [plan]
            exact if_neg (by simp [entryMatches, named, other])
        · rfl
      rw [keeps] at entryRef target planned
      exact ⟨entryRef.trans unheld, target.trans targetless, planned.trans unplanned⟩
    · rw [link, cutTest_link]
      change hasCondition .planMismatch (latchedLate s (retagged s tag answer cur)) = true
      rw [latchedLate, if_pos ⟨building, unheld, targetless⟩, plan]
      dsimp only
      rw [if_neg (by simp [entryMatches, named, other])]
      exact hasCondition_latch _ _
  · intro building reached
    have goes := cutTest_goesOn (s := lateSeat s (retagged s tag answer cur)) building rfl
      ((cutIsReached_congr rfl rfl rfl rfl _ _).2 ((cutIsReached_seat start planned _).1.1 reached))
    have sequence := sequenceReached_reachedSequence (lateSeat s (retagged s tag answer cur))
      (lateCoil s (retagged s tag answer cur))
    have clock : (cutTest (lateSeat s (retagged s tag answer cur))).now = s.now :=
      (cutTest_frame (lateSeat s (retagged s tag answer cur)) (bs := [.builder, .hold, .port])) .now (by decide)
    exact ⟨_, ((cutIsReached_seat start planned _).2 _).2 ((sequenceReached_congr rfl rfl rfl rfl _ _ _).1 sequence),
      goesOn_congr goes builder hold (now.trans clock.symm)⟩
  · intro building ahead
    have same : cutTest (lateSeat s (retagged s tag answer cur)) = lateSeat s (retagged s tag answer cur) := cutTest_ahead rfl
      fun reached => ahead ((cutIsReached_seat start planned _).1.2 ((cutIsReached_congr rfl rfl rfl rfl _ _).1 reached))
    rw [builder, same]
    exact ⟨building, rfl⟩
  · intro cutting
    have same : cutTest (lateSeat s (retagged s tag answer cur)) = lateSeat s (retagged s tag answer cur) := cutTest_idle cutting
    rw [builder, same]
    exact ⟨rfl, rfl⟩

theorem reseat_current {s : State} {cur : CurrentCoil} (current : s.builder.current = some cur) (tag : Nat)
    (answer : Option LotAnswer) : (reseat tag answer s).builder.current = some (lateCoil s (retagged s tag answer cur)) := by
  rw [reseat_eq current, cutTest_builder]
  rfl

/-- A re-seating leaves what the coil has recorded. -/
theorem reseat_record (s : State) (cur : CurrentCoil) (tag : Nat) (answer : Option LotAnswer) :
    (lateCoil s (retagged s tag answer cur)).record.events = cur.record.events ∧
      (lateCoil s (retagged s tag answer cur)).record.unlisted = cur.record.unlisted := by
  have first : (retagged s tag answer cur).record.events = cur.record.events ∧
      (retagged s tag answer cur).record.unlisted = cur.record.unlisted := by
    rw [retagged, dropEntry]
    split <;> exact ⟨rfl, rfl⟩
  generalize retagged s tag answer cur = c at first ⊢
  unfold lateCoil
  split
  · split
    · exact first
    · split <;> exact first
  · exact first

/-! ## The cases of a fired boundary mark (R134) -/

theorem isClaim_iff (m : Mark) (s : State) : isClaim m s = true ↔
    ∃ q c, s.builder.sequence = some q ∧ q.claim = some c ∧ c.origin = m.origin := by
  simp [isClaim, Option.any_eq_true]

theorem isOutstanding_iff (m : Mark) (s : State) : isOutstanding m s = true ↔
    ∃ c, s.builder.outstanding = some c ∧ c.origin = m.origin := by
  simp [isOutstanding, Option.any_eq_true]

/-- A coil with a mark recorded. -/
def withMark (m : Mark) (absorbed void : Bool) (cur : CurrentCoil) : CurrentCoil :=
  { cur with record := recordMark m absorbed void cur.record }

theorem builderTakes_boundary {m : Mark} {answer : Option LotAnswer} {s r : State} {x : CurrentCoil} {absorbed void : Bool}
    (atWork : s.builder.state ≠ .off) (boundary : m.kind.isBoundary = true)
    (effect : boundaryEffect m answer s = (r, absorbed, void)) (current : r.builder.current = some x) :
    builderTakes m answer s = r.withBuilder { r.builder with current := some (withMark m absorbed void x) } := by
  rw [builderTakes, if_neg atWork, if_pos boundary, effect]
  exact changeRecord_eq current _

theorem withMark_seatedAs (m : Mark) (absorbed void : Bool) (x : CurrentCoil) : SeatedAs x (withMark m absorbed void x) := by
  obtain ⟨start, planned, target, package, lotTag⟩ := recordMark_seat m absorbed void x.record
  exact ⟨rfl, rfl, start, planned, target, package, lotTag⟩

/-- A mark that re-seats the coil before it is recorded. -/
theorem reseated {m : Mark} {answer : Option LotAnswer} {s u : State} {cur : CurrentCoil} {absorbed : Bool}
    (atWork : s.builder.state ≠ .off) (boundary : m.kind.isBoundary = true) (current : u.builder.current = some cur)
    (effect : boundaryEffect m answer s = (reseat m.lotTag answer u, absorbed, false)) :
    ∃ next, (builderTakes m answer s).builder.current = some next ∧ recordsBoundary m absorbed false cur next ∧
      reseats u (builderTakes m answer s) cur next m.lotTag answer ∧
      (builderTakes m answer s).builder.outstanding = u.builder.outstanding := by
  have coil := reseat_current current m.lotTag answer
  have takes := builderTakes_boundary atWork boundary effect coil
  obtain ⟨events, unlisted⟩ := reseat_record u cur m.lotTag answer
  have start : (lateCoil u (retagged u m.lotTag answer cur)).record.start = cur.record.start :=
    (lateCoil_seat u _).2.1.trans (retagged_seat u m.lotTag answer cur).2.1
  have now : (reseat m.lotTag answer u).now = u.now :=
    (reseat_frame m.lotTag answer u (bs := [.builder, .hold, .port, .link])) .now (by decide)
  have outstanding : (reseat m.lotTag answer u).builder.outstanding = u.builder.outstanding := by
    rw [reseat_eq current, cutTest_builder]
    rfl
  refine ⟨withMark m absorbed false (lateCoil u (retagged u m.lotTag answer cur)), ?_, ?_, ?_, ?_⟩
  · rw [takes]
    rfl
  · exact recordMark_recordsBoundary m absorbed false start events unlisted
  · exact reseat_reseats current m.lotTag answer (withMark_seatedAs m absorbed false _) ⟨_, by rw [takes]; rfl⟩ (by rw [takes]; rfl)
      (by rw [takes]; rfl) (by rw [takes]; exact now)
  · rw [takes]
    exact outstanding

theorem withMark_recordsBoundary (m : Mark) (absorbed void : Bool) (cur : CurrentCoil) :
    recordsBoundary m absorbed void cur (withMark m absorbed void cur) :=
  recordMark_recordsBoundary m absorbed void rfl rfl rfl

theorem cause_boundary {m : Mark} (boundary : m.kind = .cutRequest ∨ m.kind = .lotChange) : m.kind.cause = causeOf m := by
  rcases boundary with kind | kind <;> rw [causeOf, kind] <;> rfl

/-- A mark that starts a sequence as its claim (R126, R134). -/
theorem sequenceStarted {m : Mark} {answer : Option LotAnswer} {s : State} {cur : CurrentCoil}
    (atWork : s.builder.state ≠ .off) (boundary : m.kind = .cutRequest ∨ m.kind = .lotChange) (current : s.builder.current = some cur)
    (effect : boundaryEffect m answer s =
      (startSequence (withTarget s cur (oneCause m.kind.cause)) (some m) true s, false, false)) :
    (builderTakes m answer s).builder.current = some (withMark m false false cur) ∧
      ∃ q, q.claim = some (claimFor m) ∧ q.claimFired = true ∧ q.boundary = boundaryFor m ∧
        (∀ c, hasCause c q.causes = true ↔ c = causeOf m ∨
          (c = .target ∧ targetIsReached s cur.record s.length.runCount)) ∧
        goesOn s.builder.log.length q (builderTakes m answer s) := by
  have isBoundary : m.kind.isBoundary = true := by rcases boundary with kind | kind <;> rw [kind] <;> rfl
  have cause := cause_boundary boundary
  rw [startSequence] at effect
  have coil := goOn_builder (s.withBuilder { s.builder with
    sequence := some { causes := withTarget s cur (oneCause m.kind.cause), claim := some (claimOf m), claimFired := true
                       boundary := boundaryOf m } })
  have goes := goesOn_goOn (s := s.withBuilder { s.builder with
    sequence := some { causes := withTarget s cur (oneCause m.kind.cause), claim := some (claimOf m), claimFired := true
                       boundary := boundaryOf m } }) rfl
  have takes := builderTakes_boundary (x := cur) atWork isBoundary effect (by
    refine (congrArg CoilBuilder.current coil).trans ?_
    exact current)
  rw [takes]
  refine ⟨rfl, _, rfl, rfl, rfl, fun c => ?_, goesOn_congr goes rfl rfl rfl⟩
  rw [hasCause_withTarget, hasCause_oneCause, cause, targetReached_iff_targetIsReached, or_comm]

theorem boundaryEffect_claim {m : Mark} (answer : Option LotAnswer) {s : State} (claim : isClaim m s = true) :
    boundaryEffect m answer s = (s.withBuilder { s.builder with
      sequence := s.builder.sequence.map fun q => { q with claimFired := true } }, false, false) := if_pos claim

theorem boundaryEffect_outstanding {m : Mark} (answer : Option LotAnswer) {s : State} (unclaimed : ¬isClaim m s = true)
    (outstanding : isOutstanding m s = true) : boundaryEffect m answer s =
      (if m.kind = .lotChange then reseat m.lotTag answer (s.withBuilder { s.builder with outstanding := none })
        else s.withBuilder { s.builder with outstanding := none }, false, false) :=
  (if_neg unclaimed).trans (if_pos outstanding)

theorem boundaryEffect_void {m : Mark} {s : State} (unclaimed : ¬isClaim m s = true) (settled : ¬isOutstanding m s = true) :
    boundaryEffect m (some .void) s = (s, false, true) :=
  (if_neg unclaimed).trans ((if_neg settled).trans (if_pos rfl))

theorem boundaryEffect_joins {m : Mark} {answer : Option LotAnswer} {s : State} (unclaimed : ¬isClaim m s = true)
    (settled : ¬isOutstanding m s = true) (valid : answer ≠ some .void)
    (idle : s.builder.state = .building → s.builder.current = none) :
    boundaryEffect m answer s = (joinCauses m s, false, false) := by
  rw [boundaryEffect, if_neg unclaimed, if_neg settled, if_neg valid]
  split
  · next building current => exact absurd (current.symm.trans (idle building)) nofun
  · rfl

theorem boundaryEffect_building {m : Mark} {answer : Option LotAnswer} {s : State} {cur : CurrentCoil}
    (unclaimed : ¬isClaim m s = true) (settled : ¬isOutstanding m s = true) (valid : answer ≠ some .void)
    (building : s.builder.state = .building) (current : s.builder.current = some cur) : boundaryEffect m answer s =
      if clearsSpacing s cur.record.start m.position then
        (startSequence (withTarget s cur (oneCause m.kind.cause)) (some m) true s, false, false)
      else (if m.kind = .lotChange then reseat m.lotTag answer s else s, true, false) := by
  rw [boundaryEffect, if_neg unclaimed, if_neg settled, if_neg valid, building, current]

theorem clearsSpacing_iff (s : State) (start position : Nat) : clearsSpacing s start position = true ↔
    start + s.profile.minimumCutSpacing ≤ position ∧ start < position := by
  simp [clearsSpacing]

theorem startSequence_takeSerial (causes : CauseSet) (claim : Option Mark) (fired : Bool) (s : State) :
    (startSequence causes claim fired (takeSerial s)).builder = (startSequence causes claim fired s).builder := by
  have goes (u v : State) (builder : u.builder = v.builder) (now : u.now = v.now) : (goOn u).builder = (goOn v).builder := by
    obtain room | full := Nat.lt_or_ge v.builder.log.length 8
    · rw [(goOn_cutting room).1, (goOn_cutting (builder ▸ room)).1, builder, now]
    · rw [(goOn_cutDue full).1, (goOn_cutDue (builder ▸ full)).1, builder]
  exact goes _ _ rfl rfl

/-- A CUT_REQUEST does the same to the builder whatever serial the mark list gives next. -/
theorem boundaryEffect_takeSerial {m : Mark} (cut : m.kind = .cutRequest) (s : State) :
    (boundaryEffect m none (takeSerial s)).1.builder = (boundaryEffect m none s).1.builder ∧
      (boundaryEffect m none (takeSerial s)).2 = (boundaryEffect m none s).2 := by
  have notLot : m.kind ≠ .lotChange := by rw [cut]; nofun
  by_cases claim : isClaim m s = true
  · rw [boundaryEffect_claim none claim, boundaryEffect_claim none (s := takeSerial s) claim]
    exact ⟨rfl, rfl⟩
  by_cases outstanding : isOutstanding m s = true
  · rw [boundaryEffect_outstanding none claim outstanding, boundaryEffect_outstanding none (s := takeSerial s) claim outstanding,
      if_neg notLot, if_neg notLot]
    exact ⟨rfl, rfl⟩
  have valid : (none : Option LotAnswer) ≠ some .void := nofun
  by_cases coil : s.builder.state = .building ∧ ∃ cur, s.builder.current = some cur
  · obtain ⟨building, cur, current⟩ := coil
    rw [boundaryEffect_building claim outstanding valid building current,
      boundaryEffect_building (s := takeSerial s) claim outstanding valid building current, if_neg notLot, if_neg notLot]
    by_cases clears : clearsSpacing s cur.record.start m.position = true
    · rw [if_pos clears, if_pos (show clearsSpacing (takeSerial s) cur.record.start m.position = true from clears)]
      exact ⟨startSequence_takeSerial _ _ _ s, rfl⟩
    · rw [if_neg clears, if_neg (show ¬clearsSpacing (takeSerial s) cur.record.start m.position = true from clears)]
      exact ⟨rfl, rfl⟩
  · have idle (building : s.builder.state = .building) : s.builder.current = none :=
      Option.eq_none_iff_forall_ne_some.2 fun cur current => coil ⟨building, cur, current⟩
    rw [boundaryEffect_joins claim outstanding valid idle, boundaryEffect_joins (s := takeSerial s) claim outstanding valid idle]
    exact ⟨rfl, rfl⟩

theorem builderTakes_takeSerial {m : Mark} (cut : m.kind = .cutRequest) (s : State) :
    (builderTakes m none (takeSerial s)).builder = (builderTakes m none s).builder := by
  have boundary : m.kind.isBoundary = true := by rw [cut]; rfl
  obtain ⟨builder, flags⟩ := boundaryEffect_takeSerial cut s
  by_cases off : s.builder.state = .off
  · rw [builderTakes, if_pos (show (takeSerial s).builder.state = .off from off), builderTakes, if_pos off]
    rfl
  · rw [builderTakes, if_neg (show (takeSerial s).builder.state ≠ .off from off), if_pos boundary, builderTakes, if_neg off,
      if_pos boundary]
    dsimp only
    rw [flags, changeRecord, changeCoil, builder]
    rfl

theorem relay_here {m : Mark} (here : m.source = .here) (s : State) : relay m s = s := by
  have added : relayedBy m = none := by
    unfold relayedBy
    split
    · next source => cases here.symm.trans source
    · rfl
  rw [relay, added]

/-- A CUT_REQUEST of the host at the run count is handed on to the builder (R39, R44). -/
theorem exec_markPlace_cutRequest (fill : Nat) {s : State} (running : s.station = .running) (below : s.length.runCount ≤ maxCount)
    (fresh : ∀ w ∈ s.marks.marks, w.origin ≠ { station := s.stationNumber, serial := s.marks.nextSerial }) :
    ∃ t, exec (.markPlace 7 0 0 fill) s = .next t ∧ Replies (10 + fill) (done (be 2 s.marks.nextSerial ++ [0])) s t ∧
      t.builder = (builderTakes (hostMark .cutRequest 0 0 s) none s).builder := by
  have fires : placementOf (hostMark .cutRequest 0 0 s) s = .fires := placementOf_fires fresh
    (nofun : MarkKind.cutRequest ≠ .lotChange) le_rfl
  have exec_eq := exec_markPlace (kind := 7) (offset := 0) (detail := 0) (k := .cutRequest) fill running
    (placeKind_cutRequest (Nat.zero_le _)) below (fun ahead => absurd ahead (Nat.lt_irrefl 0))
  refine ⟨_, exec_eq, ?_, ?_⟩
  · rw [show placementOf (hostMark .cutRequest 0 0 s) s = .fires from fires]
    exact replies_finishFrame _ _ (placeMark_talkless _ (takeSerial s))
  · rw [finishFrame_builder, placeMark_fires (s := takeSerial s) (nofun : MarkKind.cutRequest ≠ .lotChange) fires, fireOrdinary,
      relay_here rfl, (forward_frame _ _ (bs := [.port, .link])) .builder (by decide)]
    exact builderTakes_takeSerial (m := hostMark .cutRequest 0 0 s) rfl s

/-- The LOT_CHANGE of a LOT START is handed on to the builder, after the lot unit has acted on it (R113, R116). -/
theorem exec_lotStart_builder (fill : Nat) {tag : Nat} {s : State} (running : s.station = .running) (named : tag ≠ 0)
    (other : tag ≠ s.lots.activeTag) (alone : ∀ w ∈ s.marks.marks, w.kind = .lotChange → w.lotTag ≠ tag)
    (fresh : ∀ w ∈ s.marks.marks, w.origin ≠ { station := s.stationNumber, serial := s.marks.nextSerial }) :
    ∃ t, exec (.lotStart tag fill) s = .next t ∧
      t.builder = (builderTakes (startMark tag s) (some (lotAnswer s tag)) (lotChange tag (takeSerial s))).builder := by
  refine ⟨_, exec_lotStart_taken fill (startRefusal_taken running named other), ?_⟩
  rw [finishFrame_builder]
  have alone' : sameLotWaiting (startMark tag s) (takeSerial s) = none :=
    Option.eq_none_iff_forall_ne_some.2 fun w waiting => by
      obtain ⟨-, mem, kind, same⟩ := sameLotWaiting_spec waiting
      exact alone w mem kind same
  have unmerged : mergedOut (startMark tag s) (takeSerial s) = none := by
    rw [mergedOut, alone']
    rfl
  have placed : placeMark (startMark tag s) (takeSerial s) = fireMark (startMark tag s) (takeSerial s) := by
    rw [placeMark, placementOf_lotChange_fires (unmerged.trans alone'.symm) fresh le_rfl]
    dsimp only
    rw [offerMerge, mergeOut, unmerged]
    rfl
  rw [placed, fireMark_lotChange _ rfl, (forward_frame _ _ (bs := [.port, .link])) .builder (by decide)]
  rfl

/-- Settles O40: the cases of the builder's part in order, and then the two commands that hand a mark on to it. -/
theorem boundaryMarkCutsOrIsAbsorbed : Obligations.BoundaryMarkCutsOrIsAbsorbed := by
  refine ⟨?_, fun fill s running below _ fresh => exec_markPlace_cutRequest fill running below fresh,
    fun tag fill s running named other _ alone fresh => exec_lotStart_builder fill running named other alone fresh⟩
  rintro m answer s t cur atWork current kinds rfl
  have boundary : m.kind = .cutRequest ∨ m.kind = .lotChange := kinds.imp And.left And.left
  have isBoundary : m.kind.isBoundary = true := by rcases boundary with kind | kind <;> rw [kind] <;> rfl
  have frame := builderTakes_frame m answer s (bs := [.builder, .hold, .port, .link])
  rw [← isClaim_iff, ← isOutstanding_iff]
  by_cases claim : isClaim m s = true
  · obtain ⟨q, c, sequence, claimed, origin⟩ := (isClaim_iff m s).1 claim
    have effect := boundaryEffect_claim answer claim
    rw [sequence] at effect
    have takes := builderTakes_boundary (x := cur) atWork isBoundary effect current
    refine ⟨withMark m false false cur, by rw [takes]; rfl, frame, fun q' sequence' _ => ?_, fun no => absurd claim no⟩
    cases sequence.symm.trans sequence'
    rw [takes]
    exact ⟨withMark_recordsBoundary m false false cur, rfl, (withBuilder s _).trans (withBuilder _ _)⟩
  have noClaim (q : CutSequence) (sequence : s.builder.sequence = some q) (claimed : ∃ c, q.claim = some c ∧ c.origin = m.origin) :
      False := by
    obtain ⟨c, claimed, origin⟩ := claimed
    exact claim ((isClaim_iff m s).2 ⟨q, c, sequence, claimed, origin⟩)
  by_cases outstanding : isOutstanding m s = true
  · have effect := boundaryEffect_outstanding answer claim outstanding
    rcases kinds with ⟨kind, -⟩ | ⟨kind, -⟩
    · rw [if_neg (by rw [kind]; nofun)] at effect
      have takes := builderTakes_boundary (x := cur) atWork isBoundary effect current
      refine ⟨withMark m false false cur, by rw [takes]; rfl, frame, fun q sequence claimed => (noClaim q sequence claimed).elim,
        fun _ => ⟨fun _ => ⟨withMark_recordsBoundary m false false cur, by rw [takes]; rfl, fun lot => ?_, fun _ => ?_⟩,
          fun no => absurd outstanding no⟩⟩
      · rw [kind] at lot
        cases lot
      · rw [takes]
        exact ⟨rfl, (withBuilder s _).trans (withBuilder _ _)⟩
    · rw [if_pos kind] at effect
      obtain ⟨next, coil, records, seats, settled⟩ := reseated (u := s.withBuilder { s.builder with outstanding := none })
        atWork isBoundary current effect
      refine ⟨next, coil, frame, fun q sequence claimed => (noClaim q sequence claimed).elim,
        fun _ => ⟨fun _ => ⟨records, settled, fun _ => seats, fun cut => ?_⟩, fun no => absurd outstanding no⟩⟩
      rw [kind] at cut
      cases cut
  by_cases void : answer = some .void
  · subst void
    have takes := builderTakes_boundary (x := cur) atWork isBoundary (boundaryEffect_void claim outstanding) current
    refine ⟨withMark m false true cur, by rw [takes]; rfl, frame, fun q sequence claimed => (noClaim q sequence claimed).elim,
      fun _ => ⟨fun is => absurd is outstanding, fun _ => ⟨fun _ => ?_, fun q valid => absurd rfl valid, fun valid => absurd rfl valid,
        fun valid => absurd rfl valid⟩⟩⟩
    rw [takes]
    exact ⟨withMark_recordsBoundary m false true cur, rfl, withBuilder s _⟩
  by_cases building : s.builder.state = .building
  · have effect := boundaryEffect_building claim outstanding void building current
    by_cases clears : clearsSpacing s cur.record.start m.position = true
    · rw [if_pos clears] at effect
      obtain ⟨coil, starts⟩ := sequenceStarted atWork boundary current effect
      obtain ⟨spaced, past⟩ := (clearsSpacing_iff _ _ _).1 clears
      exact ⟨withMark m false false cur, coil, frame, fun q sequence claimed => (noClaim q sequence claimed).elim,
        fun _ => ⟨fun is => absurd is outstanding, fun _ => ⟨fun is => absurd is void, fun q _ other => absurd building other,
          fun _ _ near => by omega, fun _ _ _ _ => ⟨withMark_recordsBoundary m false false cur, starts⟩⟩⟩⟩
    · rw [if_neg clears] at effect
      have near (spaced : cur.record.start + s.profile.minimumCutSpacing ≤ m.position) (past : cur.record.start < m.position) :
          False := clears ((clearsSpacing_iff _ _ _).2 ⟨spaced, past⟩)
      rcases kinds with ⟨kind, -⟩ | ⟨kind, -⟩
      · rw [if_neg (by rw [kind]; nofun)] at effect
        have takes := builderTakes_boundary (x := cur) atWork isBoundary effect current
        refine ⟨withMark m true false cur, by rw [takes]; rfl, frame, fun q sequence claimed => (noClaim q sequence claimed).elim,
          fun _ => ⟨fun is => absurd is outstanding, fun _ => ⟨fun is => absurd is void, fun q _ other => absurd building other,
            fun _ _ _ => ⟨withMark_recordsBoundary m true false cur, fun lot => ?_, fun _ => ?_⟩,
            fun _ _ spaced past => (near spaced past).elim⟩⟩⟩
        · rw [kind] at lot
          cases lot
        · rw [takes]
          exact ⟨rfl, withBuilder s _⟩
      · rw [if_pos kind] at effect
        obtain ⟨next, coil, records, seats, -⟩ := reseated atWork isBoundary current effect
        refine ⟨next, coil, frame, fun q sequence claimed => (noClaim q sequence claimed).elim,
          fun _ => ⟨fun is => absurd is outstanding, fun _ => ⟨fun is => absurd is void, fun q _ other => absurd building other,
            fun _ _ _ => ⟨records, fun _ => seats, fun cut => ?_⟩, fun _ _ spaced past => (near spaced past).elim⟩⟩⟩
        rw [kind] at cut
        cases cut
  · have effect := boundaryEffect_joins claim outstanding void fun is => absurd is building
    have takes := builderTakes_boundary (x := cur) atWork isBoundary effect current
    refine ⟨withMark m false false cur, by rw [takes]; rfl, frame, fun q sequence claimed => (noClaim q sequence claimed).elim,
      fun _ => ⟨fun is => absurd is outstanding, fun _ => ⟨fun is => absurd is void, fun q _ _ sequence => ?_,
        fun _ is => absurd is building, fun _ is => absurd is building⟩⟩⟩
    have joined : (if q.boundary = none then boundaryFor m else q.boundary) = (q.boundary <|> boundaryOf m) := by
      cases q.boundary <;> rfl
    rw [takes, joinCauses, sequence, joined, ← cause_boundary boundary]
    exact ⟨withMark_recordsBoundary m false false cur, rfl, (withBuilder s _).trans (withBuilder _ _)⟩

end Sys2Proof.Machine
end

section
/-! PROOFS. The cut test of an advance (8.4, 1.7): what leaves a cut sequence alone, and O39. -/

namespace Sys2Proof.Machine

-- One theorem after another: side by side they need more threads than the memory of the check allows.
set_option Elab.async false

open SameOutside

/-! ## What leaves the cut sequence alone -/

/-- A step that leaves the cut sequence as it is, and all that the cut test reads: of the builder only the record of the
current coil changes, of the hold unit not CUT and LOG_FULL. -/
structure KeepsCut (s t : State) : Prop where
  builder : t.builder = { s.builder with current := t.builder.current }
  coil : ∀ cur, s.builder.current = some cur → ∃ next, t.builder.current = some next ∧
    next.record.start = cur.record.start ∧ next.record.planned = cur.record.planned
  cut : hasReason .cut t.hold.own = hasReason .cut s.hold.own
  logFull : hasReason .logFull t.hold.own = hasReason .logFull s.hold.own
  waiting : t.marks.marks = s.marks.marks
  length : t.length = s.length
  profile : t.profile = s.profile
  lots : t.lots = s.lots
  now : t.now = s.now

namespace KeepsCut

theorem refl (s : State) : KeepsCut s s := ⟨rfl, fun cur h => ⟨cur, h, rfl, rfl⟩, rfl, rfl, rfl, rfl, rfl, rfl, rfl⟩

theorem trans {s t u : State} (a : KeepsCut s t) (b : KeepsCut t u) : KeepsCut s u where
  builder := by rw [b.builder, a.builder]
  coil cur h := by
    obtain ⟨mid, hmid, start, planned⟩ := a.coil cur h
    obtain ⟨next, hnext, start', planned'⟩ := b.coil mid hmid
    exact ⟨next, hnext, start'.trans start, planned'.trans planned⟩
  cut := b.cut.trans a.cut
  logFull := b.logFull.trans a.logFull
  waiting := b.waiting.trans a.waiting
  length := b.length.trans a.length
  profile := b.profile.trans a.profile
  lots := b.lots.trans a.lots
  now := b.now.trans a.now

/-- A step that leaves the builder, the hold unit and the blocks that the cut test reads. -/
theorem of_frame {bs : List Block} {s t : State} (frame : SameOutside bs s t)
    (h : ∀ b ∈ [Block.builder, .hold, .marks, .length, .profile, .lots, .now], b ∉ bs := by decide) : KeepsCut s t := by
  have hold : t.hold = s.hold := frame .hold (h _ (by decide))
  have builder : t.builder = s.builder := frame .builder (h _ (by decide))
  refine ⟨by rw [builder], fun cur current => ⟨cur, by rw [builder]; exact current, rfl, rfl⟩, by rw [hold], by rw [hold],
    congrArg MarkList.marks (frame .marks (h _ (by decide))), frame .length (h _ (by decide)), frame .profile (h _ (by decide)),
    frame .lots (h _ (by decide)), frame .now (h _ (by decide))⟩

/-- A change of the record of the current coil that keeps its start and its planned cut position. -/
theorem changeRecord {f : Coil → Coil} (seat : ∀ c, (f c).start = c.start ∧ (f c).planned = c.planned) (s : State) :
    KeepsCut s (changeRecord f s) where
  builder := rfl
  coil cur current := by
    obtain ⟨start, planned⟩ := seat cur.record
    exact ⟨{ cur with record := f cur.record }, by rw [Machine.changeRecord, changeCoil, current]; rfl, start, planned⟩
  cut := rfl
  logFull := rfl
  waiting := rfl
  length := rfl
  profile := rfl
  lots := rfl
  now := rfl

theorem lossTest (is : List LossInterval) (s : State) : KeepsCut s (lossTest is s) := by
  unfold Machine.lossTest
  split
  · split
    · exact changeRecord (f := fun c => { c with flags := { c.flags with incomplete := true } }) (fun _ => ⟨rfl, rfl⟩) s
    · exact refl s
  · exact refl s

/-- An ordinary mark raised at or behind the run count is recorded, and makes no cut test. -/
theorem raiseMark {r : Raising} {s : State} (ordinary : r.kind.isBoundary = false) (reached : r.position ≤ s.length.runCount) :
    KeepsCut s (raiseMark r s) := by
  have here : (completeMark r s).position ≤ (takeSerial s).length.runCount := completeMark_le_runCount reached
  have kind : ¬(completeMark r s).kind.isBoundary = true := Bool.eq_false_iff.1 ordinary
  have serial : KeepsCut s (takeSerial s) := ⟨rfl, fun cur h => ⟨cur, h, rfl, rfl⟩, rfl, rfl, rfl, rfl, rfl, rfl, rfl⟩
  rw [Machine.raiseMark, placeOrdinary]
  obtain dup | away | ⟨fires, -⟩ | ⟨ahead, -⟩ := placementOf_cases (completeMark r s) (takeSerial s)
  · rw [dup]
    exact serial.trans ⟨rfl, fun cur h => ⟨cur, h, rfl, rfl⟩, rfl, rfl, rfl, rfl, rfl, rfl, rfl⟩
  · rw [away]
    exact serial
  · rw [fires]
    dsimp only
    rw [fireOrdinary, relay_completeMark, builderTakes, if_neg kind]
    have forwards (t : State) : KeepsCut t (forward (completeMark r s) t) := of_frame (forward_frame _ t (bs := [.port, .link]))
    refine serial.trans (KeepsCut.trans ?_ (forwards _))
    split
    · exact refl _
    · exact changeRecord (fun c => ⟨(recordMark_seat _ false false c).1, (recordMark_seat _ false false c).2.1⟩) _
  · omega

theorem layStopTest (w : LayWorkingSet) (dev : Int) (s : State) : KeepsCut s (layStopTest w dev s) := by
  have frame := layStopTest_frame w dev s (bs := [.hold, .port, .link])
  have own : (Machine.layStopTest w dev s).hold.own = s.hold.own ∨
      (Machine.layStopTest w dev s).hold.own = giveReason .layStop s.hold.own := by
    unfold Machine.layStopTest
    split
    · exact .inr (giveHold_own _ _)
    · exact .inl rfl
  have builder : (Machine.layStopTest w dev s).builder = s.builder := frame .builder (by decide)
  refine ⟨by rw [builder], fun cur current => ⟨cur, by rw [builder]; exact current, rfl, rfl⟩, ?_, ?_,
    congrArg MarkList.marks (frame .marks (by decide)), frame .length (by decide), frame .profile (by decide),
    frame .lots (by decide), frame .now (by decide)⟩
  · rcases own with own | own <;> rw [own]
    exact hasReason_give_other _ _ _ (by decide)
  · rcases own with own | own <;> rw [own]
    exact hasReason_give_other _ _ _ (by decide)

theorem measureLayRun (k : Nat) (s : State) : KeepsCut s (measureLayRun k s) := by
  unfold Machine.measureLayRun
  have ended : KeepsCut s (endLayRun s) := of_frame (endLayRun_frame s (bs := [.lay]))
  split
  · next run _ =>
    split
    · exact ended.trans (raiseMark (r := layFault run s.length.runCount) rfl (min_le_right _ _))
    · exact ended
  · exact refl s

theorem feedLayRun {start finish : Nat} (dev : Int) {s : State} (here : finish ≤ s.length.runCount) :
    KeepsCut s (feedLayRun start finish dev s) := by
  unfold Machine.feedLayRun
  simp only [extendLayRun_finish]
  split
  · next full =>
    refine (of_frame (endLayRun_frame s (bs := [.lay]))).trans (raiseMark rfl ?_)
    exact ((Nat.le_add_right _ _).trans full).trans here
  · exact of_frame (changeLay_frame _ s (bs := [.lay]))

theorem layCapTest {s : State} (fraction : s.length.fraction < 65536) : KeepsCut s (layCapTest s) := by
  unfold Machine.layCapTest
  split
  · next w win _ _ =>
    split
    · have stop := layStopTest w (deviationOf (layOf ((s.fullPosition : Int) - (win.start : Int)) win.twists) w.nominal) s
      rw [closeWindow]
      generalize Machine.layStopTest w _ s = t at stop ⊢
      refine stop.trans (KeepsCut.trans ?_ (of_frame (changeLay_frame _ _ (bs := [.lay]))))
      unfold layBandTest
      split
      · exact measureLayRun _ t
      · exact feedLayRun _ (by rw [stop.length]; exact (fullPosition_div fraction).le)
    · exact refl s
  · exact refl s

theorem capGauge (i : Nat) (s : State) : KeepsCut s (capGauge i s) := by
  unfold Machine.capGauge
  split
  · next run _ =>
    split
    · next full =>
      exact (raiseMark (r := gaugeFault run.start faultSpanCap true) rfl ((Nat.le_add_right _ _).trans full)).trans
        (of_frame (changeInput_frame _ _ _ (bs := [.sense])))
    · exact refl s
  · exact refl s

theorem capGauges (s : State) : KeepsCut s (capGauges s) := by
  unfold Machine.capGauges
  generalize List.range 32 = l
  induction l generalizing s with
  | nil => exact refl s
  | cons i rest ih => exact (capGauge i s).trans (ih _)

/-- A sequence that has gone on is found so by what leaves it alone. -/
theorem goesOn {n : Nat} {q : CutSequence} {s t : State} (kept : KeepsCut s t) (goes : goesOn n q s) : goesOn n q t := by
  obtain ⟨sequence, room, full⟩ := goes
  rw [Machine.goesOn, kept.builder, kept.cut, kept.logFull, kept.now]
  exact ⟨sequence, room, full⟩

end KeepsCut

/-! ## The builder's part in an advance (R12, R126) -/

/-- The part as the builder's part in an advance finds it, where no mark is reached. -/
theorem beforeCaps_ahead {s : State} (ahead : Ahead s) : ∃ x, KeepsCut s x ∧ beforeCaps s = cutTest (addTarget x) := by
  unfold beforeCaps
  rw [fireReached_ahead_eq _ ahead]
  refine ⟨_, (KeepsCut.lossTest s.feeds.losses s).trans (KeepsCut.of_frame (withLosses_frame _ _ (bs := [.feeds]))), rfl⟩

/-- What an advance that reaches no mark makes of a cut sequence: the test in BUILDING, and TARGET else. -/
structure AdvanceCuts (s : State) (cur : CurrentCoil) (t : State) : Prop where
  starts : s.builder.state = .building → cutIsReached s cur.record s.length.runCount →
    ∃ q, sequenceReached s cur.record s.length.runCount q ∧ goesOn s.builder.log.length q t
  stays : s.builder.state = .building → ¬cutIsReached s cur.record s.length.runCount →
    t.builder.state = .building ∧ t.builder.sequence = s.builder.sequence
  adds : ∀ q, s.builder.state ≠ .building → s.builder.sequence = some q → t.builder.state = s.builder.state ∧
    (targetIsReached s cur.record s.length.runCount →
      t.builder.sequence = some { q with causes := addCause .target q.causes }) ∧
    (¬targetIsReached s cur.record s.length.runCount → t.builder.sequence = some q)

theorem addTarget_sequence {s : State} {cur : CurrentCoil} (current : s.builder.current = some cur) :
    addTarget s = s.withBuilder { s.builder with
      sequence := s.builder.sequence.map fun q => { q with causes := withTarget s cur q.causes } } := by
  rw [addTarget, current]
  cases sequence : s.builder.sequence with
  | none =>
    have same : s.builder = { s.builder with sequence := none } := by rw [← sequence]
    exact congrArg s.withBuilder same
  | some q =>
    dsimp only
    rw [changeCauses, sequence]

/-- The cut test reads the same in two parts that differ in neither what it reads nor the seat of the coil. -/
theorem KeepsCut.reads {s t : State} (kept : KeepsCut s t) {c d : Coil} (start : d.start = c.start) (planned : d.planned = c.planned) :
    (cutIsReached t d t.length.runCount ↔ cutIsReached s c s.length.runCount) ∧
      (targetIsReached t d t.length.runCount ↔ targetIsReached s c s.length.runCount) ∧
      ∀ q, sequenceReached t d t.length.runCount q ↔ sequenceReached s c s.length.runCount q := by
  simp only [cutIsReached, sequenceReached, targetIsReached, reachAt, isCutPoint, qualifiesAt, kept.length, kept.profile,
    kept.waiting, kept.lots, start, planned, true_and, implies_true, iff_self]

/-- An advance that reaches no mark makes the cut test, or adds TARGET; what comes before and after leaves the sequence
alone. -/
theorem advance_cuts {s v t : State} {cur : CurrentCoil} (ahead : Ahead s) (current : s.builder.current = some cur)
    (first : KeepsCut s v) (after : KeepsCut (beforeCaps v) t) : AdvanceCuts s cur t := by
  have aheadThen : Ahead v := by
    unfold Ahead
    rw [first.waiting, first.length]
    exact ahead
  obtain ⟨x, second, test⟩ := beforeCaps_ahead aheadThen
  have before := first.trans second
  obtain ⟨next, coil, start, planned⟩ := before.coil cur current
  obtain ⟨cutReads, targetReads, sequenceReads⟩ := before.reads start planned
  rw [test, addTarget_sequence coil] at after
  have state : x.builder.state = s.builder.state := by rw [before.builder]
  have sequence : x.builder.sequence = s.builder.sequence := by rw [before.builder]
  have log : x.builder.log = s.builder.log := by rw [before.builder]
  have unmet (ahead : ¬targetIsReached s cur.record s.length.runCount) (causes : CauseSet) : withTarget x next causes = causes :=
    if_neg fun reached => ahead (targetReads.1 ((targetReached_iff_targetIsReached x next).1 reached))
  have met (reached : targetIsReached s cur.record s.length.runCount) (causes : CauseSet) :
      withTarget x next causes = addCause .target causes :=
    if_pos ((targetReached_iff_targetIsReached x next).2 (targetReads.2 reached))
  generalize isAdded : x.withBuilder { x.builder with
    sequence := x.builder.sequence.map fun q => { q with causes := withTarget x next q.causes } } = y at after
  have ycoil : y.builder.current = some next := by rw [← isAdded]; exact coil
  have ystate : y.builder.state = s.builder.state := by rw [← isAdded]; exact state
  have ysequence : y.builder.sequence = s.builder.sequence.map fun q => { q with causes := withTarget x next q.causes } := by
    rw [← isAdded, ← sequence]
    rfl
  have ycut : cutIsReached y next.record y.length.runCount ↔ cutIsReached s cur.record s.length.runCount := by
    rw [← isAdded]
    exact cutReads
  have yreads (q : CutSequence) : sequenceReached y next.record y.length.runCount q ↔
      sequenceReached s cur.record s.length.runCount q := by
    rw [← isAdded]
    exact sequenceReads q
  have ylog : y.builder.log = s.builder.log := by rw [← isAdded]; exact log
  refine ⟨fun building reached => ?_, fun building unreached => ?_, fun q cutting held => ?_⟩
  · have goes := cutTest_goesOn (ystate.trans building) ycoil (ycut.2 reached)
    rw [ylog] at goes
    exact ⟨_, (yreads _).1 (sequenceReached_reachedSequence y next), after.goesOn goes⟩
  · rw [cutTest_ahead ycoil fun reached => unreached (ycut.1 reached)] at after
    rw [after.builder]
    refine ⟨ystate.trans building, ysequence.trans ?_⟩
    have causes := unmet fun reached => unreached (.inl reached)
    simp only [causes]
    cases s.builder.sequence <;> rfl
  · rw [cutTest_idle (by rw [ystate]; exact cutting)] at after
    rw [after.builder]
    rw [held, Option.map_some] at ysequence
    refine ⟨ystate, fun reached => ?_, fun unreached => ?_⟩
    · exact ysequence.trans (by rw [met reached])
    · exact ysequence.trans (by rw [unmet unreached])

/-- Whatever the order of the lay cap test and the advance, what follows a move that rises cuts as an advance does. -/
theorem afterMove_cuts {old : Nat} {moved : State} {cur : CurrentCoil} (ahead : Ahead moved)
    (fraction : moved.length.fraction < 65536) (rises : old < moved.length.runCount)
    (current : moved.builder.current = some cur) : AdvanceCuts moved cur (afterMove old moved) := by
  have order : KeepsCut moved moved.useOrder := .of_frame (useOrder_frame moved (bs := [.orders]))
  unfold afterMove
  split
  · split
    · have capped : KeepsCut moved (layCapTest moved.useOrder) := order.trans (.layCapTest fraction)
      rw [handOnRise, if_pos (by rw [capped.length]; exact rises), advance_eq]
      exact advance_cuts ahead current capped (.capGauges _)
    · rw [handOnRise, order.length, if_pos rises, advance_eq]
      have caps := KeepsCut.capGauges (beforeCaps moved.useOrder)
      refine advance_cuts ahead current order (caps.trans (.layCapTest ?_))
      rw [caps.length, (beforeCaps_frame moved.useOrder (bs := firingBlocks)) .length (by decide)]
      exact fraction
  · rw [handOnRise, if_pos rises, advance_eq]
    exact advance_cuts ahead current (.refl moved) (.capGauges _)

theorem moveForward_fraction (p : Nat) (s : State) : (moveForward p s).length.fraction < 65536 := by
  by_cases below : p / 65536 < maxCount
  · rw [moveForward_below below]
    exact Nat.mod_lt _ (by decide)
  · rw [moveForward_ceiling (by omega), reachCeiling_length]
    exact (by decide : 65535 < 65536)

theorem moveForward_speed (p : Nat) (s : State) : (moveForward p s).length.speed = s.length.speed := by
  by_cases below : p / 65536 < maxCount
  · rw [moveForward_below below]
    rfl
  · rw [moveForward_ceiling (by omega), reachCeiling_length]

/-- Settles O39: targets, cut points and the cut test one by one, and then the test of an advance. -/
theorem nextCutFallsAtTargetOrBoundary : Obligations.NextCutFallsAtTargetOrBoundary := by
  refine ⟨relaxedLength_runTarget, boundaryReached_eq_some_iff, nextCutPosition_eq_some_iff,
    fun s cur current => ⟨fun building reached => ?_, ?_⟩, ?_⟩
  · exact ⟨_, sequenceReached_reachedSequence s cur, cutTest_goesOn building current reached, cutTest_frame s⟩
  · rintro (idle | ahead)
    · exact cutTest_idle idle
    · exact cutTest_ahead current ahead
  · intro wha whb s cur count running wheel forward live counted rises current ahead
    have next := exec_wheelChange_turnsForward wha whb s running wheel forward
    rw [forwardCount_eq (s := followed wha whb s) live] at next
    have runCount : (moveForward (s.fullPosition + s.profile.wheelStep) (followed wha whb s)).length.runCount = count := by
      rw [moveForward_runCount, counted]
    have same : SameOutside [.pins, .length, .hold, .port, .link] s
        (moveForward (s.fullPosition + s.profile.wheelStep) (followed wha whb s)) :=
      SameOutside.trans ((followed_frame wha whb s).mono (by decide)) (moveForward_frame _ _)
    have fraction := moveForward_fraction (s.fullPosition + s.profile.wheelStep) (followed wha whb s)
    have speed : (moveForward (s.fullPosition + s.profile.wheelStep) (followed wha whb s)).length.speed = s.length.speed :=
      moveForward_speed _ _
    have position : (followed wha whb s).fullPosition + (followed wha whb s).profile.wheelStep =
        s.fullPosition + s.profile.wheelStep := rfl
    rw [position] at next
    generalize moveForward (s.fullPosition + s.profile.wheelStep) (followed wha whb s) = moved at *
    have builder : moved.builder = s.builder := same .builder (by decide)
    have marks : moved.marks = s.marks := same .marks (by decide)
    have profile : moved.profile = s.profile := same .profile (by decide)
    have cuts := afterMove_cuts (old := (followed wha whb s).length.runCount) (moved := moved) (cur := cur)
      (by rw [Ahead, marks, runCount]; exact ahead) fraction (by rw [runCount]; exact rises) (by rw [builder]; exact current)
    have reads := cutIsReached_congr speed profile (congrArg MarkList.marks marks) (same .lots (by decide))
      cur.record count
    have sequenceReads := sequenceReached_congr speed profile (congrArg MarkList.marks marks)
      (same .lots (by decide)) cur.record count
    have targetReads : targetIsReached moved cur.record count ↔ targetIsReached s cur.record count := by
      simp only [targetIsReached, reachAt, speed, profile]
    obtain ⟨starts, stays, adds⟩ := cuts
    simp only [runCount, builder, reads, sequenceReads, targetReads] at starts stays adds
    refine ⟨_, next, ?_, starts, stays, adds⟩
    rw [(afterMove_frame _ moved (bs := advanceBlocks)) .length (by decide), runCount]

end Sys2Proof.Machine
end

section
/-! PROOFS. RESTART RUN block by block, and a new run begun (R185). -/

namespace Sys2Proof.Machine

-- One theorem after another: side by side they need more threads than the memory of the check allows.
set_option Elab.async false

open SameOutside

/-! ## The length unit, the hold unit and the port (R17, R142, R157) -/

theorem lengthRestart_length (s : State) : (lengthRestart s).length =
    { s.length with runCount := 0, fraction := 0, saturated := false, speed := 0, sampleBase := 0 } :=
  (setReasons_frame (removeReason .countLimit s.hold.own) (changeLength _ s) (bs := [.hold, .port])) .length (by decide)

theorem lengthRestart_reasons (s : State) : reasonsBecome (s.hold.own &&& ~~~64#7) s (lengthRestart s) :=
  setReasons_reasonsBecome (removeReason .countLimit s.hold.own) (changeLength _ s)

/-! ## The sense unit (R27) -/

/-- An input after a RESTART RUN. -/
def restartedInput (s : State) (i : Nat) : SenseInput :=
  { senseInput s i with gauge := if gaugeIsActive s i then some { start := 0, byCap := false } else none }

theorem senseInput_beyond {s : State} {i : Nat} (beyond : s.sense.inputs.length ≤ i) : senseInput s i = resetInput :=
  List.getD_eq_default _ _ beyond

/-- A place that the sense unit does not have reads as a reset input, which has no run. -/
theorem restartedInput_beyond {s : State} {i : Nat} (beyond : s.sense.inputs.length ≤ i) : restartedInput s i = resetInput := by
  have idle : gaugeIsActive s i = false := by
    rw [gaugeIsActive, senseInput_beyond beyond]
    cases (assignment s.profile i).detection <;> exact Bool.and_false _
  rw [restartedInput, senseInput_beyond beyond, idle]
  rfl

theorem senseInput_inputRestart (i j : Nat) (s : State) :
    senseInput (inputRestart i s) j = if j = i then restartedInput s i else senseInput s j := by
  obtain within | beyond := Nat.lt_or_ge i s.sense.inputs.length
  · exact senseInput_changeInput i j _ s within
  · have untouched : senseInput (inputRestart i s) j = senseInput s j :=
      congrArg (List.getD · j resetInput) (List.set_eq_of_length_le beyond)
    rw [untouched]
    split
    · next same => rw [same, restartedInput_beyond beyond, senseInput_beyond beyond]
    · rfl

theorem inputRestart_sense (i : Nat) (s : State) :
    (inputRestart i s).sense = { s.sense with inputs := (inputRestart i s).sense.inputs } := rfl

/-- The first inputs after a RESTART RUN, one after another: each finds its own input as it was. -/
theorem foldl_inputRestart (s : State) : ∀ n : Nat,
    SameOutside [.sense] s ((List.range n).foldl (fun u i => inputRestart i u) s) ∧
    ((List.range n).foldl (fun u i => inputRestart i u) s).sense =
      { s.sense with inputs := ((List.range n).foldl (fun u i => inputRestart i u) s).sense.inputs } ∧
    ∀ j, senseInput ((List.range n).foldl (fun u i => inputRestart i u) s) j =
      if j < n then restartedInput s j else senseInput s j
  | 0 => ⟨refl _ _, rfl, fun _ => rfl⟩
  | n + 1 => by
    obtain ⟨frame, sense, inputs⟩ := foldl_inputRestart s n
    rw [List.range_succ, List.foldl_append, List.foldl_cons, List.foldl_nil]
    generalize (List.range n).foldl (fun u i => inputRestart i u) s = t at frame sense inputs ⊢
    refine ⟨frame.trans (changeInput_frame n _ t), by rw [inputRestart_sense, sense], fun j => ?_⟩
    have own : restartedInput t n = restartedInput s n := by
      have same : senseInput t n = senseInput s n := (inputs n).trans (if_neg (Nat.lt_irrefl n))
      have profile : t.profile = s.profile := frame .profile (by decide)
      rw [restartedInput, restartedInput, gaugeIsActive, gaugeIsActive, same, profile]
    rw [senseInput_inputRestart, own, inputs]
    rcases Nat.lt_trichotomy j n with below | rfl | above
    · rw [if_neg below.ne, if_pos below, if_pos (by omega)]
    · rw [if_pos rfl, if_pos (by omega)]
    · rw [if_neg above.ne', if_neg (by omega), if_neg (by omega)]

/-- A GAUGE input is active by its detection and its filtered level (R24). -/
theorem gaugeIsActive_iff_filtered (s : State) (i : Nat) : gaugeIsActive s i = true ↔
    (assignment s.profile i).service = .gauge ∧
      (((assignment s.profile i).detection = .high ∧ (senseInput s i).filtered = some true) ∨
        ((assignment s.profile i).detection = .low ∧ (senseInput s i).filtered = some false)) := by
  rw [gaugeIsActive, Bool.and_eq_true, decide_eq_true_iff]
  cases (assignment s.profile i).detection <;> simp

theorem senseRestart_inputs (s : State) {i : Nat} (below : i < 32) :
    senseInput (senseRestart s) i = restartedInput s i :=
  ((foldl_inputRestart s 32).2.2 i).trans (if_pos below)

theorem senseRestart_sense (s : State) : (senseRestart s).sense = { s.sense with inputs := (senseRestart s).sense.inputs } :=
  (foldl_inputRestart s 32).2.1

/-! ## The loss list (R69) -/

/-- Where nothing is closed, no room is made. -/
theorem makeRoom_open {held : List LossInterval} (opened : ∀ j ∈ held, j.high = none) : makeRoom held = held := by
  have none_closed : held.filter isClosed = [] := List.filter_eq_nil_iff.2 fun j hj => by
    rw [isClosed, opened j hj]
    nofun
  unfold makeRoom
  rw [none_closed]
  rfl

theorem addOpen_open (i : LossInterval) {held : List LossInterval} (opened : ∀ j ∈ held, j.high = none) :
    addOpen i held = insertInterval i held := by
  rw [addOpen, makeRoom_open opened, ite_self]

/-- OPEN intervals added one after another to a list of OPEN ones all stand in it, in order of low. -/
theorem foldl_addOpen_open {α : Type} (f : α → LossInterval) (open_f : ∀ a, (f a).high = none) (l : List α) :
    ∀ held : List LossInterval, (∀ j ∈ held, j.high = none) → held.Pairwise (fun a b => a.low ≤ b.low) →
      (l.foldl (fun held a => addOpen (f a) held) held).Perm (l.map f ++ held) ∧
        (l.foldl (fun held a => addOpen (f a) held) held).Pairwise fun a b => a.low ≤ b.low := by
  induction l with
  | nil => exact fun held _ sorted => ⟨.refl _, sorted⟩
  | cons a rest ih =>
    intro held opened sorted
    rw [List.foldl_cons, addOpen_open _ opened]
    have perm := insertInterval_perm (f a) held
    obtain ⟨added, inOrder⟩ := ih (insertInterval (f a) held) (fun j hj => by
      obtain rfl | hj := List.mem_cons.1 (perm.mem_iff.1 hj)
      · exact open_f a
      · exact opened j hj) (insertInterval_sorted (f a) held sorted)
    refine ⟨added.trans ((perm.append_left _).trans ?_), inOrder⟩
    rw [List.map_cons]
    exact List.perm_middle

/-- The LOST feeds of a table, with their places. -/
def lostFeeds (table : List FeedEntry) : List (FeedEntry × Nat) :=
  table.zipIdx.filter fun p => decide (p.1.state = .lost)

theorem mem_lostFeeds {table : List FeedEntry} {p : FeedEntry × Nat} :
    p ∈ lostFeeds table ↔ table[p.2]? = some p.1 ∧ p.1.state = .lost := by
  rw [lostFeeds, List.mem_filter, List.mem_zipIdx_iff_getElem?, decide_eq_true_iff]

theorem length_lostFeeds (table : List FeedEntry) :
    (lostFeeds table).length = table.countP fun e => decide (e.state = .lost) := by
  rw [lostFeeds, ← List.countP_eq_length_filter]
  conv_rhs => rw [← List.zipIdx_map_fst 0 table, List.countP_map]
  rfl

/-- The loss list after a RESTART RUN: an OPEN interval at r for each LOST feed, and nothing else. -/
theorem feedsRestart_losses (s : State) :
    (∀ j, j ∈ (feedsRestart s).feeds.losses ↔ ∃ i e, s.feeds.table[i]? = some e ∧ e.state = .lost ∧
      j = openInterval i e.reach) ∧
    (feedsRestart s).feeds.losses.length = s.feeds.table.countP (fun e => decide (e.state = .lost)) ∧
    (feedsRestart s).feeds.losses.Pairwise fun a b => a.low ≤ b.low := by
  obtain ⟨perm, sorted⟩ := foldl_addOpen_open (fun p : FeedEntry × Nat => openInterval p.2 p.1.reach) (fun _ => rfl)
    (lostFeeds s.feeds.table) [] nofun .nil
  rw [List.append_nil] at perm
  refine ⟨fun j => perm.mem_iff.trans ?_, ?_, sorted⟩
  · rw [List.mem_map]
    constructor
    · rintro ⟨⟨e, i⟩, lost, rfl⟩
      obtain ⟨entry, state⟩ := mem_lostFeeds.1 lost
      exact ⟨i, e, entry, state, rfl⟩
    · rintro ⟨i, e, entry, state, rfl⟩
      exact ⟨(e, i), mem_lostFeeds.2 ⟨entry, state⟩, rfl⟩
  · exact perm.length_eq.trans ((List.length_map _).trans (length_lostFeeds _))

/-! ## The monitors (R88, R105) -/

theorem layRestart_off {s : State} (off : s.lay.state = .off) : layRestart s = s := if_pos off

theorem settleByWire_held {s : State} (held : s.hold.observed = .held) :
    (settleByWire s).lay = { s.lay with state := .suspended, settleCount := 0, window := none } := by
  rw [settleByWire, held]
  rfl

theorem enterSettling_working {s : State} {w : LayWorkingSet} (working : s.lay.working = some w) : enterSettling s =
    if w.settleTurns = 0 then openWindow s
    else changeLay (fun l => { l with state := .settling, settleCount := 0, window := none }) s := by
  rw [enterSettling, working]

theorem settleByWire_settling {s : State} {w : LayWorkingSet} (running : s.hold.observed = .running)
    (working : s.lay.working = some w) (turns : 0 < w.settleTurns) :
    (settleByWire s).lay = { s.lay with state := .settling, settleCount := 0, window := none } := by
  rw [settleByWire, running]
  dsimp only
  rw [enterSettling_working working, if_neg turns.ne']
  rfl

theorem settleByWire_measuring {s : State} {w : LayWorkingSet} (running : s.hold.observed = .running)
    (working : s.lay.working = some w) (turns : w.settleTurns = 0) : (settleByWire s).lay =
    { s.lay with state := .measuring, settleCount := 0, window := some { start := s.fullPosition, twists := 0 } } := by
  rw [settleByWire, running]
  dsimp only
  rw [enterSettling_working working, if_pos turns]
  rfl

theorem layRestart_held {s : State} (on : s.lay.state ≠ .off) (held : s.hold.observed = .held) : (layRestart s).lay =
    { s.lay with state := .suspended, settleCount := 0, window := none, faultRun := none, trimCorrection := 0 } := by
  rw [layRestart, if_neg on]
  exact settleByWire_held (s := changeLay _ s) held

theorem layRestart_settling {s : State} {w : LayWorkingSet} (on : s.lay.state ≠ .off) (running : s.hold.observed = .running)
    (working : s.lay.working = some w) (turns : 0 < w.settleTurns) : (layRestart s).lay =
    { s.lay with state := .settling, settleCount := 0, window := none, faultRun := none, trimCorrection := 0 } := by
  rw [layRestart, if_neg on]
  exact settleByWire_settling (s := changeLay _ s) running working turns

theorem layRestart_measuring {s : State} {w : LayWorkingSet} (on : s.lay.state ≠ .off) (running : s.hold.observed = .running)
    (working : s.lay.working = some w) (turns : w.settleTurns = 0) : (layRestart s).lay =
    { s.lay with
      state := .measuring, settleCount := 0, window := some { start := s.fullPosition, twists := 0 }, faultRun := none
      trimCorrection := 0 } := by
  rw [layRestart, if_neg on]
  exact settleByWire_measuring (s := changeLay _ s) running working turns

theorem knotRestart_on {s : State} (on : s.knot.state ≠ .off) : (knotRestart s).knot = { s.knot with
    state := .firstRow, cause := .start, faultRun := none
    sections := s.knot.sections.map fun c => { c with count := 0, misses := 0 } } := by
  rw [knotRestart, if_neg on]
  rfl

theorem knotRestart_off {s : State} (off : s.knot.state = .off) : knotRestart s = s := if_pos off

/-! ## The coil builder (R140) -/

theorem builderEnds_building {s : State} {cur : CurrentCoil} (building : s.builder.state = .building)
    (current : s.builder.current = some cur) : (builderEnds s).builder = { s.builder with
      current := none
      log := s.builder.log ++
        [closedRecord cur s.length.runCount 32#6 (s.builder.sequence.bind CutSequence.boundary) false false]
      plan := planAfterClose cur 32#6 s.builder.plan
      sequence := none
      outstanding := none } ∧
    (builderEnds s).link = { s.link with latched := s.link.latched ||| oneCondition .coilReady } := by
  rw [builderEnds, if_neg (by rw [building]; nofun), closeCoil_eq current]
  exact ⟨rfl, rfl⟩

/-- A coil that opens at 0, at rest and with no mark waiting, makes no cut: its target lies ahead. -/
theorem coilOpen_uncut (carried : List Event) {s : State} (start : s.length.runCount = 0) (still : s.length.speed = 0)
    (empty : s.marks.marks = []) :
    ¬cutIsReached (coilOpen 0 carried s) (openedCoil 0 carried s).record (coilOpen 0 carried s).length.runCount := by
  have reach : reachAt (coilOpen 0 carried s) (coilOpen 0 carried s).length.runCount = 0 := by
    change s.length.runCount + min 65535 ((max s.length.speed 0).toNat * s.profile.stopTime / 1000) = 0
    rw [start, still]
    simp
  have planned : ∀ p, (plannedCoil 0 s).record.planned = some p → 0 < p := by
    intro p hp
    unfold plannedCoil at hp
    split at hp
    · cases hp
    · split at hp
      · next e _ _ _ =>
        change (if e.target = 0 then none else some (plannedCut 0 e.target (freshCoil 0 s).reading.stretch)) = some p at hp
        split at hp
        · cases hp
        · next target =>
          obtain rfl := Option.some.inj hp
          rw [plannedCut, runTarget, ceilDiv]
          have : 0 < e.target := Nat.pos_of_ne_zero target
          have : 10000 ≤ e.target * (10000 + (freshCoil 0 s).reading.stretch) := Nat.le_trans (by omega) (Nat.le_mul_of_pos_left _ this)
          have : maxCount = 4294967295 := rfl
          omega
      · cases hp
  rintro (⟨p, hp, reached⟩ | ⟨m, ⟨before, after, marks, -, -⟩, -⟩)
  · have := planned p hp
    omega
  · rw [show (coilOpen 0 carried s).marks.marks = [] from empty] at marks
    simp at marks

theorem builderBegins_open (carried : List Event) {s : State} (on : s.builder.state ≠ .off) (start : s.length.runCount = 0)
    (still : s.length.speed = 0) (empty : s.marks.marks = []) : builderBegins carried s = coilOpen 0 carried s := by
  rw [builderBegins, if_neg on, openCoil_eq]
  exact cutTest_ahead rfl (coilOpen_uncut carried start still empty)

/-! ## The part in which the new coil opens (R185) -/

/-- The part of a RESTART RUN once the old run has ended in it. -/
def runEnded (s : State) : State := discardMarks (portRestart (builderEnds s))

/-- The part of a RESTART RUN in which the new coil opens. -/
def runBegun (s : State) : State := knotRestart (layRestart (feedsRestart (senseRestart (lengthRestart (runEnded s)))))

theorem restart_eq (s : State) : restart s = builderBegins (carriedFaults s) (runBegun s) := rfl

theorem runEnded_frame (s : State) : SameOutside [.marks, .builder, .port, .link] s (runEnded s) :=
  (((builderEnds_frame s).trans (portRestart_frame _)).trans (withMarks _ _))

theorem runBegun_frame (s : State) :
    SameOutside [.length, .sense, .marks, .feeds, .lay, .knot, .builder, .hold, .port, .link] s (runBegun s) :=
  (((runEnded_frame s).mono (by decide)).trans (lengthRestart_frame (runEnded s))).trans (monitorsRestart_frame _)

/-- Where a block stands once a RESTART RUN has begun the new run, from where it stood once the old run had ended. -/
theorem runBegun_after (s : State) : SameOutside [.sense, .feeds, .lay, .knot] (lengthRestart (runEnded s)) (runBegun s) :=
  monitorsRestart_frame _

theorem runBegun_length (s : State) : (runBegun s).length =
    { s.length with runCount := 0, fraction := 0, saturated := false, speed := 0, sampleBase := 0 } := by
  rw [runBegun_after s .length (by decide), lengthRestart_length, runEnded_frame s .length (by decide)]

theorem runBegun_marks (s : State) : (runBegun s).marks = { s.marks with
    marks := [], discarded := min (s.marks.discarded + s.marks.marks.length) 65535 } := by
  have marks : (portRestart (builderEnds s)).marks = s.marks :=
    ((builderEnds_frame s (bs := [.builder, .link, .port])).trans (portRestart_frame _)) .marks (by decide)
  rw [runBegun_after s .marks (by decide), (lengthRestart_frame (runEnded s) (bs := [.length, .hold, .port])) .marks (by decide),
    runEnded, discardMarks, marks]
  rfl

theorem runBegun_builder (s : State) : (runBegun s).builder = (builderEnds s).builder := restartedBuilder_eq s

theorem runBegun_link (s : State) : (runBegun s).link = (builderEnds s).link := by
  rw [runBegun_after s .link (by decide), (lengthRestart_frame (runEnded s) (bs := [.length, .hold, .port])) .link (by decide)]
  rfl

/-- The hold unit and the port: COUNT_LIMIT goes, and queued MARK notices keep their distance (R17, R157). -/
theorem runBegun_reasons {s : State} {shifted : Queued → Queued} (is : shifted = shiftStamp s.length.runCount) :
    reasonsBecome (s.hold.own &&& ~~~64#7) (s.withPort { s.port with
      class1 := s.port.class1.map shifted, own := s.port.own.map shifted
      forwarded := s.port.forwarded.map shifted }) (runBegun s) := by
  have became := lengthRestart_reasons (runEnded s)
  have ended := builderEnds_frame s (bs := [.builder, .link])
  have hold : (runEnded s).hold = s.hold := runEnded_frame s .hold (by decide)
  have port : (runEnded s).port = { s.port with
      class1 := s.port.class1.map shifted, own := s.port.own.map shifted, forwarded := s.port.forwarded.map shifted } := by
    rw [is, ← (show (builderEnds s).length = s.length from ended .length (by decide)),
      ← (show (builderEnds s).port = s.port from ended .port (by decide))]
    rfl
  rw [reasonsBecome, hold, port, ← runBegun_after s .hold (by decide), ← runBegun_after s .port (by decide)] at became
  exact became

theorem runBegun_sense (s : State) : (∀ i < 32, senseInput (runBegun s) i = restartedInput s i) ∧
    (runBegun s).sense = { s.sense with inputs := (runBegun s).sense.inputs } := by
  have later : (runBegun s).sense = (senseRestart (lengthRestart (runEnded s))).sense :=
    (((feedsRestart_frame _ (bs := [.feeds, .lay, .knot])).trans (layRestart_frame _)).trans (knotRestart_frame _)) .sense
      (by decide)
  have before : SameOutside [.length, .marks, .builder, .hold, .port, .link] s (lengthRestart (runEnded s)) :=
    ((runEnded_frame s).mono (by decide)).trans (lengthRestart_frame _)
  have sense : (lengthRestart (runEnded s)).sense = s.sense := before .sense (by decide)
  refine ⟨fun i below => ?_, ?_⟩
  · have same : senseInput (lengthRestart (runEnded s)) i = senseInput s i := by rw [senseInput, sense, senseInput]
    rw [senseInput, later, ← senseInput, senseRestart_inputs _ below, restartedInput, restartedInput, gaugeIsActive,
      gaugeIsActive, same, before .profile (by decide)]
  · rw [later, senseRestart_sense, sense]

theorem feedsRestart_congr {s t : State} (feeds : t.feeds = s.feeds) : (feedsRestart t).feeds = (feedsRestart s).feeds := by
  rw [feedsRestart, feeds]
  rfl

theorem runBegun_feeds (s : State) : (runBegun s).feeds = (feedsRestart s).feeds := by
  have before : SameOutside [.length, .marks, .builder, .hold, .port, .link, .sense] s (senseRestart (lengthRestart (runEnded s))) :=
    (((runEnded_frame s).mono (by decide)).trans (lengthRestart_frame _)).trans (senseRestart_frame _)
  have later : (runBegun s).feeds = (feedsRestart (senseRestart (lengthRestart (runEnded s)))).feeds :=
    ((layRestart_frame _ (bs := [.lay, .knot])).trans (knotRestart_frame _)) .feeds (by decide)
  exact later.trans (feedsRestart_congr (before .feeds (by decide)))

/-- The part in which the monitors start again: the length unit at 0, the monitors and the wire as they were. -/
theorem monitors_before (s : State) : ∃ u, runBegun s = knotRestart (layRestart u) ∧ u.lay = s.lay ∧ u.knot = s.knot ∧
    u.hold.observed = s.hold.observed ∧ u.fullPosition = 0 := by
  have before : SameOutside [.length, .marks, .builder, .hold, .port, .link, .sense, .feeds] s
      (feedsRestart (senseRestart (lengthRestart (runEnded s)))) :=
    ((((runEnded_frame s).mono (by decide)).trans (lengthRestart_frame _)).trans (senseRestart_frame _)).trans
      (feedsRestart_frame _)
  have after : SameOutside [.sense, .feeds] (lengthRestart (runEnded s))
      (feedsRestart (senseRestart (lengthRestart (runEnded s)))) := (senseRestart_frame _).trans (feedsRestart_frame _)
  refine ⟨_, rfl, before .lay (by decide), before .knot (by decide), ?_, ?_⟩
  · rw [after .hold (by decide), (lengthRestart_reasons (runEnded s)).1]
    have hold : (runEnded s).hold = s.hold := runEnded_frame s .hold (by decide)
    change (runEnded s).hold.observed = s.hold.observed
    rw [hold]
  · rw [State.fullPosition, after .length (by decide), lengthRestart_length]
    simp only [Nat.zero_mul]

theorem runBegun_lay (s : State) : (s.lay.state = .off → (runBegun s).lay = s.lay) ∧
    (s.lay.state ≠ .off → s.hold.observed = .held → (runBegun s).lay =
      { s.lay with state := .suspended, settleCount := 0, window := none, faultRun := none, trimCorrection := 0 }) ∧
    (∀ w, s.lay.state ≠ .off → s.hold.observed = .running → s.lay.working = some w →
      (0 < w.settleTurns → (runBegun s).lay =
        { s.lay with state := .settling, settleCount := 0, window := none, faultRun := none, trimCorrection := 0 }) ∧
      (w.settleTurns = 0 → (runBegun s).lay =
        { s.lay with
          state := .measuring, settleCount := 0, window := some { start := 0, twists := 0 }, faultRun := none
          trimCorrection := 0 })) := by
  obtain ⟨u, begun, lay, -, observed, position⟩ := monitors_before s
  rw [begun, (knotRestart_frame (layRestart u) (bs := [.knot])) .lay (by decide), ← lay, ← observed]
  refine ⟨fun off => by rw [layRestart_off off], layRestart_held, fun w on running working =>
    ⟨layRestart_settling on running working, fun turns => ?_⟩⟩
  rw [layRestart_measuring on running working turns, position]

theorem runBegun_knot (s : State) : (s.knot.state = .off → (runBegun s).knot = s.knot) ∧
    (s.knot.state ≠ .off → (runBegun s).knot = { s.knot with
      state := .firstRow, cause := .start, faultRun := none
      sections := s.knot.sections.map fun c => { c with count := 0, misses := 0 } }) := by
  obtain ⟨u, begun, -, knot, -, -⟩ := monitors_before s
  have same : (layRestart u).knot = s.knot := ((layRestart_frame u (bs := [.lay])) .knot (by decide)).trans knot
  rw [begun, ← same]
  exact ⟨fun off => by rw [knotRestart_off off], knotRestart_on⟩

/-! ## RESTART RUN (R185) -/

theorem restartRefusal_wrongState {s : State}
    (wrong : s.station = .openState ∨ s.builder.state = .cutDue ∨ s.builder.state = .cutting ∨ s.builder.state = .cutFailed) :
    restartRefusal s = some .wrongState := by
  unfold restartRefusal
  split
  · rfl
  · next running =>
    rcases wrong with opened | state | state | state
    · exact absurd opened running
    all_goals rw [state]

theorem restartRefusal_full {s : State} (running : s.station = .running) (building : s.builder.state = .building)
    (full : 8 ≤ s.builder.log.length) : restartRefusal s = some .full := by
  rw [restartRefusal, if_neg (by rw [running]; nofun), building]
  exact if_neg (Nat.not_lt.2 full)

theorem restartRefusal_none {s : State} (running : s.station = .running)
    (ready : s.builder.state = .off ∨ (s.builder.state = .building ∧ s.builder.log.length < 8)) : restartRefusal s = none := by
  rw [restartRefusal, if_neg (by rw [running]; nofun)]
  obtain off | ⟨building, room⟩ := ready
  · rw [off]
  · rw [building]
    exact if_pos room

/-- Outside the builder and the link, the part is the one in which the new coil opens. -/
theorem restart_after (s : State) :
    SameOutside [.builder, .link] (runBegun s) (restart s) := by
  rw [restart_eq]
  by_cases off : (runBegun s).builder.state = .off
  · rw [builderBegins, if_pos off]
    exact refl _ _
  · rw [builderBegins_open _ off (by rw [runBegun_length]) (by rw [runBegun_length]) (by rw [runBegun_marks])]
    exact (withBuilder _ _).trans (withLink _ _)

/-- With the builder OFF, RESTART RUN leaves it and the link alone. -/
theorem restart_off {s : State} (off : s.builder.state = .off) : (restart s).builder = s.builder ∧ (restart s).link = s.link := by
  have ended : builderEnds s = s := if_pos off
  have builder : (runBegun s).builder = s.builder := by rw [runBegun_builder, ended]
  have still_off : (runBegun s).builder.state = .off := by rw [builder, off]
  rw [restart_eq, builderBegins, if_pos still_off, runBegun_link, ended]
  exact ⟨builder, rfl⟩

/-- With a coil in building, RESTART RUN closes it at the count found and opens the next at 0. -/
theorem restart_building {s : State} {cur : CurrentCoil} (building : s.builder.state = .building)
    (current : s.builder.current = some cur) :
    ∃ v, v.length.runCount = 0 ∧ v.lots = s.lots ∧ v.profile = s.profile ∧ v.feeds = (restart s).feeds ∧
      v.builder = (builderEnds s).builder ∧ v.link = (builderEnds s).link ∧
      (restart s).builder = (coilOpen 0 (entriesCarried cur s.length.runCount) v).builder ∧
      (restart s).link = (coilOpen 0 (entriesCarried cur s.length.runCount) v).link := by
  have state : (runBegun s).builder.state ≠ .off := by
    rw [runBegun_builder, builderEnds_state, building]
    nofun
  have opens : restart s = coilOpen 0 (entriesCarried cur s.length.runCount) (runBegun s) := by
    rw [restart_eq, builderBegins_open _ state (by rw [runBegun_length]) (by rw [runBegun_length]) (by rw [runBegun_marks]),
      carriedFaults_eq current]
  refine ⟨runBegun s, by rw [runBegun_length], runBegun_frame s .lots (by decide), runBegun_frame s .profile (by decide), ?_,
    runBegun_builder s, runBegun_link s, by rw [opens], by rw [opens]⟩
  exact (restart_after s .feeds (by decide)).symm

/-- The reply of a RESTART RUN that has closed no coil. -/
theorem restartBytes_none (found : Nat) : restartBytes found none = [0] ++ be 4 found ++ be 2 0 := by
  rw [restartBytes]
  rfl

theorem restartBytes_some (found serial : Nat) : restartBytes found (some serial) = [1] ++ be 4 found ++ be 2 serial := by
  have present : presence 1 [(some serial).isSome] = [1] := be_one 1
  rw [restartBytes, present]
  rfl

/-- Settles O57, block by block. -/
theorem restartRunBeginsANewRun : Obligations.RestartRunBeginsANewRun := by
  intro fill s
  refine ⟨fun wrong => ⟨_, exec_restartRun_refused fill (restartRefusal_wrongState wrong), (answers_read _ _ _).symm⟩,
    fun running building full => ⟨_, exec_restartRun_refused fill (restartRefusal_full running building full),
      (answers_read _ _ _).symm⟩, fun running ready => ?_⟩
  have after := restart_after s
  obtain ⟨lay_off, lay_held, lay_running⟩ := runBegun_lay s
  obtain ⟨knot_off, knot_on⟩ := runBegun_knot s
  obtain ⟨inputs, sense⟩ := runBegun_sense s
  obtain ⟨lost, count, sorted⟩ := feedsRestart_losses s
  have feeds : (restart s).feeds = (feedsRestart s).feeds := (after .feeds (by decide)).trans (runBegun_feeds s)
  have lay : (restart s).lay = (runBegun s).lay := after .lay (by decide)
  have knot : (restart s).knot = (runBegun s).knot := after .knot (by decide)
  have sense' : (restart s).sense = (runBegun s).sense := after .sense (by decide)
  refine ⟨_, exec_restartRun_taken fill (restartRefusal_none running ready), ?_, fun i below => ?_, ?_, ?_, ?_, ?_, ?_, ?_,
    ?_, ?_, ?_, ?_, ?_, ?_, fun off noCoil => ?_, fun cur building current => ?_,
    sameOutside_finishFrame _ _ (restart_frame s (bs := restartBlocks))⟩
  · rw [finishFrame_length, after .length (by decide), runBegun_length]
  · have input : senseInput (finishFrame (frameLength 0 fill) (done (restartBytes s.length.runCount (currentSerial s)))
        (restart s)) i = senseInput (runBegun s) i := by rw [senseInput, finishFrame_sense, sense', senseInput]
    rw [input, inputs i below, restartedInput]
    simp only [gaugeIsActive_iff_filtered]
  · rw [finishFrame_sense, sense', sense]
  · rw [finishFrame_marks, after .marks (by decide), runBegun_marks]
  · rw [finishFrame_feeds, feeds]
    rfl
  · rw [finishFrame_feeds, feeds]
    exact lost
  · rw [finishFrame_feeds, feeds]
    exact count
  · rw [finishFrame_feeds, feeds]
    exact sorted
  · rw [finishFrame_lay, lay]
    exact lay_off
  · rw [finishFrame_lay, lay]
    exact lay_held
  · rw [finishFrame_lay, lay]
    exact lay_running
  · rw [finishFrame_knot, knot]
    exact knot_off
  · rw [finishFrame_knot, knot]
    exact knot_on
  · intro shifted is
    have became := runBegun_reasons (s := s) (shifted := shifted) is
    have hold : (restart s).hold = (runBegun s).hold := after .hold (by decide)
    have port : (restart s).port = (runBegun s).port := after .port (by decide)
    rw [reasonsBecome, ← hold, ← port] at became
    exact reasonsBecome_finishFrame _ _ became
  · obtain ⟨builder, link⟩ := restart_off off
    rw [finishFrame_builder, currentSerial, noCoil, ← restartBytes_none]
    exact ⟨builder, answers_finishFrame _ _ link⟩
  · obtain ⟨v, start, lots, profile, losses, ended, link_ended, builder, link⟩ := restart_building building current
    obtain ⟨closed, latched⟩ := builderEnds_building building current
    rw [closed] at ended
    rw [latched] at link_ended
    have number : v.builder.nextSerial = s.builder.nextSerial := by rw [ended]
    have opened := openedCoil_opensAfter (t := restart s) cur s.length.runCount number lots profile (by rw [losses])
    have looks := openedCoil_looksAtPlan (t := restart s) 0 (entriesCarried cur s.length.runCount) (by rw [builder]; rfl)
      (by rw [builder]; rfl) (by rw [link]; rfl) lots profile
    have same (t : State) : looksAtPlan s (finishFrame (3 + fill) (done (restartBytes s.length.runCount (currentSerial s))) t)
        = looksAtPlan s t := by
      funext next
      rw [looksAtPlan, looksAtPlan, finishFrame_builder, finishFrame_latched]
    rw [start] at opened
    refine ⟨⟨_, ?_, closedRecord_closedAs s cur 32#6 false false⟩, ⟨_, ?_, (congrFun (same (restart s)) _).mpr looks, ?_⟩, ?_, ?_⟩
    · rw [finishFrame_builder, builder]
      change v.builder.log = _
      rw [ended]
    · rw [opensAfter, finishFrame_feeds]
      exact opened
    · have reopened : (restart s).builder = { v.builder with
          current := some (openedCoil 0 (entriesCarried cur s.length.runCount) v)
          nextSerial := nextCoilSerial v.builder.nextSerial } := builder
      rw [finishFrame_builder, reopened, ended]
      rfl
    · rw [finishFrame_latched, link]
      refine latchedAtHead_keeps _ ?_
      rw [link_ended]
      exact hasCondition_latch _ _
    · rw [currentSerial, current, ← restartBytes_some]
      refine replies_finishFrame _ _ ?_
      rw [link, show (coilOpen 0 (entriesCarried cur s.length.runCount) v).link = { v.link with latched := latchedAtHead v } from rfl,
        link_ended]

end Sys2Proof.Machine
end

section
/-! PROOFS. A notice written as a frame and read back (10.4, R153, R187). -/

namespace Sys2Proof.Machine

-- One theorem after another: side by side they need more threads than the memory of the check allows.
set_option Elab.async false

/-! ## Payload bytes (R187) -/

/-- Bytes written as bits are read back from the front. -/
theorem takeBytes_byteBits (bytes : List Byte) (rest : List Bool) : takeBytes bytes.length (byteBits bytes ++ rest) = bytes := by
  induction bytes with
  | nil => rfl
  | cons b bytes ih =>
    have laid : byteBits (b :: bytes) ++ rest = bitsOf 8 b.toNat ++ (byteBits bytes ++ rest) := List.append_assoc ..
    rw [laid, List.length_cons, takeBytes, takeBits_append_of_length _ (bitsOf_length 8 b.toNat),
      List.drop_left' (bitsOf_length 8 b.toNat), ih, ofBits_bitsOf, Nat.mod_eq_of_lt b.isLt, BitVec.ofNat_toNat,
      BitVec.setWidth_eq]

/-- A number written behind other bytes is read back at its place. -/
theorem fieldAt_be {front : List Byte} {i w n : Nat} (rest : List Byte) (place : front.length = i) (fits : n < 256 ^ w) :
    fieldAt (front ++ (be w n ++ rest)) i w = n := by
  rw [fieldAt, List.drop_left' place, List.take_left' (be_length w n), ofBe_be w n fits]

theorem byteAt_be {front : List Byte} {i n : Nat} (rest : List Byte) (place : front.length = i) (fits : n < 256) :
    byteAt (front ++ (be 1 n ++ rest)) i = n := by
  rw [byteAt, List.drop_left' place, be_one]
  exact Nat.mod_eq_of_lt fits

/-- Sixteen bits in two's complement give back the number. -/
theorem ofTwos16_twos {x : Int} (low : -32768 ≤ x) (high : x ≤ 32767) : ofTwos16 (x % (256 ^ 2 : Nat)).toNat = x := by
  have width : ((256 ^ 2 : Nat) : Int) = 65536 := by norm_num
  rw [ofTwos16, BitVec.toInt_ofNat', width, Int.toNat_of_nonneg (Int.emod_nonneg x (by decide))]
  rw [Int.bmod_def]
  norm_num
  split <;> omega

/-- The fields of a MARK payload fit their widths (R187). -/
structure MarkFits (m : MarkPayload) : Prop where
  position : m.position ≤ maxCount
  span : m.span ≤ 16777215
  kindCode : m.kindCode ≤ 15
  hops : m.hops ≤ 15
  lotTag : m.lotTag ≤ 255
  originStation : m.originStation ≤ 255
  originSerial : m.originSerial ≤ 65535

theorem readMark_markBytes {m : MarkPayload} (fits : MarkFits m) : readMark (markBytes m) = m := by
  obtain ⟨position, span, kindCode, hops, lotTag, originStation, originSerial⟩ := fits
  have most : maxCount = 4294967295 := rfl
  have kindAndHops : byteAt (markBytes m) 7 = m.kindCode * 16 + m.hops := by
    rw [markBytes]
    simp only [List.append_assoc]
    rw [← List.append_assoc]
    exact byteAt_be _ (by simp) (by omega)
  have positionAt : fieldAt (markBytes m) 0 4 = m.position := by
    rw [markBytes]
    simp only [List.append_assoc]
    exact fieldAt_be (front := []) _ rfl (by omega)
  have spanAt : fieldAt (markBytes m) 4 3 = m.span := by
    rw [markBytes]
    simp only [List.append_assoc]
    exact fieldAt_be _ (be_length ..) (by omega)
  have tagAt : byteAt (markBytes m) 8 = m.lotTag := by
    rw [markBytes]
    simp only [List.append_assoc]
    rw [← List.append_assoc, ← List.append_assoc]
    exact byteAt_be _ (by simp) (by omega)
  have stationAt : byteAt (markBytes m) 9 = m.originStation := by
    rw [markBytes]
    simp only [List.append_assoc]
    rw [← List.append_assoc, ← List.append_assoc, ← List.append_assoc]
    exact byteAt_be _ (by simp) (by omega)
  have serialAt : fieldAt (markBytes m) 10 2 = m.originSerial := by
    rw [markBytes]
    simp only [List.append_assoc]
    rw [← List.append_assoc, ← List.append_assoc, ← List.append_assoc, ← List.append_assoc]
    exact fieldAt_be _ (by simp) (by omega)
  have detailAt : fieldAt (markBytes m) 12 2 = m.detail.toNat := by
    rw [markBytes, ← List.append_nil (be 2 m.detail.toNat)]
    exact fieldAt_be [] (by simp) (by have := m.detail.isLt; omega)
  rw [readMark, kindAndHops, positionAt, spanAt, tagAt, stationAt, serialAt, detailAt, BitVec.ofNat_toNat, BitVec.setWidth_eq,
    show (m.kindCode * 16 + m.hops) / 16 = m.kindCode by omega, show (m.kindCode * 16 + m.hops) % 16 = m.hops by omega]

/-- The status byte of a POSITION payload reads back as the wire and the builder state. -/
theorem positionStatus_reads (p : PositionPayload) : positionStatus p < 256 ∧
    (if (positionStatus p).testBit 7 then WireState.held else .running) = p.observed ∧
    builderOf (positionStatus p % 16) = p.builder := by
  rw [positionStatus]
  cases p.observed <;> cases p.builder <;> decide

theorem readPosition_positionBytes {p : PositionPayload} (low : -32768 ≤ p.speed) (high : p.speed ≤ 32767)
    (lot : p.activeLot ≤ 255) : readPosition (payloadBytes (.position p)) = p := by
  have twos : (p.speed % (256 ^ 2 : Nat)).toNat < 256 ^ 2 := by
    have := Int.emod_lt_of_pos p.speed (show (0 : Int) < (256 ^ 2 : Nat) by norm_num)
    have := Int.emod_nonneg p.speed (show ((256 ^ 2 : Nat) : Int) ≠ 0 by norm_num)
    omega
  obtain ⟨status, wire, builder⟩ := positionStatus_reads p
  have laid : payloadBytes (.position p) = be 2 (p.speed % (256 ^ 2 : Nat)).toNat ++ (be 1 p.activeLot ++
      (be 1 p.own.toNat ++ be 1 (positionStatus p))) := by
    simp only [payloadBytes, beInt, List.append_assoc]
  have speedAt : fieldAt (payloadBytes (.position p)) 0 2 = (p.speed % (256 ^ 2 : Nat)).toNat := by
    rw [laid]
    exact fieldAt_be (front := []) _ rfl twos
  have lotAt : byteAt (payloadBytes (.position p)) 2 = p.activeLot := by
    rw [laid]
    exact byteAt_be _ (be_length ..) (by omega)
  have ownAt : byteAt (payloadBytes (.position p)) 3 = p.own.toNat := by
    rw [laid, ← List.append_assoc]
    exact byteAt_be _ (by simp) (by have := p.own.isLt; omega)
  have statusAt : byteAt (payloadBytes (.position p)) 4 = positionStatus p := by
    rw [laid, ← List.append_assoc, ← List.append_assoc, ← List.append_nil (be 1 (positionStatus p))]
    exact byteAt_be [] (by simp) status
  rw [readPosition, speedAt, lotAt, ownAt, statusAt, ofTwos16_twos low high, wire, builder, readHoldSet, BitVec.ofNat_toNat,
    BitVec.setWidth_eq]

/-! ## The fields of a frame (R153) -/

section
variable {cls station kind serial stamp : Nat} {payload : List Byte}

/-- The bits of a frame's content one field after another. -/
theorem frameContent_laid (rest : List Bool) : frameContent cls station kind serial stamp payload ++ rest =
    bitsOf 8 (headerOf cls station) ++ (bitsOf 4 kind ++ ((if carriesSerial cls then bitsOf 8 serial else []) ++
      (bitsOf 32 stamp ++ (bitsOf 5 payload.length ++ (byteBits payload ++ rest))))) := by
  simp only [frameContent, List.append_assoc]

/-- A frame as it was written judges as good, with the fields it was written from. -/
theorem judgeFrame_frameTail (classFits : cls ≤ 3) (stationFits : station ≤ 63) (kindFits : kind ≤ 15) (serialFits : serial ≤ 255)
    (stampFits : stamp ≤ maxCount) (lengthFits : payload.length ≤ 16) :
    judgeFrame false (frameTail (frameContent cls station kind serial stamp payload)) = .good
      { cls := cls, station := station, kindCode := kind, serial := if carriesSerial cls then serial else 0, stamp := stamp
        payload := payload } := by
  have most : maxCount = 4294967295 := rfl
  have passes : ¬judgeFrame false (frameTail (frameContent cls station kind serial stamp payload)) = .checkFailure := by
    have failure := judgeFrame_laidOut_eq_checkFailure_iff kind serial stamp [] classFits stationFits lengthFits rfl
      (bitsOf_length 16 (frameCheck (frameContent cls station kind serial stamp payload)).toNat)
    rw [List.append_nil, ← List.append_assoc] at failure
    exact fun failed => (failure.1 failed) rfl
  have header : headerOf cls station < 2 ^ 8 := by rw [headerOf]; omega
  have classIs : headerOf cls station / 64 = cls := by rw [headerOf]; omega
  have stationIs : headerOf cls station % 64 = station := by rw [headerOf]; omega
  generalize tailIs : bitsOf 16 (frameCheck (frameContent cls station kind serial stamp payload)).toNat ++ List.replicate 7 true = tail
  have bits : frameTail (frameContent cls station kind serial stamp payload) =
      frameContent cls station kind serial stamp payload ++ tail := by rw [← tailIs, frameTail, List.append_assoc]
  rw [bits] at passes ⊢
  have announced : announcedLength (frameContent cls station kind serial stamp payload ++ tail) = payload.length := by
    rw [announcedLength, List.drop_drop, List.drop_drop, ← Nat.add_assoc, class_of_frameContent _ _ _ _ _ classFits stationFits,
      payloadLength_of_frameContent _ _ _ _ _ lengthFits]
  have contentEnd := contentLength_frameContent (cls := cls) (payload := payload) kind serial stamp tail classFits stationFits
    lengthFits
  have framed : ¬HasFramingError false (frameContent cls station kind serial stamp payload ++ tail) := by
    rw [HasFramingError, announced, contentEnd, List.drop_left, ← tailIs, List.drop_left' (bitsOf_length ..),
      ← List.append_nil (List.replicate 7 true), takeBits_append_of_length [] (List.length_replicate ..)]
    simp [lengthFits]
  have checked := fun differs => passes ((judgeFrame_eq_checkFailure_iff _ _).2 ⟨framed, differs⟩)
  refine (if_neg framed).trans ((if_neg checked).trans (congrArg Judgement.good ?_))
  have length : readNat 5 (((frameContent cls station kind serial stamp payload ++ tail).drop 12).drop
      (if carriesSerial (readNat 8 (frameContent cls station kind serial stamp payload ++ tail) / 64) then 8 else 0) |>.drop 32) =
        payload.length := announced
  rw [length]
  have headerRead : readNat 8 (frameContent cls station kind serial stamp payload ++ tail) = headerOf cls station := by
    rw [frameContent_laid, readNat_bitsOf_append _ header]
  have kindRead : readNat 4 ((frameContent cls station kind serial stamp payload ++ tail).drop 8) = kind := by
    rw [frameContent_laid, List.drop_left' (bitsOf_length 8 _), readNat_bitsOf_append _ (by omega)]
  have afterKind : (frameContent cls station kind serial stamp payload ++ tail).drop 12 =
      (if carriesSerial cls then bitsOf 8 serial else []) ++
        (bitsOf 32 stamp ++ (bitsOf 5 payload.length ++ (byteBits payload ++ tail))) := by
    rw [frameContent_laid, ← List.append_assoc]
    exact List.drop_left' (by simp)
  have afterSerial : ((if carriesSerial cls then bitsOf 8 serial else []) ++
      (bitsOf 32 stamp ++ (bitsOf 5 payload.length ++ (byteBits payload ++ tail)))).drop (if carriesSerial cls then 8 else 0) =
        bitsOf 32 stamp ++ (bitsOf 5 payload.length ++ (byteBits payload ++ tail)) :=
    List.drop_left' (by split <;> simp)
  have serialRead : (if carriesSerial cls then readNat 8 ((if carriesSerial cls then bitsOf 8 serial else []) ++
      (bitsOf 32 stamp ++ (bitsOf 5 payload.length ++ (byteBits payload ++ tail)))) else 0) =
        if carriesSerial cls then serial else 0 := by
    split
    · exact readNat_bitsOf_append _ (by omega)
    · rfl
  have payloadRead : takeBytes payload.length
      ((bitsOf 32 stamp ++ (bitsOf 5 payload.length ++ (byteBits payload ++ tail))).drop 37) = payload := by
    rw [← List.append_assoc, List.drop_left' (by simp), takeBytes_byteBits]
  rw [headerRead, classIs, stationIs, kindRead, afterKind, afterSerial, serialRead, payloadRead,
    readNat_bitsOf_append _ (by omega)]

end

/-- Whether frames of a place carry a serial. -/
theorem serialOfSlot (slot : Slot) (serial : Nat) : (if carriesSerial (slotClass slot) then serial else 0) =
    if slot = .class0 ∨ slot = .class3 then 0 else serial := by
  cases slot <;> simp [carriesSerial, slotClass]

/-- The frame of a notice of its class reads back, where its payload does. -/
theorem frameBits_readsBack {station stamp : Nat} {slot : Slot} {q : Queued} (first : 1 ≤ station) (last : station ≤ 62)
    (stampFits : stamp ≤ maxCount) (serialFits : q.serial ≤ 255)
    (ofClass : kindOfClass (slotClass slot) (kindCodeOf q.payload) = true)
    (length : (payloadBytes q.payload).length = kindLength (kindCodeOf q.payload))
    (reads : readPayload (kindCodeOf q.payload) (payloadBytes q.payload) = q.payload) :
    ∃ f, judgeFrame false (frameBits station slot q stamp).tail = .good f ∧ isFit f = true ∧
      f.station = station ∧ f.cls = slotClass slot ∧ f.stamp = stamp ∧
      f.serial = (if slot = .class0 ∨ slot = .class3 then 0 else q.serial) ∧
      readPayload f.kindCode f.payload = q.payload := by
  have cls : slotClass slot ≤ 3 := by cases slot <;> decide
  have kind : kindCodeOf q.payload ≤ 15 := by cases q.payload <;> simp [kindCodeOf]
  have short : (payloadBytes q.payload).length ≤ 16 := by
    rw [length]
    cases q.payload <;> simp [kindCodeOf, kindLength]
  have judged := judgeFrame_frameTail (payload := payloadBytes q.payload) cls (by omega : station ≤ 63) kind serialFits
    stampFits short
  refine ⟨_, judged, ?_, rfl, rfl, rfl, serialOfSlot slot q.serial, reads⟩
  rw [isFit, ofClass, length]
  simp [inRange, first, last]

/-- Settles O50, by the kind of the notice. -/
theorem noticeFrameReadsBack : Obligations.NoticeFrameReadsBack := by
  intro station stamp slot q first last stampFits serialFits notice
  have readsBack := frameBits_readsBack (slot := slot) first last stampFits serialFits
  obtain ⟨rfl, ⟨r, payload⟩ | payload⟩ | ⟨rfl, p, payload, low, high, lot⟩ | ⟨marks, m, payload, position, span, kindCode, hops,
    lotTag, originStation, originSerial⟩ := notice
  · have own : byteAt (be 1 r.toNat) 0 = r.toNat := by
      rw [← List.append_nil (be 1 r.toNat)]
      exact byteAt_be (front := []) [] rfl (by have := r.isLt; omega)
    rw [payload] at readsBack ⊢
    refine readsBack rfl (be_length ..) ?_
    change Payload.hold (readHoldSet (byteAt (be 1 r.toNat) 0)) = .hold r
    rw [own, readHoldSet, BitVec.ofNat_toNat, BitVec.setWidth_eq]
  · rw [payload] at readsBack ⊢
    exact readsBack rfl rfl rfl
  · rw [payload] at readsBack ⊢
    refine readsBack rfl (by simp [payloadBytes, beInt, kindCodeOf, kindLength]) ?_
    exact congrArg Payload.position (readPosition_positionBytes low high lot)
  · rw [payload] at readsBack ⊢
    refine readsBack (by rcases marks with rfl | rfl | rfl <;> rfl) (by simp [payloadBytes, markBytes, kindCodeOf, kindLength]) ?_
    exact congrArg Payload.mark
      (readMark_markBytes ⟨position, span, kindCode, hops, lotTag, originStation, originSerial⟩)

end Sys2Proof.Machine
end

section
/-! PROOFS. A command frame of the local link read back (12.1, R179, R189, R190). -/

namespace Sys2Proof.Machine

-- One theorem after another: side by side they need more threads than the memory of the check allows.
set_option Elab.async false

/-! ## Taking a frame (R179) -/

theorem byteSum_append (front rest : List Byte) : byteSum (front ++ rest) = byteSum front + byteSum rest := by
  induction rest using List.reverseRecOn with
  | nil => rw [List.append_nil]; exact (BitVec.add_zero (byteSum front)).symm
  | append_singleton rest b ih =>
    have last (bytes : List Byte) : byteSum (bytes ++ [b]) = byteSum bytes + b := by simp [byteSum]
    rw [← List.append_assoc, last, last, ih, BitVec.add_assoc]

/-- The sum byte makes the bytes before it add up to 0. -/
theorem byteSum_sumByte (front : List Byte) : byteSum (front ++ [sumByte front]) = 0 := by
  have alone : byteSum [sumByte front] = sumByte front := BitVec.zero_add _
  rw [byteSum_append, alone, sumByte]
  exact (congrArg _ (BitVec.zero_sub _)).trans (BitVec.add_right_neg _)

/-- A frame with the argument length of its command is taken. -/
theorem judgeLink_linkFrame {code : Nat} {arguments : List Byte} (fill : Nat) (codeFits : code < 256)
    (lengthFits : arguments.length < 256) (named : argumentLength code = some arguments.length) :
    judgeLink (linkFrame code arguments fill) = .taken code arguments fill := by
  have codeIs : (BitVec.ofNat 8 code).toNat = code := Nat.mod_eq_of_lt codeFits
  have lengthIs : (BitVec.ofNat 8 arguments.length).toNat = arguments.length := Nat.mod_eq_of_lt lengthFits
  have sum := byteSum_sumByte (BitVec.ofNat 8 code :: BitVec.ofNat 8 arguments.length :: arguments)
  have laid : linkFrame code arguments fill = BitVec.ofNat 8 code :: BitVec.ofNat 8 arguments.length ::
      (arguments ++ ([sumByte (BitVec.ofNat 8 code :: BitVec.ofNat 8 arguments.length :: arguments)] ++ List.replicate fill 0)) := by
    rw [linkFrame, be_one, be_one]
    simp only [List.append_assoc, List.cons_append, List.nil_append]
  generalize sumByte (BitVec.ofNat 8 code :: BitVec.ofNat 8 arguments.length :: arguments) = last at sum laid
  have size : (arguments ++ ([last] ++ List.replicate fill 0)).length = arguments.length + 1 + fill := by
    simp only [List.length_append, List.length_cons, List.length_nil, List.length_replicate]
    omega
  rw [List.cons_append, List.cons_append] at sum
  have summed : (arguments ++ ([last] ++ List.replicate fill 0)).take (arguments.length + 1) = arguments ++ [last] := by
    rw [← List.append_assoc]
    exact List.take_left' List.length_append
  rw [laid, judgeLink, lengthIs, size, if_neg (by omega), summed, if_neg (not_not_intro sum), codeIs, named]
  dsimp only
  rw [if_neg (not_not_intro rfl), List.take_left, Nat.add_sub_cancel_left]

/-- A frame decodes as the command of its code and arguments. -/
theorem decodeLinkFrame_linkFrame {code : Nat} {arguments : List Byte} {fill : Nat} {i : Instr} (codeFits : code < 256)
    (lengthFits : arguments.length < 256) (named : argumentLength code = some arguments.length)
    (command : hostCommand code arguments fill = some i) : decodeLinkFrame (linkFrame code arguments fill) = i := by
  rw [decodeLinkFrame, judgeLink_linkFrame fill codeFits lengthFits named]
  dsimp only
  rw [command]
  rfl

/-! ## The lot record (R189) -/

/-- Bit `i` of a presence word says whether the `i`th optional field is there. -/
theorem testBit_presence (present : List Bool) (i : Nat) :
    (present.foldr (fun (b : Bool) n => 2 * n + b.toNat) 0).testBit i = present.getD i false := by
  induction present generalizing i with
  | nil => simp
  | cons b rest ih =>
    rw [List.foldr_cons]
    have bit := b.toNat_lt
    cases i with
    | zero => cases b <;> simp [Nat.testBit_zero]
    | succ i =>
      rw [Nat.testBit_succ, show (2 * rest.foldr (fun (b : Bool) n => 2 * n + b.toNat) 0 + b.toNat) / 2 =
        rest.foldr (fun (b : Bool) n => 2 * n + b.toNat) 0 by omega, ih]
      rfl

theorem presence_lt (present : List Bool) : present.foldr (fun (b : Bool) n => 2 * n + b.toNat) 0 < 2 ^ present.length := by
  induction present with
  | nil => exact Nat.one_pos
  | cons b rest ih =>
    have bit := b.toNat_lt
    rw [List.foldr_cons, List.length_cons, pow_succ]
    omega

theorem allParams_paramBit (p : Param) : allParams[paramBit p]? = some p := by cases p <;> rfl

/-- The parameters that stand before one in a lot record, and those after it. -/
def paramsBefore (p : Param) : List Param := allParams.take (paramBit p)
def paramsAfter (p : Param) : List Param := allParams.drop (paramBit p + 1)

theorem allParams_around (p : Param) : allParams = paramsBefore p ++ p :: paramsAfter p := by cases p <;> rfl

theorem paramPlace_eq (p : Param) : paramPlace p = 3 + ((paramsBefore p).map paramWidth).sum := by cases p <;> rfl

theorem length_flatMap_params (l : List Param) (bytes : Param → List Byte) (width : ∀ p, (bytes p).length = paramWidth p) :
    (l.flatMap bytes).length = (l.map paramWidth).sum := by
  rw [List.length_flatMap]
  simp only [width]

theorem lotBytes_length (r : LotRecord) : (lotBytes r).length = 25 := by
  have params : (paramBytes r.params).length = 22 :=
    (length_flatMap_params allParams (fun p => beOption (paramWidth p) (paramOf r.params p)) fun _ => be_length ..).trans rfl
  simp [lotBytes, presenceWord, presence, params]

/-- A parameter of a lot record that fits its field, or none, reads back. -/
theorem readParam_lotBytes {r : LotRecord} (fits : recordFits r = true) (p : Param) :
    fieldAt (lotBytes r) (paramPlace p) (paramWidth p) = (paramOf r.params p).getD 0 := by
  have valueFits : (paramOf r.params p).getD 0 < 256 ^ paramWidth p := by
    obtain ⟨-, all⟩ := Bool.and_eq_true_iff.1 fits
    have mem : p ∈ allParams := List.mem_of_getElem? (allParams_paramBit p)
    have own := List.all_eq_true.1 all p mem
    cases value : paramOf r.params p with
    | none => exact Nat.pow_pos (by decide)
    | some n =>
      rw [value] at own
      exact of_decide_eq_true own
  have laid : lotBytes r = (be 1 r.tag ++ presenceWord r.params ++
      (paramsBefore p).flatMap (fun p => beOption (paramWidth p) (paramOf r.params p))) ++
        (be (paramWidth p) ((paramOf r.params p).getD 0) ++
          (paramsAfter p).flatMap fun p => beOption (paramWidth p) (paramOf r.params p)) := by
    rw [lotBytes, paramBytes]
    conv_lhs => rw [allParams_around p]
    rw [List.flatMap_append, List.flatMap_cons]
    simp only [beOption, List.append_assoc]
  rw [laid]
  refine fieldAt_be _ ?_ valueFits
  rw [List.length_append, length_flatMap_params _ (fun p => beOption (paramWidth p) (paramOf r.params p)) fun _ => be_length ..,
    paramPlace_eq]
  simp [presenceWord, presence]

/-- A lot record that fits its fields is read back from its bytes. -/
theorem readLot_lotBytes {r : LotRecord} (fits : recordFits r = true) : readLot (lotBytes r) = r := by
  have tagFits : r.tag < 256 := by
    obtain ⟨tag, -⟩ := Bool.and_eq_true_iff.1 fits
    exact of_decide_eq_true tag
  have tag : byteAt (lotBytes r) 0 = r.tag := by
    rw [lotBytes, List.append_assoc]
    exact byteAt_be (front := []) _ rfl tagFits
  have word : fieldAt (lotBytes r) 1 2 =
      (allParams.map fun p => (paramOf r.params p).isSome).foldr (fun (b : Bool) n => 2 * n + b.toNat) 0 := by
    rw [lotBytes, List.append_assoc, presenceWord, presence]
    refine fieldAt_be _ (be_length ..) ((presence_lt _).trans_eq ?_)
    rw [List.length_map]
    rfl
  have present (p : Param) : (fieldAt (lotBytes r) 1 2).testBit (paramBit p) = (paramOf r.params p).isSome := by
    rw [word, testBit_presence, List.getD_eq_getElem?_getD, List.getElem?_map, allParams_paramBit]
    rfl
  have params : readParams (lotBytes r) = r.params := by
    rw [readParams]
    have same : (fun p => if (fieldAt (lotBytes r) 1 2).testBit (paramBit p) then
        some (fieldAt (lotBytes r) (paramPlace p) (paramWidth p)) else none) = paramOf r.params := by
      funext p
      rw [present, readParam_lotBytes fits]
      cases paramOf r.params p <;> rfl
    rw [same]
    rfl
  rw [readLot, tag, params]

/-! ## The commands (R190) -/

/-- A number is read back from the front of its arguments. -/
theorem byteAt_front {n : Nat} (rest : List Byte) (fits : fitsBytes 1 n = true) : byteAt (be 1 n ++ rest) 0 = n :=
  byteAt_be (front := []) rest rfl (of_decide_eq_true fits)

theorem byteAt_alone {n : Nat} (fits : fitsBytes 1 n = true) : byteAt (be 1 n) 0 = n := by
  rw [← List.append_nil (be 1 n), byteAt_front [] fits]

/-- A command without arguments is read back. -/
theorem decodeLinkFrame_bare {code fill : Nat} {i : Instr} (codeFits : code < 256) (named : argumentLength code = some 0)
    (command : hostCommand code [] fill = some i) : decodeLinkFrame (linkFrame code [] fill) = i :=
  decodeLinkFrame_linkFrame codeFits (by decide) named command

/-- A command of one argument byte is read back. -/
theorem decodeLinkFrame_byte {code n fill : Nat} {i : Instr} (codeFits : code < 256) (named : argumentLength code = some 1)
    (fits : fitsBytes 1 n = true) (command : ∀ a, byteAt a 0 = n → hostCommand code a fill = some i) :
    decodeLinkFrame (linkFrame code (be 1 n) fill) = i :=
  decodeLinkFrame_linkFrame codeFits (by rw [be_length]; decide) (by rw [be_length, named]) (command _ (byteAt_alone fits))

/-- A PROFILE SET is read back. -/
theorem decodeLinkFrame_profileSet {field index value : Nat} (fill : Nat) (fieldFits : fitsBytes 1 field = true)
    (indexFits : fitsBytes 1 index = true) (valueFits : fitsBytes 4 value = true) :
    decodeLinkFrame (linkFrame 6 (be 1 field ++ be 1 index ++ be 4 value) fill) = .profileSet field index value fill := by
  have length : (be 1 field ++ be 1 index ++ be 4 value).length = 6 := by simp
  refine decodeLinkFrame_linkFrame (by decide) (by rw [length]; decide) (by rw [length]; rfl) ?_
  have fieldAt0 : byteAt (be 1 field ++ be 1 index ++ be 4 value) 0 = field := by
    rw [List.append_assoc, byteAt_front _ fieldFits]
  have indexAt1 : byteAt (be 1 field ++ be 1 index ++ be 4 value) 1 = index := by
    rw [List.append_assoc]
    exact byteAt_be _ (be_length ..) (of_decide_eq_true indexFits)
  have valueAt2 : fieldAt (be 1 field ++ be 1 index ++ be 4 value) 2 4 = value := by
    rw [← List.append_nil (be 4 value)]
    exact fieldAt_be [] (by simp) (of_decide_eq_true valueFits)
  rw [hostCommand, fieldAt0, indexAt1, valueAt2]

/-- A PLAN APPEND is read back. -/
theorem decodeLinkFrame_planAppend {lotTag target count packageByte : Nat} (fill : Nat) (tagFits : fitsBytes 1 lotTag = true)
    (targetFits : fitsBytes 4 target = true) (countFits : fitsBytes 1 count = true) (packageFits : fitsBytes 1 packageByte = true) :
    decodeLinkFrame (linkFrame 16 (be 1 lotTag ++ be 4 target ++ be 1 count ++ be 1 packageByte) fill) =
      .planAppend lotTag target count packageByte fill := by
  have length : (be 1 lotTag ++ be 4 target ++ be 1 count ++ be 1 packageByte).length = 7 := by simp
  refine decodeLinkFrame_linkFrame (by decide) (by rw [length]; decide) (by rw [length]; rfl) ?_
  have tagAt0 : byteAt (be 1 lotTag ++ be 4 target ++ be 1 count ++ be 1 packageByte) 0 = lotTag := by
    rw [List.append_assoc, List.append_assoc, byteAt_front _ tagFits]
  have targetAt1 : fieldAt (be 1 lotTag ++ be 4 target ++ be 1 count ++ be 1 packageByte) 1 4 = target := by
    rw [List.append_assoc, List.append_assoc]
    exact fieldAt_be _ (be_length ..) (of_decide_eq_true targetFits)
  have countAt5 : byteAt (be 1 lotTag ++ be 4 target ++ be 1 count ++ be 1 packageByte) 5 = count := by
    rw [List.append_assoc]
    exact byteAt_be _ (by simp) (of_decide_eq_true countFits)
  have packageAt6 : byteAt (be 1 lotTag ++ be 4 target ++ be 1 count ++ be 1 packageByte) 6 = packageByte := by
    rw [← List.append_nil (be 1 packageByte)]
    exact byteAt_be [] (by simp) (of_decide_eq_true packageFits)
  rw [hostCommand, tagAt0, targetAt1, countAt5, packageAt6]

/-- A MARK PLACE is read back. -/
theorem decodeLinkFrame_markPlace {kind offset detail : Nat} (fill : Nat) (kindFits : fitsBytes 1 kind = true)
    (offsetFits : fitsBytes 4 offset = true) (detailFits : fitsBytes 2 detail = true) :
    decodeLinkFrame (linkFrame 24 (be 1 kind ++ be 4 offset ++ be 2 detail) fill) = .markPlace kind offset detail fill := by
  have length : (be 1 kind ++ be 4 offset ++ be 2 detail).length = 7 := by simp
  refine decodeLinkFrame_linkFrame (by decide) (by rw [length]; decide) (by rw [length]; rfl) ?_
  have kindAt0 : byteAt (be 1 kind ++ be 4 offset ++ be 2 detail) 0 = kind := by
    rw [List.append_assoc, byteAt_front _ kindFits]
  have offsetAt1 : fieldAt (be 1 kind ++ be 4 offset ++ be 2 detail) 1 4 = offset := by
    rw [List.append_assoc]
    exact fieldAt_be _ (be_length ..) (of_decide_eq_true offsetFits)
  have detailAt5 : fieldAt (be 1 kind ++ be 4 offset ++ be 2 detail) 5 2 = detail := by
    rw [← List.append_nil (be 2 detail)]
    exact fieldAt_be [] (by simp) (of_decide_eq_true detailFits)
  rw [hostCommand, kindAt0, offsetAt1, detailAt5]

/-- An ATTENTION ENABLE is read back. -/
theorem decodeLinkFrame_attentionEnable {mask : Nat} (fill : Nat) (fits : fitsBytes 3 mask = true) :
    decodeLinkFrame (linkFrame 3 (be 3 mask) fill) = .attentionEnable mask fill := by
  refine decodeLinkFrame_linkFrame (by decide) (by rw [be_length]; decide) (by rw [be_length]; rfl) ?_
  have maskAt0 : fieldAt (be 3 mask) 0 3 = mask := by
    rw [← List.append_nil (be 3 mask)]
    exact fieldAt_be (front := []) [] rfl (of_decide_eq_true fits)
  rw [hostCommand, maskAt0]

/-- A LOT LOAD is read back. -/
theorem decodeLinkFrame_lotLoad {record : LotRecord} (fill : Nat) (fits : recordFits record = true) :
    decodeLinkFrame (linkFrame 9 (lotBytes record) fill) = .lotLoad record fill := by
  refine decodeLinkFrame_linkFrame (by decide) (by rw [lotBytes_length]; decide) (by rw [lotBytes_length]; rfl) ?_
  rw [hostCommand, readLot_lotBytes fits]

/-- A frame that is not taken is read as itself. -/
theorem decodeLinkFrame_notTaken {bytes : List Byte} (notTaken : isNotTaken bytes = true) :
    decodeLinkFrame bytes = .badFrame bytes := by
  rw [isNotTaken] at notTaken
  rw [decodeLinkFrame]
  cases judged : judgeLink bytes with
  | badFrame => rfl
  | unknownCommand => rfl
  | taken code arguments fill =>
    rw [judged] at notTaken
    cases notTaken

/-- Settles O58, by the command. -/
theorem linkFrameReadsBack : Obligations.LinkFrameReadsBack := by
  intro i bytes fits encoded
  cases i with
  | badFrame frame => cases encoded; exact decodeLinkFrame_notTaken fits
  | attentionEnable mask fill => cases encoded; exact decodeLinkFrame_attentionEnable fill fits
  | lotLoad record fill => cases encoded; exact decodeLinkFrame_lotLoad fill fits
  | profileSet field index value fill =>
    cases encoded
    simp only [Instr.wellFormed, Bool.and_eq_true] at fits
    obtain ⟨⟨fieldFits, indexFits⟩, valueFits⟩ := fits
    exact decodeLinkFrame_profileSet fill fieldFits indexFits valueFits
  | planAppend lotTag target count packageByte fill =>
    cases encoded
    simp only [Instr.wellFormed, Bool.and_eq_true] at fits
    obtain ⟨⟨⟨tagFits, targetFits⟩, countFits⟩, packageFits⟩ := fits
    exact decodeLinkFrame_planAppend fill tagFits targetFits countFits packageFits
  | markPlace kind offset detail fill =>
    cases encoded
    simp only [Instr.wellFormed, Bool.and_eq_true] at fits
    obtain ⟨⟨kindFits, offsetFits⟩, detailFits⟩ := fits
    exact decodeLinkFrame_markPlace fill kindFits offsetFits detailFits
  | lotDrop | lotRead | lotStart | markRead | feedRead | rowRead =>
    cases encoded
    exact decodeLinkFrame_byte (by decide) rfl fits fun a is => by rw [hostCommand, is]
  | status | attentionRead | talliesRead | restartRun | profileClose | reset | hold | release | stopAck | planClear | planRead
  | coilTake | coilPeek | cutOrder | cutRetry | cutConfirm | lossRead | sectionRead =>
    cases encoded
    exact decodeLinkFrame_bare (by decide) rfl rfl
  | _ => cases encoded

end Sys2Proof.Machine
end

section
/-! PROOFS. The commands that only read, and the layout of what they answer (chapter 13, R189). -/

namespace Sys2Proof.Machine

-- One theorem after another: side by side they need more threads than the memory of the check allows.
set_option Elab.async false

/-! ## Layouts (R186, R189) -/

theorem yesNo_eq (b : Bool) : yesNo b = [if b then 1 else 0] := rfl

/-- A flag as a number. -/
theorem toNat_eq_ite (b : Bool) : b.toNat = if b then 1 else 0 := by cases b <;> rfl

theorem presence_two (w : Nat) (a b : Bool) :
    presence w [a, b] = be w ((if a then 1 else 0) + (if b then 2 else 0)) := by cases a <;> cases b <;> rfl

theorem presence_three (w : Nat) (a b c : Bool) : presence w [a, b, c] =
    be w ((if a then 1 else 0) + (if b then 2 else 0) + (if c then 4 else 0)) := by
  cases a <;> cases b <;> cases c <;> rfl

theorem presence_four (w : Nat) (a b c d : Bool) : presence w [a, b, c, d] =
    be w ((if a then 1 else 0) + (if b then 2 else 0) + (if c then 4 else 0) + (if d then 8 else 0)) := by
  cases a <;> cases b <;> cases c <;> cases d <;> rfl

theorem statusBytes_eq (s : State) : statusBytes s =
    be 1 (stationCode s.station) ++ be 4 s.length.runCount ++ beInt 2 s.length.speed ++ be 1 s.lots.activeTag ++
      be 1 s.hold.own.toNat ++ be 1 (wireCode s.hold.observed) ++
      be 1 s.hold.holders.length ++ s.hold.holders.flatMap (fun h => be 1 h.station ++ be 1 h.reasons.toNat) ++
      [if s.hold.uncounted then 1 else 0] ++
      [if s.hold.observed = .held ∧ s.hold.own = 0 ∧ s.hold.holders = [] then 1 else 0] ++
      be 1 (builderCode s.builder.state) ++ be 1 (portCode s.port.state) ++ be 1 s.port.score ++
      be 3 s.link.latched.toNat ++ be 3 s.link.enabled.toNat := by
  simp only [statusBytes, holdStateBytes, holdBytes, listBytes, yesNo_eq, attentionBytes, State.unattributed, decide_eq_true_iff,
    List.append_assoc]

theorem lotUnitBytes_eq (s : State) {p : Params Nat} (is : p = s.effective) : lotUnitBytes s =
    be 1 s.lots.activeTag ++ [if s.lots.unknown then 1 else 0] ++
      be 1 s.lots.table.length ++ s.lots.table.flatMap (fun r => be 1 r.tag) ++
      be 2 p.nominalLay ++ be 1 p.tolerance ++ be 2 p.stopTolerance ++ be 1 p.windowTwists ++ be 1 p.faultWindows ++
      be 1 p.settleTurns ++ be 1 p.trimGain ++ be 2 p.rowPitch ++ be 1 p.knotStopCount ++ be 1 p.brokenTwineRows ++
      be 2 p.stretch ++ be 1 p.spliceLimitA ++ be 1 p.spliceLimitB ++ be 2 p.densityLimitA ++ be 2 p.densityLimitB ++
      be 1 p.shortLimit := by
  subst is
  simp only [lotUnitBytes, listBytes, yesNo_eq, allParams, List.flatMap_cons, List.flatMap_nil, List.append_nil, paramWidth,
    paramOf, List.append_assoc]

theorem markRecordBytes_eq (m : Mark) : markRecordBytes m =
    be 4 m.position ++ be 3 m.span ++ be 1 (m.kind.code * 16 + m.hops) ++ be 1 m.lotTag ++
      be 1 m.origin.station ++ be 2 m.origin.serial ++ be 2 m.detail.toNat ++
      be 1 (match m.source with | .here => 0 | .feed i => i + 1) ++
      be 1 ((if m.flags.late then 1 else 0) + (if m.flags.clamped then 2 else 0) +
        (if m.flags.spanClamped then 4 else 0)) := by
  have source : sourceCode m.source = (match m.source with | .here => 0 | .feed i => i + 1) := by
    cases m.source <;> rfl
  simp only [markRecordBytes, markBytes, markFlagBits, toNat_eq_ite, mul_ite, mul_one, mul_zero, source]

theorem lossBytes_eq (i : LossInterval) : lossBytes i =
    be 1 ((if i.high.isSome then 1 else 0) + (if i.feed.isSome then 2 else 0)) ++ be 4 i.low ++
      be 4 (i.high.getD 0) ++ be 1 (lossCode i.cause) ++ be 1 (i.feed.getD 0) := by
  rw [lossBytes, presence_two]
  rfl

theorem feedBytes_eq (e : FeedEntry) : feedBytes e =
    be 1 ((if e.prevStamp.isSome then 1 else 0) + (if e.expectedSerial.isSome then 2 else 0)) ++ be 1 e.sender ++
      be 3 e.path ++ be 3 e.ratio ++ be 2 e.timeout ++ be 3 e.reach ++ be 1 (feedCode e.state) ++ be 4 e.lastLocal ++
      be 4 (e.prevStamp.getD 0) ++ be 1 (e.expectedSerial.getD 0) ++ be 1 e.senderLot ++ beInt 2 e.senderSpeed ++
      be 1 e.senderHold.toNat ++ [if e.silenceSince.isSome then 1 else 0] := by
  rw [feedBytes, presence_two]
  rfl

theorem eventBytes_eq (e : Event) : eventBytes e =
    be 1 e.kind.code ++ be 4 e.offset ++ be 4 e.span ++ be 1 e.origin.station ++ be 2 e.origin.serial ++
      be 2 e.detail.toNat ++
      be 1 ((if e.flags.late then 1 else 0) + (if e.flags.carried then 2 else 0) +
        (if e.flags.truncated then 4 else 0) + (if e.flags.absorbed then 8 else 0) +
        (if e.flags.void then 16 else 0) + (if e.flags.clamped then 32 else 0)) := by
  simp only [eventBytes, eventFlagBits, toNat_eq_ite, mul_ite, mul_one, mul_zero]

theorem coilBytes_eq (c : Coil) (standing : Bool) {x : Int} (is : x = (c.closing.bind Closing.boundaryOffset).getD 0)
    (low : -2147483648 ≤ x) (high : x ≤ 2147483647) : coilBytes c standing =
    be 2 c.serial ++ be 1 c.lotTag ++ be 1 c.package ++
      be 1 ((if c.planned.isSome then 1 else 0) + (if (c.closing.bind Closing.boundaryOffset).isSome then 2 else 0) +
        (if c.closing.isSome then 4 else 0) + (if standing then 8 else 0)) ++
      be 4 c.start ++ be 4 ((c.closing.map Closing.endAt).getD 0) ++ be 4 ((c.closing.map Closing.runLength).getD 0) ++
      be 4 ((c.closing.map Closing.relaxed).getD 0) ++ be 4 c.target ++ be 4 (c.planned.getD 0) ++
      be 1 ((c.closing.map fun k => k.causes.toNat).getD 0) ++ beInt 4 x ++
      be 1 ((if c.flags.incomplete then 1 else 0) + (if c.flags.short then 2 else 0) +
        (if c.flags.lateCut then 4 else 0) + (if c.flags.confirmed then 8 else 0)) ++
      be 2 c.splices ++ be 2 c.gauges ++ be 4 c.faultTotal ++
      be 1 ((c.closing.map fun k => gradeCode k.grade).getD 0) ++ be 2 c.unlisted ++
      be 1 c.events.length ++ c.events.flatMap (fun e =>
        be 1 e.kind.code ++ be 4 e.offset ++ be 4 e.span ++ be 1 e.origin.station ++ be 2 e.origin.serial ++
          be 2 e.detail.toNat ++
          be 1 ((if e.flags.late then 1 else 0) + (if e.flags.carried then 2 else 0) +
            (if e.flags.truncated then 4 else 0) + (if e.flags.absorbed then 8 else 0) +
            (if e.flags.void then 16 else 0) + (if e.flags.clamped then 32 else 0))) := by
  have offset : offsetBytes ((c.closing.bind Closing.boundaryOffset).getD 0) = beInt 4 x := by
    rw [← is, offsetBytes, if_pos ⟨low, high⟩]
  simp only [coilBytes, offset, presence_four, beOption, coilFlagBits, toNat_eq_ite, mul_ite, mul_one, mul_zero, listBytes,
    List.append_assoc, funext eventBytes_eq]

/-- The presence word of sixteen fields. -/
theorem presenceWord_eq (p : Params (Option Nat)) {bit : Option Nat → Nat → Nat}
    (is : bit = fun v n => if v.isSome then 2 ^ n else 0) : presenceWord p =
      be 2 (bit p.nominalLay 0 + bit p.tolerance 1 + bit p.stopTolerance 2 + bit p.windowTwists 3 +
        bit p.faultWindows 4 + bit p.settleTurns 5 + bit p.trimGain 6 + bit p.rowPitch 7 + bit p.knotStopCount 8 +
        bit p.brokenTwineRows 9 + bit p.stretch 10 + bit p.spliceLimitA 11 + bit p.spliceLimitB 12 +
        bit p.densityLimitA 13 + bit p.densityLimitB 14 + bit p.shortLimit 15) := by
  have place (v : Option Nat) (n : Nat) : bit v n = v.isSome.toNat * 2 ^ n := by
    rw [is]
    cases v <;> simp
  rw [presenceWord, presence]
  refine congrArg (be 2) ?_
  simp only [place, allParams, List.map_cons, List.map_nil, List.foldr_cons, List.foldr_nil, paramOf]
  ring

theorem lotBytes_eq (r : LotRecord) {p : Params (Option Nat)} {bit : Option Nat → Nat → Nat} (params : p = r.params)
    (is : bit = fun v n => if v.isSome then 2 ^ n else 0) : lotBytes r =
    be 1 r.tag ++
      be 2 (bit p.nominalLay 0 + bit p.tolerance 1 + bit p.stopTolerance 2 + bit p.windowTwists 3 +
        bit p.faultWindows 4 + bit p.settleTurns 5 + bit p.trimGain 6 + bit p.rowPitch 7 + bit p.knotStopCount 8 +
        bit p.brokenTwineRows 9 + bit p.stretch 10 + bit p.spliceLimitA 11 + bit p.spliceLimitB 12 +
        bit p.densityLimitA 13 + bit p.densityLimitB 14 + bit p.shortLimit 15) ++
      be 2 (p.nominalLay.getD 0) ++ be 1 (p.tolerance.getD 0) ++ be 2 (p.stopTolerance.getD 0) ++
      be 1 (p.windowTwists.getD 0) ++ be 1 (p.faultWindows.getD 0) ++ be 1 (p.settleTurns.getD 0) ++
      be 1 (p.trimGain.getD 0) ++ be 2 (p.rowPitch.getD 0) ++ be 1 (p.knotStopCount.getD 0) ++
      be 1 (p.brokenTwineRows.getD 0) ++ be 2 (p.stretch.getD 0) ++ be 1 (p.spliceLimitA.getD 0) ++
      be 1 (p.spliceLimitB.getD 0) ++ be 2 (p.densityLimitA.getD 0) ++ be 2 (p.densityLimitB.getD 0) ++
      be 1 (p.shortLimit.getD 0) := by
  subst params
  rw [lotBytes, presenceWord_eq r.params is]
  simp only [paramBytes, beOption, allParams, List.flatMap_cons, List.flatMap_nil, List.append_nil, paramWidth,
    paramOf, List.append_assoc]

theorem knotBytes_eq (k : KnotMonitor) : knotBytes k =
    be 1 ((if k.state = .firstRow then 1 else 0) + (if k.working.isSome then 2 else 0) +
        (if k.faultRun.isSome then 4 else 0)) ++
      be 1 (knotCode k.state) ++ be 1 (if k.state = .firstRow then firstRowCode k.cause else 0) ++
      (match k.working with
        | some w => be 1 w.stopCount ++ be 1 w.brokenRows
        | none => [0, 0]) ++
      (match k.faultRun with
        | some r => be 4 r.start ++ be 4 r.finish ++ be 1 r.rows ++ be 2 r.total ++ be 2 r.firstSerial
        | none => List.replicate 13 0) ++
      be 1 k.sections.length ++
      k.sections.flatMap (fun c => be 1 c.input ++ be 1 c.expected ++ be 1 c.count ++ be 1 c.misses ++ be 1 c.noise) := by
  have working : beOption 1 (k.working.map KnotWorkingSet.stopCount) ++ beOption 1 (k.working.map KnotWorkingSet.brokenRows) =
      (match k.working with
        | some w => be 1 w.stopCount ++ be 1 w.brokenRows
        | none => [0, 0]) := by
    cases k.working <;> rfl
  have run : beOption 4 (k.faultRun.map KnotFaultRun.start) ++ (beOption 4 (k.faultRun.map KnotFaultRun.finish) ++
      (beOption 1 (k.faultRun.map KnotFaultRun.rows) ++ (beOption 2 (k.faultRun.map KnotFaultRun.total) ++
        beOption 2 (k.faultRun.map KnotFaultRun.firstSerial)))) =
      (match k.faultRun with
        | some r => be 4 r.start ++ be 4 r.finish ++ be 1 r.rows ++ be 2 r.total ++ be 2 r.firstSerial
        | none => List.replicate 13 0) := by
    cases k.faultRun with
    | none => rfl
    | some r => simp only [Option.map_some, beOption, Option.getD_some, List.append_assoc]
  rw [← working, ← run, knotBytes]
  simp only [presence_three, listBytes, decide_eq_true_iff, List.append_assoc]
  rfl

theorem rowBytes_eq (k : KnotMonitor) (r : RowSummary) :
    rowHeadBytes k = be 1 (if k.stopRecord.isSome then 1 else 0) ++ be 1 k.history.length ++ be 2 k.rowSerial ++
      (match k.stopRecord with
        | some stop => be 1 (if stop.broken.isSome then 1 else 0) ++ be 2 stop.serial ++ be 2 stop.total ++
            [if stop.totalFailed then 1 else 0] ++ be 1 (stop.broken.getD 0)
        | none => List.replicate 7 0) ∧
    summaryBytes r = be 2 r.serial ++ be 4 r.start ++ [if r.idle then 1 else 0] ++
      be 1 r.missing.length ++ r.missing.flatMap (be 1) ++ be 2 r.total ++ be 4 r.noisy.toNat := by
  have one (b : Bool) : presence 1 [b] = be 1 (if b then 1 else 0) := by cases b <;> rfl
  refine ⟨?_, ?_⟩
  · rw [rowHeadBytes, one]
    refine congrArg _ ?_
    cases k.stopRecord with
    | none => rfl
    | some stop =>
      rw [stopRecordBytes, one]
      rfl
  · simp only [summaryBytes, yesNo_eq, listBytes, List.append_assoc]

/-! ## The replies of the commands that only read -/

theorem lotReply_cases (tag : Nat) (s : State) (r : Reply)
    (is : (tag = 0 ∧ r = done (lotUnitBytes s)) ∨
      (tag ≠ 0 ∧ ∃ record, heldRecord s.lots.table tag = some record ∧ r = done (lotBytes record)) ∨
      (tag ≠ 0 ∧ heldRecord s.lots.table tag = none ∧
        r = { code := .absent, data := be 1 s.lots.activeTag ++ be 1 s.lots.table.length })) : lotReply tag s = r := by
  obtain ⟨zero, rfl⟩ | ⟨tagged, record, held, rfl⟩ | ⟨tagged, unheld, rfl⟩ := is
  · exact if_pos zero
  · rw [lotReply, if_neg tagged, held]
  · rw [lotReply, if_neg tagged, unheld]

theorem peekReply_cases (s : State) (r : Reply)
    (is : (r = bare .absent ∧ (s.station = .openState ∨ s.builder.state = .off)) ∨
      (s.station = .running ∧ s.builder.state ≠ .off ∧ ∃ cur, s.builder.current = some cur ∧
        r = done (coilBytes cur.record s.builder.sequence.isSome ++ be 1 (builderCode s.builder.state) ++
          be 1 (sequenceCauses s).toNat ++ be 4 s.length.runCount))) : peekReply s = r := by
  obtain ⟨rfl, shut⟩ | ⟨running, on, cur, current, rfl⟩ := is
  · have shut : builderShut s = true := by
      rw [builderShut]
      rcases shut with opened | off
      · rw [isRunning_of_open opened]
        rfl
      · rw [decide_eq_true off, Bool.or_true]
    unfold peekReply
    split
    · exact if_pos shut
    · rfl
  · have works : ¬builderShut s = true := by
      rw [builderShut, isRunning_of_running running, decide_eq_false on]
      nofun
    rw [peekReply, current]
    exact if_neg works

theorem markReply_cases (index : Nat) (s : State) (r : Reply)
    (is : (95 < index ∧ r = bare .outOfRange) ∨
      (index ≤ 95 ∧ s.marks.marks.length ≤ index ∧ r = { code := .absent, data := be 1 s.marks.marks.length }) ∨
      (index ≤ 95 ∧ ∃ m, s.marks.marks[index]? = some m ∧
        r = done (be 1 s.marks.marks.length ++ markRecordBytes m))) : markReply index s = r := by
  obtain ⟨beyond, rfl⟩ | ⟨within, short, rfl⟩ | ⟨within, m, held, rfl⟩ := is
  · exact if_pos beyond
  · rw [markReply, if_neg (by omega), List.getElem?_eq_none short]
  · rw [markReply, if_neg (by omega), held]

theorem feedReply_cases (index : Nat) (s : State) (r : Reply)
    (is : (3 < index ∧ r = bare .outOfRange) ∨
      (index ≤ 3 ∧ s.station = .running ∧ s.feeds.table.length ≤ index ∧ r = bare .absent) ∨
      (index ≤ 3 ∧ s.station = .running ∧ ∃ e, s.feeds.table[index]? = some e ∧ r = done (feedBytes e)) ∨
      (index ≤ 3 ∧ s.station = .openState ∧ s.profile.feedCount ≤ index ∧ r = bare .absent) ∨
      (index ≤ 3 ∧ s.station = .openState ∧
        ∃ slot, (s.profile.feeds.take s.profile.feedCount)[index]? = some slot ∧
          r = done (feedBytes (freshEntry slot)))) : feedReply index s = r := by
  obtain ⟨beyond, rfl⟩ | ⟨within, running, short, rfl⟩ | ⟨within, running, e, held, rfl⟩ | ⟨within, opened, short, rfl⟩ |
    ⟨within, opened, slot, held, rfl⟩ := is
  · exact if_pos beyond
  · have view : feedView s = s.feeds.table := by rw [feedView, running]
    rw [feedReply, if_neg (by omega), view, List.getElem?_eq_none short]
  · have view : feedView s = s.feeds.table := by rw [feedView, running]
    rw [feedReply, if_neg (by omega), view, held]
  · have view : feedView s = (feedsInUse s.profile).map freshEntry := by rw [feedView, opened]
    have none_there : (feedsInUse s.profile).length ≤ index := (List.length_take_le _ _).trans short
    rw [feedReply, if_neg (by omega), view, List.getElem?_eq_none (by rw [List.length_map]; exact none_there)]
  · have view : feedView s = (feedsInUse s.profile).map freshEntry := by rw [feedView, opened]
    rw [feedReply, if_neg (by omega), view, List.getElem?_map, feedsInUse, held]
    rfl

theorem rowReply_cases (index : Nat) (s : State) (r : Reply)
    (is : (15 < index ∧ r = bare .outOfRange) ∨
      (index ≤ 15 ∧ s.knot.history.length ≤ index ∧ r = { code := .absent, data := rowHeadBytes s.knot }) ∨
      (index ≤ 15 ∧ ∃ row, s.knot.history[index]? = some row ∧
        r = done (rowHeadBytes s.knot ++ summaryBytes row))) : rowReply index s = r := by
  obtain ⟨beyond, rfl⟩ | ⟨within, short, rfl⟩ | ⟨within, row, held, rfl⟩ := is
  · exact if_pos beyond
  · rw [rowReply, if_neg (by omega), List.getElem?_eq_none short]
  · rw [rowReply, if_neg (by omega), held]

/-- A command that answers from the state standing leaves all but the link alone. -/
theorem answered {len : Nat} {r : Reply} {c : Instr} {s : State} (is : exec c s = .next (finishFrame len r s)) :
    ∃ t, exec c s = .next t ∧ Answers len r s t ∧ SameOutside [.link] s t :=
  ⟨_, is, (answers_read len r s).symm⟩

/-- Settles O56, by the command, and then record by record. -/
theorem readsAnswerAndChangeNothing : Obligations.ReadsAnswerAndChangeNothing := by
  refine ⟨fun index tag fill s c len r command => ?_, statusBytes_eq, fun s p is => lotUnitBytes_eq s is, markRecordBytes_eq,
    lossBytes_eq, feedBytes_eq, fun c standing x is low high => coilBytes_eq c standing is low high,
    fun r p bit params is => lotBytes_eq r params is, knotBytes_eq, rowBytes_eq, rfl, rfl, rfl, rfl, rfl, rfl, rfl, rfl, rfl⟩
  refine answered ?_
  obtain ⟨rfl, rfl, rfl⟩ | ⟨rfl, rfl, is⟩ | ⟨rfl, rfl, is⟩ | ⟨rfl, rfl, is⟩ | ⟨rfl, rfl, rfl⟩ | ⟨rfl, rfl, is⟩ | ⟨rfl, rfl, rfl⟩ |
    ⟨rfl, rfl, is⟩ := command
  · rfl
  · exact lotReply_cases tag s r is ▸ rfl
  · exact peekReply_cases s r is ▸ rfl
  · exact markReply_cases index s r is ▸ rfl
  · rfl
  · exact feedReply_cases index s r is ▸ rfl
  · rfl
  · exact rowReply_cases index s r is ▸ rfl

end Sys2Proof.Machine
end

section
/-! PROOFS. A MARK notice of a feed in step: translated, and placed or fired (4.3, 3.4 to 3.6): O28. -/

namespace Sys2Proof.Machine

-- One theorem after another: side by side they need more threads than the memory of the check allows.
set_option Elab.async false

open SameOutside

/-! ## Translation (R57 to R59) -/

theorem markKindOf_code (k : MarkKind) : markKindOf k.code = some k := by cases k <;> rfl

theorem readable_of_code {m : MarkPayload} {k : MarkKind} (code : m.kindCode = k.code) (lot : k = .lotChange → m.lotTag ≠ 0)
    (hops : m.hops ≤ 7) (first : 1 ≤ m.originStation) (last : m.originStation ≤ 62) : readable m = some k := by
  rw [readable, code, markKindOf_code]
  exact if_pos ⟨hops, first, last, fun ⟨kind, zero⟩ => lot kind zero⟩

theorem translateSpan_eq (k : MarkKind) (ratio span : Nat) : translateSpan k ratio span =
    (min ((span * ratio + 32768) / 65536) (spanCap k),
      decide (0 < spanCap k ∧ spanCap k < (span * ratio + 32768) / 65536)) := by
  have scaled : (scale ratio span).toNat = (span * ratio + 32768) / 65536 := by
    rw [scale]
    omega
  have flag {cap : Nat} (positive : 0 < cap) (x : Nat) : decide (cap < x) = decide (0 < cap ∧ cap < x) :=
    decide_eq_decide.2 (and_iff_right positive).symm
  rw [translateSpan, scaled]
  cases k with
  | layFault | knotFault | gaugeFault => exact Prod.ext rfl (flag (by decide : 0 < 131071) _)
  | loss => exact Prod.ext rfl (flag (by decide : 0 < 16777215) _)
  | _ => simp [MarkKind.isFault, spanCap]

section
variable {s : State} {i stamp : Nat} {e : FeedEntry} {k : MarkKind} {m : MarkPayload} {delta offset : Int}
  (isDelta : delta = (m.position : Int) - stamp + e.path) (isOffset : offset = (delta * e.ratio + 32768) / 65536)
include isDelta isOffset

/-- A mark more than the horizon ahead is FAR (R57). -/
theorem translate_far (ahead : 0 ≤ delta) (far : 10000000 < offset) : translate i e k m stamp s.length.runCount = none := by
  have beyond : horizon < (scale e.ratio delta).toNat := by
    rw [scale, ← isOffset]
    have : horizon = 10000000 := rfl
    omega
  rw [translate, translatePosition, ← isDelta]
  dsimp only
  rw [if_neg (by omega), if_pos beyond]
  rfl

/-- Any other mark is translated to its place (R57, R58). -/
theorem translate_near (near : delta < 0 ∨ offset ≤ 10000000) :
    translate i e k m stamp s.length.runCount = some (translatedAs s i e k m delta offset) := by
  rw [translate, translateSpan_eq, translatePosition, ← isDelta]
  dsimp only
  by_cases behind : delta < 0
  · have unclamped : decide (0 ≤ delta ∧ maxCount < s.length.runCount + offset.toNat) = false :=
      decide_eq_false fun ⟨ahead, _⟩ => absurd behind (not_lt.2 ahead)
    rw [if_pos behind, translatedAs, if_pos behind, decide_eq_true behind, unclamped]
    rfl
  · have scaled : scale e.ratio delta = offset := isOffset.symm
    have within : ¬horizon < offset.toNat := by
      have : horizon = 10000000 := rfl
      omega
    rw [if_neg behind, scaled, if_neg within, translatedAs, if_neg behind, decide_eq_false behind]
    by_cases beyond : maxCount < s.length.runCount + offset.toNat
    · have clamped : decide (0 ≤ delta ∧ maxCount < s.length.runCount + offset.toNat) = true :=
        decide_eq_true ⟨not_lt.1 behind, beyond⟩
      rw [if_pos beyond, min_eq_right (le_of_lt beyond), clamped]
      rfl
    · have unclamped : decide (0 ≤ delta ∧ maxCount < s.length.runCount + offset.toNat) = false :=
        decide_eq_false fun ⟨_, above⟩ => beyond above
      rw [if_neg beyond, min_eq_left (not_lt.1 beyond), unclamped]
      rfl

end

/-! ## The notice heard (R53, R60) -/

/-- The part that has heard a MARK notice of a feed in step, before the mark is placed. -/
def heardMark (s : State) (i : Nat) (e : FeedEntry) (f : RxFrame) (bits : List Bool) : State :=
  (s.withPort (portAfterGood s bits)).withFeeds { s.feeds with table := s.feeds.table.set i (checkedEntry s e f) }

theorem heardMark_frame (s : State) (i : Nat) (e : FeedEntry) (f : RxFrame) (bits : List Bool) :
    SameOutside [.feeds, .port] s (heardMark s i e f bits) := (withPort s _).trans (withFeeds _ _)

theorem serialCheck_inStep {i serial stamp : Nat} {e : FeedEntry} {s : State} (inStep : showsGap e serial = false)
    (entry : s.feeds.table[i]? = some e) : serialCheck i e serial stamp s = s.withFeeds { s.feeds with
      table := s.feeds.table.set i { e with expectedSerial := some (nextSerial8 serial), prevStamp := some stamp } } := by
  rw [serialCheck, if_neg (by rw [inStep]; nofun), changeFeed, modify_eq_set entry]

theorem takeFrame_inStep {f : RxFrame} {i : Nat} {e : FeedEntry} {m : MarkPayload} {s : State} {bits : List Bool}
    (mark : readPayload f.kindCode f.payload = .mark m) (sender : feedOf s f.station = some i)
    (entry : s.feeds.table[i]? = some e) (found : e.state ≠ .lost)
    (inStep : e.expectedSerial = none ∨ e.expectedSerial = some f.serial) :
    takeFrame f (s.withPort (portAfterGood s bits)) = takeMark i (heardEntry s e) m f.stamp (heardMark s i e f bits) := by
  have noGap : showsGap (heardEntry s e) f.serial = false := by
    rw [showsGap, heardEntry, if_neg found]
    obtain none_yet | expected := inStep
    · rw [none_yet]
      rfl
    · rw [expected]
      exact decide_eq_false fun differs => differs rfl
  rw [takeFrame_mark (s := s.withPort (portAfterGood s bits)) mark sender entry found,
    serialCheck_inStep (e := heardEntry (s.withPort (portAfterGood s bits)) e) noGap (getElem?_set_of_entry entry _)]
  dsimp only [State.withFeeds_feeds, State.withPort_feeds]
  rw [List.set_set]
  rfl

/-! ## Placing (R36 to R42) -/

theorem not_isDuplicate {m : Mark} {s : State} (fresh : ∀ w ∈ s.marks.marks, w.origin ≠ m.origin) : ¬isDuplicate m s = true :=
  fun h => by
    obtain ⟨w, hw, e⟩ := (isDuplicate_iff m s).1 h
    exact fresh w hw e

/-- The one LOT_CHANGE of the new one's lot that waits. -/
theorem sameLotWaiting_found {m w : Mark} {s : State} (fit : MarksFit s.marks.marks) (kind : m.kind = .lotChange)
    (mem : w ∈ s.marks.marks) (lot : w.kind = .lotChange) (tag : w.lotTag = m.lotTag) : sameLotWaiting m s = some w := by
  cases found : sameLotWaiting m s with
  | none => exact absurd tag (sameLotWaiting_eq_none found kind w mem lot)
  | some x =>
    obtain ⟨-, mem', lot', tag'⟩ := sameLotWaiting_spec found
    by_contra differs
    have : Std.Symm fun a b : Mark => a.kind = .lotChange → b.kind = .lotChange → a.lotTag ≠ b.lotTag :=
      ⟨fun _ _ h hb ha => (h ha hb).symm⟩
    exact fit.lots.forall mem' mem (fun e => differs (congrArg some e)) lot' lot (tag'.trans tag.symm)

theorem sameLotWaiting_none {m : Mark} {s : State}
    (alone : ∀ w ∈ s.marks.marks, m.kind = .lotChange → w.kind = .lotChange → w.lotTag ≠ m.lotTag) : sameLotWaiting m s = none := by
  cases found : sameLotWaiting m s with
  | none => rfl
  | some w =>
    obtain ⟨kind, mem, lot, tag⟩ := sameLotWaiting_spec found
    exact absurd tag (alone w mem kind lot)

/-- A LOT_CHANGE is dropped where one of its lot waits at or before it (R37). -/
theorem placeMark_mergedAway {m w : Mark} {s : State} (fresh : ∀ w ∈ s.marks.marks, w.origin ≠ m.origin)
    (waits : sameLotWaiting m s = some w) (before : w.position ≤ m.position) : placeMark m s = countMerge s := by
  have stays : mergedOut m s = none := by
    rw [mergedOut, waits, Option.filter_some, if_neg (by simpa using before)]
  have placement : placementOf m s = .mergedAway := by
    rw [placementOf, if_neg (not_isDuplicate fresh), waits, stays]
    rfl
  rw [placeMark, placement]

/-- A LOT_CHANGE takes the place of one of its lot that waits behind it (R37). -/
theorem placeMark_mergesOut {m w : Mark} {s : State} (fresh : ∀ w ∈ s.marks.marks, w.origin ≠ m.origin)
    (fit : MarksFit s.marks.marks) (waits : sameLotWaiting m s = some w) (behind : m.position < w.position)
    (ahead : s.length.runCount < m.position) :
    placeMark m s = storeMark m (builderMerges w m (countMerge (withWaiting (s.marks.marks.erase w) s))) := by
  obtain ⟨kind, mem, -, -⟩ := sameLotWaiting_spec waits
  have goes : mergedOut m s = some w := by
    rw [mergedOut, waits, Option.filter_some, if_pos (by simpa using behind)]
  have room : (s.marks.marks.erase w).length < 96 := by
    have places : s.marks.marks.length ≤ 96 := fit.places
    have : 0 < s.marks.marks.length := List.length_pos_of_mem mem
    rw [List.length_erase_of_mem mem]
    omega
  have placement : placementOf m s = .stored := by
    rw [placementOf, if_neg (not_isDuplicate fresh), waits, goes, if_neg (by simp), if_neg (by omega), waitingAfterMerge, goes]
    dsimp only
    rw [capacity_boundary (by rw [kind]; rfl), if_pos room]
  rw [placeMark, placement]
  dsimp only
  rw [mergeOut, goes]

section
variable {m : Mark} {s : State} (fresh : ∀ w ∈ s.marks.marks, w.origin ≠ m.origin) (alone : sameLotWaiting m s = none)
include alone

theorem mergedOut_alone : mergedOut m s = none := by
  rw [mergedOut, alone]
  rfl

theorem mergeOut_alone : mergeOut m s = s := by
  rw [mergeOut, mergedOut_alone alone]

include fresh

/-- A mark that merges with none is placed by the capacity rules, where it lies ahead (R40 to R42). -/
theorem placementOf_alone (ahead : s.length.runCount < m.position) : placementOf m s = capacity m s.marks.marks := by
  rw [placementOf, if_neg (not_isDuplicate fresh), alone, if_neg (by simp), if_neg (Nat.not_le.2 ahead), waitingAfterMerge,
    mergedOut_alone alone]

theorem placeMark_alone_stored (ahead : s.length.runCount < m.position) (room : hasRoom s m.kind) :
    placeMark m s = storeMark m s := by
  have placement : placementOf m s = .stored := by
    obtain ⟨places, ordinary⟩ := room
    rw [placementOf_alone fresh alone ahead]
    cases boundary : m.kind.isBoundary with
    | true => rw [capacity_boundary boundary, if_pos places]
    | false =>
      have lot : m.kind ≠ .lotChange := fun kind => by rw [kind] at boundary; cases boundary
      have cut : m.kind ≠ .cutRequest := fun kind => by rw [kind] at boundary; cases boundary
      rw [capacity_ordinary boundary, if_pos ⟨ordinary lot cut, places⟩]
  rw [placeMark, placement]
  dsimp only
  rw [mergeOut_alone alone]

theorem placeMark_alone_refused_ordinary (ahead : s.length.runCount < m.position) (lot : m.kind ≠ .lotChange)
    (cut : m.kind ≠ .cutRequest) (full : ¬hasRoom s m.kind) : placeMark m s = refuseOrdinary m s := by
  have ordinary : m.kind.isBoundary = false := by
    cases kind : m.kind with
    | lotChange => exact absurd kind lot
    | cutRequest => exact absurd kind cut
    | _ => rfl
  have placement : placementOf m s = .refused := by
    rw [placementOf_alone fresh alone ahead, capacity_ordinary ordinary, if_neg fun ⟨room, places⟩ => full ⟨places, fun _ _ => room⟩]
  rw [placeMark, placement]
  dsimp only
  rw [ordinary]
  rfl

theorem placeMark_alone_refused_boundary (ahead : s.length.runCount < m.position) (boundary : m.kind = .lotChange ∨ m.kind = .cutRequest)
    (full : ¬hasRoom s m.kind) (onlyBoundaries : ordinaryWaiting s.marks.marks = 0) : placeMark m s = refuseBoundary s := by
  have isBoundary : m.kind.isBoundary = true := by rcases boundary with kind | kind <;> rw [kind] <;> rfl
  have places : ¬s.marks.marks.length < 96 := fun places =>
    full ⟨places, fun lot cut => (boundary.elim lot cut).elim⟩
  have placement : placementOf m s = .refused := by
    rw [placementOf_alone fresh alone ahead, capacity_boundary isBoundary, if_neg places, if_neg (by omega)]
  rw [placeMark, placement]
  dsimp only
  rw [if_pos isBoundary, mergeOut_alone alone, offerMerge, mergedOut_alone alone]
  rfl

theorem placeMark_alone_fires (reached : m.position ≤ s.length.runCount) : placeMark m s = fireMark m s := by
  have placement : placementOf m s = .fires :=
    placementOf_lotChange_fires (by rw [mergedOut_alone alone, alone]) fresh reached
  rw [placeMark, placement]
  dsimp only
  rw [mergeOut_alone alone, offerMerge, mergedOut_alone alone]
  rfl

end

/-! ## What a placing leaves -/

/-- A mark placed leaves the feed table (R36 to R46). -/
theorem placeMark_table (m : Mark) (s : State) : (placeMark m s).feeds.table = s.feeds.table :=
  (placeMark_path (bounded := False) (scope := .stopless) m s nofun nofun).table_eq rfl

/-- The list in order of position, with a new mark in place of one of its lot. -/
theorem insertMark_erase (m : Mark) {w : Mark} {marks : List Mark} (fit : MarksFit marks) (mem : w ∈ marks) :
    insertMark m (marks.erase w) = marks.filter (fun x => x.position ≤ m.position ∧ x.origin ≠ w.origin) ++ m ::
      marks.filter (fun x => m.position < x.position ∧ x.origin ≠ w.origin) := by
  have apart : ∀ x ∈ marks, x ≠ w ↔ x.origin ≠ w.origin := fun x hx =>
    ⟨fun ne same => by
      have : Std.Symm fun a b : Mark => a.origin ≠ b.origin := ⟨fun _ _ h => h.symm⟩
      exact fit.origins.forall hx mem ne same, fun differs same => differs (congrArg Mark.origin same)⟩
  have keeps (p : Mark → Prop) [DecidablePred p] : (marks.filter fun x => x != w).filter (fun x => decide (p x)) =
      marks.filter fun x => decide (p x ∧ x.origin ≠ w.origin) := by
    rw [List.filter_filter]
    refine List.filter_congr fun x hx => ?_
    rw [Bool.eq_iff_iff, Bool.and_eq_true, decide_eq_true_iff, decide_eq_true_iff, bne_iff_ne, apart x hx]
  rw [fit.nodup.erase_eq_filter, insertMark_eq_filter m (fit.sorted.sublist List.filter_sublist), keeps, keeps]

/-- An ordinary mark for which there is no room is lost, and its interval added (R40). -/
theorem refuseOrdinary_after {m : Mark} {s : State} :
    (refuseOrdinary m s).marks.marks = s.marks.marks ∧
      (refuseOrdinary m s).marks.lost = min (s.marks.lost + 1) 65535 ∧
      hasCondition .markLost (refuseOrdinary m s).link.latched = true ∧
      (s.feeds.losses.length < 8 → Covers (refuseOrdinary m s).feeds.losses m.position (min (m.position + m.span) maxCount)) ∧
      (s.profile.forwarding = false → (refuseOrdinary m s).port = s.port) ∧
      (s.profile.forwarding = true → s.port.own.length < 4 → (refuseOrdinary m s).port = { s.port with
        own := s.port.own ++ [lossNotice s m.position (min (m.position + m.span) maxCount)]
        serialCounter := if s.port.serialCounter = 255 then 0 else s.port.serialCounter + 1 }) ∧
      SameOutside [.marks, .feeds, .builder, .port, .link] s (refuseOrdinary m s) := by
  obtain ⟨off, on⟩ := addInterval_after (i := lostInterval m .refused) (refl [.feeds, .builder, .link] s) rfl rfl
  have waiting : (addInterval (lostInterval m .refused) s).marks.marks = s.marks.marks := by
    rw [addInterval, raiseLoss_waiting, (offerInterval_frame _ s (bs := [.feeds, .builder, .link])) .marks (by decide)]
  have lost : (addInterval (lostInterval m .refused) s).marks.lost = s.marks.lost := by
    rw [addInterval, raiseLoss_lost, (offerInterval_frame _ s (bs := [.feeds, .builder, .link])) .marks (by decide)]
  have losses : (addInterval (lostInterval m .refused) s).feeds.losses = addClosed (lostInterval m .refused) s.feeds.losses := by
    rw [addInterval_losses rfl]
  have frame : SameOutside [.marks, .feeds, .builder, .port, .link] s (addInterval (lostInterval m .refused) s) :=
    (offerInterval_frame _ s).trans (raiseLoss_own_frame _ _)
  rw [refuseOrdinary]
  generalize addInterval (lostInterval m .refused) s = t at *
  refine ⟨waiting, congrArg tally lost, latch_latches _ _, fun room => ?_, fun forwarding => (off forwarding).2,
    fun forwarding own => (on forwarding own).2, frame.trans (loseOrdinary_frame t)⟩
  change Covers t.feeds.losses _ _
  rw [losses]
  exact addClosed_covers (i := lostInterval m .refused) rfl room

/-- A boundary mark for which there is no room is lost, and holds (R42). -/
theorem refuseBoundary_after (s : State) : (refuseBoundary s).marks = { s.marks with lost := min (s.marks.lost + 1) 65535 } ∧
    hasReason .boundaryLost (refuseBoundary s).hold.own = true ∧
    hasCondition .boundaryLost (refuseBoundary s).link.latched = true := by
  have given : (giveHold .boundaryLost s).hold.own = giveReason .boundaryLost s.hold.own := giveHold_own _ _
  have marks : (giveHold .boundaryLost s).marks = s.marks := (giveHold_frame _ s (bs := [.hold, .port, .link])) .marks (by decide)
  rw [refuseBoundary]
  generalize giveHold .boundaryLost s = t at given marks ⊢
  refine ⟨?_, ?_, latch_latches _ _⟩
  · rw [← marks]
    rfl
  · exact (congrArg (hasReason .boundaryLost) given).trans (hasReason_give _ _)

/-! ## A mark of a feed fires (R44 to R46) -/

section
variable {m : Mark} {i : Nat} {s : State}

/-- The port with the notice of a forwarded mark of a feed at the tail of its FIFO (R46, R158). -/
def relayed (m : Mark) (p : BusPort) : BusPort :=
  { p with
    serialCounter := if p.serialCounter = 255 then 0 else p.serialCounter + 1
    class1 := p.class1 ++ (if m.kind = .cutRequest then [freshNotice (.mark (payloadOf m)) p.serialCounter] else [])
    forwarded := p.forwarded ++ (if m.kind = .cutRequest then [] else [freshNotice (.mark (payloadOf m)) p.serialCounter]) }

theorem forward_still (off : s.profile.forwarding = false ∨ m.hops = 7) : forward m s = s := by
  rw [forward, if_neg]
  rintro ⟨on, hops⟩
  rcases off with off | most
  · exact absurd on (Bool.eq_false_iff.1 off)
  · rw [most] at hops
    exact absurd hops (Nat.lt_irrefl 7)

theorem forward_relays (received : m.source = .feed i) (lot : m.kind ≠ .lotChange) (on : s.profile.forwarding = true)
    (hops : m.hops < 7) (class1 : s.port.class1.length < 4) (forwarded : s.port.forwarded.length < 4) :
    forward m s = s.withPort (relayed m s.port) := by
  rw [forward, if_pos ⟨on, hops⟩, relayed]
  by_cases cut : m.kind = .cutRequest
  · have slot : markSlot m.kind m.source = .class1 := by simp [markSlot, cut, MarkKind.isBoundary]
    rw [slot, offerMark_queued .class1 _ s class1, if_pos cut, if_pos cut, List.append_nil]
    rfl
  · have ordinary : m.kind.isBoundary = false := by
      cases kind : m.kind with
      | lotChange => exact absurd kind lot
      | cutRequest => exact absurd kind cut
      | _ => rfl
    have slot : markSlot m.kind m.source = .forwarded := by simp [markSlot, ordinary, received]
    rw [slot, offerMark_queued .forwarded _ s forwarded, if_neg cut, if_neg cut, List.append_nil]
    rfl

theorem relayedBy_loss (received : m.source = .feed i) (kind : m.kind = .loss) : relayedBy m = some (relayedInterval m) := by
  rw [relayedBy, kind, received]

theorem relay_other (kind : m.kind ≠ .loss) (s : State) : relay m s = s := by
  have none : relayedBy m = none := by
    unfold relayedBy
    split
    · next loss _ => exact absurd loss kind
    · rfl
  rw [relay, none]

/-- A received LOSS mark that fires adds the interval it carries (R45). -/
theorem fireOrdinary_covers (received : m.source = .feed i) (kind : m.kind = .loss) (room : s.feeds.losses.length < 8) :
    Covers (fireOrdinary m s).feeds.losses m.position (min (m.position + m.span) maxCount) := by
  have taken := builderTakes_ordinary_frame (m := m) (by rw [kind]; rfl) none s
  rw [fireOrdinary, relay, relayedBy_loss received kind]
  dsimp only
  rw [(forward_frame m _ (bs := [.port, .link])) .feeds (by decide), offerInterval_losses, taken .feeds (by decide)]
  exact addClosed_covers (i := relayedInterval m) rfl room

/-- With the builder OFF, a received mark that is not forwarded does nothing but that a LOSS mark adds its interval. -/
theorem fireOrdinary_still (off : s.builder.state = .off) (still : s.profile.forwarding = false ∨ m.hops = 7) :
    (fireOrdinary m s).port = s.port ∧ (m.kind ≠ .loss → fireOrdinary m s = s) := by
  have frame := relay_frame m s (bs := [.feeds, .builder, .link])
  rw [fireOrdinary, builderTakes_off m none off, forward_still (by rw [frame .profile (by decide)]; exact still)]
  exact ⟨frame .port (by decide), fun kind => relay_other kind s⟩

/-- With the builder OFF, one that is forwarded goes to the port. -/
theorem fireOrdinary_relays (off : s.builder.state = .off) (received : m.source = .feed i) (lot : m.kind ≠ .lotChange)
    (on : s.profile.forwarding = true) (hops : m.hops < 7) (class1 : s.port.class1.length < 4)
    (forwarded : s.port.forwarded.length < 4) :
    (fireOrdinary m s).port = relayed m s.port ∧ (m.kind ≠ .loss → SameOutside [.port] s (fireOrdinary m s)) := by
  have frame := relay_frame m s (bs := [.feeds, .builder, .link])
  have port : (relay m s).port = s.port := frame .port (by decide)
  rw [fireOrdinary, builderTakes_off m none off, forward_relays received lot (by rw [frame .profile (by decide)]; exact on) hops
    (by rw [port]; exact class1) (by rw [port]; exact forwarded), port]
  refine ⟨rfl, fun kind => ?_⟩
  rw [relay_other kind s]
  exact withPort s _

end

/-! ## The statement -/

theorem fireMark_lots {m : Mark} {s : State} : (fireMark m s).lots = lotsAfter s.profile.base s.lots m := by
  by_cases kind : m.kind = .lotChange
  · rw [fireMark_afterLots s kind .lots (by decide)]
    exact lotChange_lots kind
  · rw [fireMark_ordinary s kind, (fireOrdinary_frame m s (bs := [.feeds, .builder, .hold, .port, .link])) .lots (by decide), lotsAfter,
      if_pos (.inl kind)]

/-- Settles O28: the mark is translated, and placed in the part that has heard the notice. -/
theorem markNoticeIsTranslated : Obligations.MarkNoticeIsTranslated := by
  intro early bits s f i e m k delta offset mk law hears mark sender entry found inStep code lot hops first last fresh isDelta
    isOffset isMark
  obtain ⟨fit, ahead, -⟩ := (markLaw_iff s).1 law
  have heard := heardMark_frame s i e f bits
  have taken : exec (.frameReceived early bits) s =
      .next (takeMark i (heardEntry s e) m f.stamp (heardMark s i e f bits)) := by
    rw [exec_frameReceived_heard hears, takeFrame_inStep mark sender entry found inStep]
  have read := readable_of_code code lot hops first last
  have count : (heardMark s i e f bits).length.runCount = s.length.runCount := rfl
  by_cases far : 0 ≤ delta ∧ 10000000 < offset
  · obtain ⟨along, beyond⟩ := far
    have refused : takeMark i (heardEntry s e) m f.stamp (heardMark s i e f bits) = (heardMark s i e f bits).withFeeds
        { (heardMark s i e f bits).feeds with far := tally s.feeds.far } := by
      rw [takeMark, read]
      dsimp only
      rw [count, translate_far (e := heardEntry s e) isDelta isOffset along beyond]
      rfl
    rw [refused] at taken
    refine ⟨_, taken, rfl, fun _ _ => ⟨rfl, rfl, heard.trans (withFeeds _ _)⟩, fun near => ?_⟩
    omega
  have near : delta < 0 ∨ offset ≤ 10000000 := by omega
  have placed : takeMark i (heardEntry s e) m f.stamp (heardMark s i e f bits) = placeMark mk (heardMark s i e f bits) := by
    rw [takeMark, read]
    dsimp only
    rw [count, translate_near (e := heardEntry s e) isDelta isOffset near, isMark]
    rfl
  rw [placed] at taken
  have kind : mk.kind = k := by rw [isMark]; rfl
  have tag : mk.lotTag = m.lotTag := by rw [isMark]; rfl
  have source : mk.source = .feed i := by rw [isMark]; rfl
  have new : ∀ w ∈ s.marks.marks, w.origin ≠ mk.origin := by rw [isMark]; exact fresh
  have hopsAre : mk.hops = m.hops := by rw [isMark]; rfl
  have payload : payloadOf mk = { m with position := mk.position, span := mk.span, hops := m.hops + 1 } := by
    rw [payloadOf, kind, ← code, isMark]
    rfl
  obtain ⟨v, isHeard⟩ : ∃ v, v = heardMark s i e f bits := ⟨_, rfl⟩
  have port : v.port = portAfterGood s bits := by rw [isHeard]; rfl
  have losses : v.feeds.losses = s.feeds.losses := by rw [isHeard]; rfl
  have table : v.feeds.table = s.feeds.table.set i (checkedEntry s e f) := by rw [isHeard]; rfl
  rw [← isHeard] at taken heard
  have marks : v.marks = s.marks := heard .marks (by decide)
  have length : v.length = s.length := heard .length (by decide)
  have profile : v.profile = s.profile := heard .profile (by decide)
  have lots : v.lots = s.lots := heard .lots (by decide)
  have builder : v.builder = s.builder := heard .builder (by decide)
  have new' : ∀ w ∈ v.marks.marks, w.origin ≠ mk.origin := by rw [marks]; exact new
  have fit' : MarksFit v.marks.marks := by rw [marks]; exact fit
  refine ⟨_, taken, (placeMark_table mk v).trans table, fun along beyond => absurd ⟨along, beyond⟩ far,
    fun _ => ⟨fun w mem isLot waits same => ?_, fun others => ?_⟩⟩
  · have waiting : sameLotWaiting mk v = some w :=
      sameLotWaiting_found fit' (kind.trans isLot) (by rw [marks]; exact mem) waits (same.trans tag.symm)
    refine ⟨fun before => ?_, fun behind later => ?_⟩
    · rw [placeMark_mergedAway new' waiting before]
      refine ⟨?_, port, (heard.mono (by decide)).trans (countMerge_frame v)⟩
      rw [← marks]
      rfl
    · rw [placeMark_mergesOut new' fit' waiting behind (by rw [length]; exact later)]
      refine ⟨?_, ?_⟩
      · rw [storeMark_marks, ← insertMark_erase mk fit mem, ← marks]
        rfl
      · exact (heard.mono (by decide)).trans ((((mono (bs := [.marks]) (withMarks v _) (by decide)).trans (countMerge_frame _)).trans
          (builderMerges_frame w mk _)).trans (storeMark_frame mk _))
  · have alone : sameLotWaiting mk v = none := sameLotWaiting_none fun w mem isLot waits => by
      rw [tag]
      exact others w (marks ▸ mem) (kind.symm.trans isLot) waits
    refine ⟨fun later room => ?_, fun later lot' cut full => ?_, fun later boundary full onlyBoundaries => ?_, fun reached => ?_⟩
    · rw [placeMark_alone_stored new' alone (by rw [length]; exact later) (by rw [hasRoom, marks, kind]; exact room)]
      refine ⟨?_, (heard.mono (by decide)).trans (storeMark_frame mk v)⟩
      rw [storeMark_marks, marks, insertMark_eq_filter mk fit.sorted]
    · rw [placeMark_alone_refused_ordinary new' alone (by rw [length]; exact later) (kind ▸ lot') (kind ▸ cut)
        (by rw [hasRoom, marks, kind]; exact full)]
      obtain ⟨waiting, lost, latched, covers, off, on, frame⟩ := refuseOrdinary_after (m := mk) (s := v)
      rw [marks] at waiting lost
      rw [losses] at covers
      rw [profile, port] at off on
      have notice := lossNotice_congr mk.position (min (mk.position + mk.span) maxCount) length profile lots
        (show v.port.serialCounter = s.port.serialCounter by rw [port]; rfl) marks
      rw [notice] at on
      exact ⟨waiting, lost, latched, covers, off, on, (heard.mono (by decide)).trans frame⟩
    · rw [placeMark_alone_refused_boundary new' alone (by rw [length]; exact later) (by rw [kind]; exact boundary)
        (by rw [hasRoom, marks, kind]; exact full) (by rw [marks]; exact onlyBoundaries)]
      obtain ⟨lost, given, latched⟩ := refuseBoundary_after v
      have frame : SameOutside [.marks, .hold, .port, .link] v (refuseBoundary v) := refuseBoundary_frame v
      rw [marks] at lost
      refine ⟨lost, ?_, given, latched, (heard.mono (by decide)).trans (frame.mono (by decide))⟩
      rw [frame .feeds (by decide), losses]
    · rw [placeMark_alone_fires new' alone (by rw [length]; exact reached)]
      refine ⟨by rw [fireMark_lots, profile, lots], fun isLoss room => ?_, fun lot' off => ?_⟩
      · rw [fireMark_ordinary v (by rw [kind, isLoss]; decide)]
        exact fireOrdinary_covers source (kind.trans isLoss) (by rw [losses]; exact room)
      rw [fireMark_ordinary v (kind ▸ lot')]
      have unworked : v.builder.state = .off := by rw [builder]; exact off
      refine ⟨?_, fun still => ?_, fun on fewer class1 forwarded => ⟨freshNotice (.mark (payloadOf mk)) s.port.serialCounter, ?_, ?_⟩⟩
      · rw [(fireOrdinary_frame mk v (bs := [.feeds, .builder, .hold, .port, .link])) .marks (by decide), marks]
      · obtain ⟨same, alike⟩ := fireOrdinary_still unworked (by rw [profile, hopsAre]; exact still)
        refine ⟨same.trans port, fun other => ?_⟩
        rw [alike (kind ▸ other)]
        exact heard
      · rw [payload]
        rfl
      · obtain ⟨sent, alike⟩ := fireOrdinary_relays unworked source (kind ▸ lot') (by rw [profile]; exact on)
          (by rw [hopsAre]; exact fewer) (by rw [port]; exact class1) (by rw [port]; exact forwarded)
        refine ⟨?_, fun other => heard.trans ((alike (kind ▸ other)).mono (by decide))⟩
        rw [sent, port, relayed, kind]
        rfl

end Sys2Proof.Machine
end

section
/-! PROOFS. The monitors' own marks raised at or behind the run count (3.2, 3.6): what they leave alone while an advance
goes on. -/

namespace Sys2Proof.Machine

-- One theorem after another: side by side they need more threads than the memory of the check allows.
set_option Elab.async false

open SameOutside

/-! ## What raising leaves alone -/

/-- The current coil starts where it is said to and lists the events that it is said to, and the builder is at work. -/
def CoilAt (start : Nat) (events : List Event) (s : State) : Prop :=
  s.builder.state ≠ .off ∧ ∃ cur, s.builder.current = some cur ∧ cur.record.start = start ∧ cur.record.events = events

/-- A step that raises marks at or behind the run count and no more: none waits, the feed and loss unit stands, with the
builder OFF only the FIFO of this station's own marks fills, and the current coil gains events behind those it lists. -/
structure Raises (s t : State) : Prop where
  waiting : t.marks.marks = s.marks.marks
  length : t.length = s.length
  profile : t.profile = s.profile
  feeds : t.feeds = s.feeds
  port : s.builder.state = .off →
    t.builder.state = .off ∧ t.port.class1 = s.port.class1 ∧ t.port.forwarded = s.port.forwarded
  coil : ∀ start events, CoilAt start events s → ∃ more, CoilAt start (events ++ more) t

/-- A record that starts where another does, with events behind those of the other. -/
def GrowsOn (c d : Coil) : Prop := d.start = c.start ∧ ∃ more, d.events = c.events ++ more

theorem recordMark_growsOn (m : Mark) (absorbed void : Bool) (c : Coil) : GrowsOn c (recordMark m absorbed void c) := by
  refine ⟨(recordMark_seat m absorbed void c).1, ?_⟩
  unfold recordMark
  split
  · exact ⟨_, rfl⟩
  · exact ⟨[], (List.append_nil _).symm⟩

/-- The cut test keeps the coil, and the builder at work. -/
theorem CoilAt.cutTest {start : Nat} {events : List Event} {s : State} (at_ : CoilAt start events s) :
    CoilAt start events (cutTest s) := by
  obtain ⟨on, cur, current, seat⟩ := at_
  refine ⟨?_, cur, by rw [cutTest_builder]; exact current, seat⟩
  obtain same | ⟨c, building, coil, reached, -⟩ := cutTest_cases s
  · rw [same]
    exact on
  · obtain ⟨-, room, full⟩ := cutTest_goesOn building coil reached
    obtain fewer | all := Nat.lt_or_ge s.builder.log.length 8
    · rw [(room fewer).1]
      exact nofun
    · rw [(full all).1]
      exact nofun

/-- A change of the record that keeps its start and its events. -/
theorem CoilAt.changeRecord {start : Nat} {events : List Event} {s : State} {f : Coil → Coil}
    (keeps : ∀ c, (f c).start = c.start ∧ (f c).events = c.events) (at_ : CoilAt start events s) :
    CoilAt start events (changeRecord f s) := by
  obtain ⟨on, cur, current, isStart, isEvents⟩ := at_
  rw [changeRecord_eq current]
  exact ⟨on, _, rfl, (keeps _).1.trans isStart, (keeps _).2.trans isEvents⟩

theorem CoilAt.lossTest {start : Nat} {events : List Event} {s : State} (is : List LossInterval) (at_ : CoilAt start events s) :
    CoilAt start events (lossTest is s) := by
  unfold Machine.lossTest
  split
  · split
    · exact at_.changeRecord fun _ => ⟨rfl, rfl⟩
    · exact at_
  · exact at_

theorem CoilAt.of_builder {start : Nat} {events : List Event} {s t : State} (builder : t.builder = s.builder)
    (at_ : CoilAt start events s) : CoilAt start events t := by
  rw [CoilAt, builder]
  exact at_

theorem CoilAt.addTarget {start : Nat} {events : List Event} {s : State} (at_ : CoilAt start events s) :
    CoilAt start events (addTarget s) := by
  unfold Machine.addTarget
  split <;> exact at_

namespace Raises

theorem refl (s : State) : Raises s s :=
  ⟨rfl, rfl, rfl, rfl, fun off => ⟨off, rfl, rfl⟩, fun _ _ at_ => ⟨[], by rw [List.append_nil]; exact at_⟩⟩

theorem trans {s t u : State} (a : Raises s t) (b : Raises t u) : Raises s u where
  waiting := b.waiting.trans a.waiting
  length := b.length.trans a.length
  profile := b.profile.trans a.profile
  feeds := b.feeds.trans a.feeds
  port off := by
    obtain ⟨off, class1, forwarded⟩ := a.port off
    obtain ⟨off', class1', forwarded'⟩ := b.port off
    exact ⟨off', class1'.trans class1, forwarded'.trans forwarded⟩
  coil start events at_ := by
    obtain ⟨more, at_⟩ := a.coil start events at_
    obtain ⟨most, at_⟩ := b.coil start _ at_
    exact ⟨more ++ most, by rw [← List.append_assoc]; exact at_⟩

theorem ite {p : Prop} [Decidable p] {s t u : State} (yes : p → Raises s t) (no : ¬p → Raises s u) :
    Raises s (if p then t else u) := by
  split
  · exact yes ‹_›
  · exact no ‹_›

/-- A step that leaves the blocks that raising touches. -/
theorem of_frame {bs : List Block} {s t : State} (frame : SameOutside bs s t)
    (h : ∀ b ∈ [Block.marks, .length, .profile, .feeds, .port, .builder], b ∉ bs := by decide) : Raises s t where
  waiting := congrArg MarkList.marks (frame .marks (h _ (by decide)))
  length := frame .length (h _ (by decide))
  profile := frame .profile (h _ (by decide))
  feeds := frame .feeds (h _ (by decide))
  port off := by
    have port : t.port = s.port := frame .port (h _ (by decide))
    rw [port, show t.builder = s.builder from frame .builder (h _ (by decide))]
    exact ⟨off, rfl, rfl⟩
  coil start events at_ := ⟨[], by
    rw [List.append_nil]
    exact at_.of_builder (frame .builder (h _ (by decide)))⟩

/-- A step of the coil builder at work. -/
theorem of_builder {s t : State} (frame : SameOutside [.builder, .hold, .port, .link] s t) (idle : s.builder.state = .off → t = s)
    (coil : ∀ start events, CoilAt start events s → ∃ more, CoilAt start (events ++ more) t) : Raises s t where
  waiting := congrArg MarkList.marks (frame .marks (by decide))
  length := frame .length (by decide)
  profile := frame .profile (by decide)
  feeds := frame .feeds (by decide)
  port off := by
    rw [idle off]
    exact ⟨off, rfl, rfl⟩
  coil := coil

theorem cutTest (s : State) : Raises s (cutTest s) :=
  of_builder (cutTest_frame s) (fun off => cutTest_idle (by rw [off]; exact nofun))
    fun _ _ at_ => ⟨[], by rw [List.append_nil]; exact at_.cutTest⟩

/-- The own hold reasons are reported in class 0 alone (R146, R159). -/
theorem giveHold (r : HoldReason) (s : State) : Raises s (giveHold r s) := by
  unfold Machine.giveHold setReasons
  refine ite (fun _ => refl s) fun _ => ⟨rfl, rfl, rfl, rfl, fun off => ⟨off, rfl, rfl⟩, fun _ _ at_ => ⟨[], ?_⟩⟩
  rw [List.append_nil]
  exact at_

theorem latch (c : Condition) (s : State) : Raises s (latch c s) := of_frame (latch_frame c s (bs := [.link]))

/-- An own mark goes to the FIFO of own marks, or is dropped. -/
theorem forward {m : Mark} (own : markSlot m.kind m.source = .own) (s : State) : Raises s (forward m s) := by
  have grown (t : State) (builder : t.builder = s.builder) : ∀ start events, CoilAt start events s →
      ∃ more, CoilAt start (events ++ more) t := fun _ _ at_ => ⟨[], by
    rw [List.append_nil]
    exact at_.of_builder builder⟩
  rw [Machine.forward, own]
  refine ite (fun _ => ?_) fun _ => refl s
  unfold offerMark
  refine ite (fun _ => ⟨rfl, rfl, rfl, rfl, fun off => ⟨off, rfl, rfl⟩, grown _ rfl⟩) fun _ =>
    ⟨rfl, rfl, rfl, rfl, fun off => ⟨off, rfl, rfl⟩, grown _ rfl⟩

/-- An ordinary mark at work is recorded in the coil (R132). -/
theorem builderTakes {m : Mark} (ordinary : m.kind.isBoundary = false) (s : State) : Raises s (builderTakes m none s) := by
  refine of_builder (builderTakes_frame m none s) (builderTakes_off m none) fun start events at_ => ?_
  obtain ⟨on, cur, current, rfl, rfl⟩ := at_
  obtain ⟨seat, more, grown⟩ := recordMark_growsOn m false false cur.record
  rw [Machine.builderTakes, if_neg on, if_neg (Bool.eq_false_iff.1 ordinary), changeRecord_eq current]
  exact ⟨more, on, _, rfl, seat, grown⟩

/-- An ordinary mark raised at or behind the run count does not wait (R31, R38). -/
theorem raiseMark {r : Raising} {s : State} (ordinary : r.kind.isBoundary = false) (reached : r.position ≤ s.length.runCount) :
    Raises s (raiseMark r s) := by
  have here : (completeMark r s).position ≤ (takeSerial s).length.runCount := completeMark_le_runCount reached
  have tallied {t : State} (frame : SameOutside [.marks] s t) (marks : t.marks.marks = s.marks.marks) : Raises s t :=
    ⟨marks, frame .length (by decide), frame .profile (by decide), frame .feeds (by decide), fun off => by
      rw [show t.port = s.port from frame .port (by decide), show t.builder = s.builder from frame .builder (by decide)]
      exact ⟨off, rfl, rfl⟩, fun _ _ at_ => ⟨[], by
      rw [List.append_nil]
      exact at_.of_builder (frame .builder (by decide))⟩⟩
  have serial : Raises s (takeSerial s) := tallied (takeSerial_frame s) rfl
  rw [Machine.raiseMark, placeOrdinary]
  obtain dup | away | ⟨fires, -⟩ | ⟨ahead, -⟩ := placementOf_cases (completeMark r s) (takeSerial s)
  · rw [dup]
    exact serial.trans ⟨rfl, rfl, rfl, rfl, fun off => ⟨off, rfl, rfl⟩, fun _ _ at_ => ⟨[], by
      rw [List.append_nil]
      exact at_⟩⟩
  · rw [away]
    exact serial
  · rw [fires]
    dsimp only
    rw [fireOrdinary, relay_completeMark]
    have own : markSlot (completeMark r s).kind (completeMark r s).source = .own := if_neg (Bool.eq_false_iff.1 ordinary)
    exact serial.trans ((builderTakes ordinary _).trans (forward own _))
  · omega

/-! ## The lay monitor -/

theorem measureLayRun (k : Nat) (s : State) : Raises s (measureLayRun k s) := by
  unfold Machine.measureLayRun
  have ended : Raises s (endLayRun s) := of_frame (endLayRun_frame s (bs := [.lay]))
  split
  · next run _ =>
    exact ite (fun _ => ended.trans (raiseMark (r := layFault run s.length.runCount) rfl (min_le_right _ _))) fun _ => ended
  · exact refl s

theorem layCapTest {s : State} (fraction : s.length.fraction < 65536) : Raises s (layCapTest s) := by
  unfold Machine.layCapTest
  split
  · next w win _ _ =>
    refine ite (fun _ => ?_) fun _ => refl s
    rw [closeWindow]
    have stop : Raises s (layStopTest w (deviationOf (layOf ((s.fullPosition : Int) - (win.start : Int)) win.twists) w.nominal) s) :=
      ite (fun _ => (giveHold _ s).trans (latch _ _)) fun _ => refl s
    generalize layStopTest w _ s = t at stop ⊢
    refine stop.trans (trans ?_ (of_frame (changeLay_frame _ _ (bs := [.lay]))))
    unfold layBandTest
    refine ite (fun _ => measureLayRun _ t) fun _ => ?_
    unfold feedLayRun
    simp only [extendLayRun_finish]
    refine ite (fun full => ?_) fun _ => of_frame (changeLay_frame _ t (bs := [.lay]))
    refine (of_frame (endLayRun_frame t (bs := [.lay]))).trans (raiseMark rfl ?_)
    have here : s.fullPosition / 65536 ≤ t.length.runCount := by
      rw [stop.length]
      exact (fullPosition_div fraction).le
    exact ((Nat.le_add_right _ _).trans full).trans here
  · exact refl s

theorem enterSettling (s : State) : Raises s (enterSettling s) := of_frame (enterSettling_frame s (bs := [.lay]))

theorem layActivation (s : State) : Raises s (layActivation s) := by
  unfold Machine.layActivation
  refine ite (fun _ => refl s) fun _ => ?_
  dsimp only
  have taken (f : LayMonitor → LayMonitor) : Raises s (changeLay f s) := of_frame (changeLay_frame f s (bs := [.lay]))
  have measured (old new : Nat) (t : State) : Raises t (measureAtActivation old new t) :=
    ite (fun _ => (of_frame (useOrder_frame t (bs := [.orders]))).trans (measureLayRun _ _)) fun _ => measureLayRun _ _
  exact ite (fun _ => (taken _).trans (measured _ _ _)) fun _ => ((taken _).trans (measured _ _ _)).trans (enterSettling _)

/-! ## The knot monitor -/

theorem changeKnot (f : KnotMonitor → KnotMonitor) (s : State) : Raises s (changeKnot f s) :=
  of_frame (changeKnot_frame f s (bs := [.knot]))

end Raises

/-- No knot fault run starts ahead of the run count. -/
def RunBehind (s : State) : Prop := ∀ r, s.knot.faultRun = some r → r.start ≤ s.length.runCount

namespace Raises

theorem closeKnotRun {s : State} (behind : RunBehind s) : Raises s (closeKnotRun s) := by
  unfold Machine.closeKnotRun
  split
  · next run opened => exact (changeKnot _ s).trans (raiseMark (r := knotFault run) rfl (behind run opened))
  · exact refl s

theorem knotActivation {s : State} (behind : RunBehind s) : Raises s (knotActivation s) :=
  ite (fun _ => refl s) fun _ => ((changeKnot _ s).trans
    (closeKnotRun (s := Machine.changeKnot (fun k => { k with working := some (knotWorkingSet s.effective) }) s) behind)).trans
    (changeKnot _ _)

theorem knotStopTest (r : RowSummary) (s : State) : Raises s (knotStopTest r s) := by
  unfold Machine.knotStopTest
  split
  · exact refl s
  · exact ite (fun _ => ((giveHold _ s).trans (latch _ _)).trans (changeKnot _ _)) fun _ => refl s

theorem feedKnotRun {r : RowSummary} {s : State} (behind : RunBehind s) (row : r.start ≤ s.length.runCount) :
    Raises s (feedKnotRun r s) := by
  unfold Machine.feedKnotRun
  refine ite (fun _ => closeKnotRun behind) fun _ => ?_
  dsimp only
  refine ite (fun _ => (changeKnot _ s).trans (closeKnotRun (s := Machine.changeKnot _ s) ?_)) fun _ => changeKnot _ s
  rintro run same
  cases same
  cases opened : s.knot.faultRun with
  | none => exact row
  | some run => exact behind run opened

theorem evaluateRow {s : State} (behind : RunBehind s) : Raises s (evaluateRow s) := by
  cases idle : isIdleRow s.knot.sections with
  | true =>
    rw [evaluateRow_idle idle]
    exact (changeKnot _ s).trans (changeKnot _ _)
  | false =>
    rw [evaluateRow_knots idle]
    have counted : Raises s (countedRow s) := (changeKnot _ s).trans (changeKnot _ _)
    have tested : Raises s (testedRow s) := counted.trans (knotStopTest _ _)
    obtain ⟨stop, knot⟩ := testedRow_knot s
    refine (tested.trans (feedKnotRun (fun r opened => ?_) ?_)).trans (changeKnot _ _)
    · rw [knot] at opened
      rw [tested.length]
      exact behind r opened
    · rw [tested.length]
      exact le_rfl

/-! ## The lot unit -/

theorem lotChange (tag : Nat) {s : State} (behind : RunBehind s) : Raises s (lotChange tag s) := by
  have lots (t : State) (v : LotUnit) : Raises t (t.withLots v) := of_frame (withLots t v (bs := [.lots]))
  have active (t : State) (knot : t.knot = s.knot) (length : t.length = s.length) : Raises t (offerActivation t) := by
    have frame := layActivation_frame t (bs := .orders :: layBlocks)
    refine (layActivation t).trans (knotActivation ?_)
    rw [RunBehind, frame .knot (by decide), frame .length (by decide), knot, length]
    exact behind
  unfold Machine.lotChange
  refine ite (fun _ => refl s) fun _ => ?_
  split
  · exact (lots s _).trans ((lots _ _).trans (active _ rfl rfl))
  · exact (lots s _).trans (latch _ _)

/-! ## Gauge runs -/

theorem capGauges (s : State) : Raises s (capGauges s) := by
  have one (i : Nat) (s : State) : Raises s (capGauge i s) := by
    unfold capGauge
    split
    · next run _ =>
      exact ite (fun full => (raiseMark (r := gaugeFault run.start faultSpanCap true) rfl ((Nat.le_add_right _ _).trans full)).trans
        (of_frame (changeInput_frame _ _ _ (bs := [.sense])))) fun _ => refl s
    · exact refl s
  unfold Machine.capGauges
  generalize List.range 32 = l
  induction l generalizing s with
  | nil => exact refl s
  | cons i rest ih => exact (one i s).trans (ih _)

end Raises

end Sys2Proof.Machine
end

section
/-! PROOFS. The marks that an advance reaches fire one after another (1.7, 3.6): what each firing leaves to the next. -/

namespace Sys2Proof.Machine

-- One theorem after another: side by side they need more threads than the memory of the check allows.
set_option Elab.async false

open SameOutside

/-! ## One firing after another (R43) -/

theorem fireHead_length (m : Mark) (rest : List Mark) (s : State) : (fireHead m rest s).length = s.length :=
  (fireHead_frame m rest s (bs := firingBlocks)) .length (by decide)

theorem fireHead_profile (m : Mark) (rest : List Mark) (s : State) : (fireHead m rest s).profile = s.profile :=
  (fireHead_frame m rest s (bs := firingBlocks)) .profile (by decide)

theorem fireMark_waiting (m : Mark) {s : State} (behind : RunBehind s) : (fireMark m s).marks.marks = s.marks.marks := by
  by_cases kind : m.kind = .lotChange
  · rw [fireMark_afterLots s kind .marks (by decide), (Raises.lotChange m.lotTag behind).waiting]
  · rw [fireMark_ordinary s kind, (fireOrdinary_frame m s (bs := [.feeds, .builder, .hold, .port, .link])) .marks (by decide)]

/-- A mark that fires leaves the list, and no other does (R43). -/
theorem fireHead_waiting (m : Mark) (rest : List Mark) {s : State} (behind : RunBehind s) :
    (fireHead m rest s).marks.marks = rest := by
  rw [fireHead, cutTest_marks, fireMark_waiting m (s := withWaiting rest s) behind]
  rfl

theorem fireHead_runBehind (m : Mark) (rest : List Mark) {s : State} (behind : RunBehind s) : RunBehind (fireHead m rest s) := by
  have knot : (fireHead m rest s).knot = (fireMark m (withWaiting rest s)).knot :=
    (cutTest_frame (fireMark m (withWaiting rest s)) (bs := [.builder, .hold, .port])) .knot (by decide)
  intro r opened
  rw [fireHead_length]
  rw [knot] at opened
  obtain ended | same := (fireMark_rows m (withWaiting rest s)).run
  · cases ended.symm.trans opened
  · exact behind r (same.symm.trans opened)

/-- What each firing keeps holds when the last of the reached marks has fired; the marks not reached wait on. -/
theorem fireReached_induct {P : List Mark → State → Prop} {rest : List Mark}
    (step : ∀ m r s, RunBehind s → P (m :: r) s → P r (fireHead m (r ++ rest) s)) :
    ∀ (r : List Mark) (n : Nat) (s : State), r = [] ∨ RunBehind s → s.marks.marks = r ++ rest → r.length ≤ n →
      (∀ m ∈ r, m.position ≤ s.length.runCount) → (∀ m ∈ rest, s.length.runCount < m.position) → P r s →
      P [] (fireReached n s) ∧ (fireReached n s).marks.marks = rest := by
  intro r
  induction r with
  | nil =>
    intro n s _ waiting _ _ ahead now
    rw [fireReached_ahead_eq n fun m hm => ahead m (by rw [waiting] at hm; exact hm)]
    exact ⟨now, waiting⟩
  | cons m r ih =>
    intro n s behind waiting enough reached ahead now
    obtain ⟨here, reached⟩ := List.forall_mem_cons.1 reached
    have behind : RunBehind s := behind.resolve_left nofun
    obtain ⟨n, rfl⟩ : ∃ k, n = k + 1 := ⟨n - 1, by rw [List.length_cons] at enough; omega⟩
    rw [fireReached, waiting]
    simp only [List.cons_append]
    rw [if_pos here]
    refine ih n _ (.inr (fireHead_runBehind m _ behind)) (fireHead_waiting m _ behind)
      (Nat.le_of_succ_le_succ enough) ?_ ?_ (step m r s behind now)
    · rw [fireHead_length]
      exact reached
    · rw [fireHead_length]
      exact ahead

/-! ## The loss list (R45, R63) -/

/-- The loss list with the interval that a mark relays. -/
def relayedLosses (m : Mark) (held : List LossInterval) : List LossInterval :=
  match relayedBy m with
  | some i => addClosed i held
  | none => held

theorem relayedBy_closed {m : Mark} {i : LossInterval} (relays : relayedBy m = some i) : isClosed i = true := by
  unfold relayedBy at relays
  split at relays
  · cases relays
    rfl
  · cases relays

theorem relay_feeds (m : Mark) (s : State) :
    (relay m s).feeds = { s.feeds with losses := relayedLosses m s.feeds.losses } := by
  unfold relay relayedLosses
  cases relays : relayedBy m with
  | none => rfl
  | some i =>
    dsimp only
    rw [offerInterval_losses, offered, if_pos (relayedBy_closed relays)]

theorem relayedBy_lotChange {m : Mark} (kind : m.kind = .lotChange) : relayedBy m = none := by
  rw [relayedBy, kind]

theorem fireMark_feeds (m : Mark) {s : State} (behind : RunBehind s) :
    (fireMark m s).feeds = { s.feeds with losses := relayedLosses m s.feeds.losses } := by
  by_cases kind : m.kind = .lotChange
  · rw [fireMark_afterLots s kind .feeds (by decide), (Raises.lotChange m.lotTag behind).feeds, relayedLosses,
      relayedBy_lotChange kind]
  · rw [fireMark_ordinary s kind, fireOrdinary, (forward_frame m _ (bs := [.port, .link])) .feeds (by decide), relay_feeds,
      (builderTakes_frame m none s (bs := [.builder, .hold, .port, .link])) .feeds (by decide)]

theorem fireHead_feeds (m : Mark) (rest : List Mark) {s : State} (behind : RunBehind s) :
    (fireHead m rest s).feeds = { s.feeds with losses := relayedLosses m s.feeds.losses } := by
  rw [fireHead, (cutTest_frame _ (bs := [.builder, .hold, .port])) .feeds (by decide),
    fireMark_feeds m (s := withWaiting rest s) behind]
  rfl

theorem length_addClosed_le (i : LossInterval) {held : List LossInterval} (room : held.length < 8) :
    (addClosed i held).length ≤ held.length + 1 := by
  have inserted (j : LossInterval) (l : List LossInterval) : (insertInterval j l).length = l.length + 1 := by
    induction l with
    | nil => rfl
    | cons k l ih =>
      unfold insertInterval
      split
      · exact congrArg (· + 1) ih
      · rfl
  unfold addClosed
  split
  · rw [absorb, inserted]
    exact Nat.succ_le_succ (List.length_filter_le _ _)
  · rw [if_pos (show held.length < lossPlaces from room), inserted]

/-- A hull covers each of the intervals it is made of. -/
theorem foldl_hull_covers_mem {near : List LossInterval} {j : LossInterval} (mem : j ∈ near) (acc : LossInterval) :
    isClosed (near.foldl (fun acc j => hull j acc) acc) = true ∧ (near.foldl (fun acc j => hull j acc) acc).low ≤ j.low ∧
      highOf j ≤ highOf (near.foldl (fun acc j => hull j acc) acc) := by
  induction near generalizing acc with
  | nil => cases mem
  | cons k rest ih =>
    obtain rfl | mem := List.mem_cons.1 mem
    · exact foldl_hull_covers rest (acc := hull j acc) rfl (min_le_left _ _) (le_max_left _ _)
    · exact ih mem (hull k acc)

/-- What a list that is not full covers it still covers when a closed interval is added (R63). -/
theorem Covers.addClosed {held : List LossInterval} {low high : Nat} (covers : Covers held low high) (i : LossInterval)
    (room : held.length < 8) : Covers (addClosed i held) low high := by
  obtain ⟨j, mem, h, isHigh, from_low, to_high⟩ := covers
  have far {l : List LossInterval} {k : LossInterval} (inside : j ∈ l) : Covers (insertInterval k l) low high :=
    ⟨j, (mem_insertInterval k j l).2 (.inr inside), h, isHigh, from_low, to_high⟩
  unfold Machine.addClosed
  split
  · by_cases near : nearEachOther i j = true
    · obtain ⟨closed, lower, higher⟩ := foldl_hull_covers_mem (List.mem_filter.2 ⟨mem, near⟩) i
      rw [highOf_eq isHigh] at higher
      exact covers_of_mem ((mem_insertInterval _ _ _).2 (.inl rfl)) closed (lower.trans from_low) (to_high.trans higher)
    · exact far (List.mem_filter.2 ⟨mem, by simpa using near⟩)
  · rw [if_pos (show held.length < lossPlaces from room)]
    exact far mem

/-! ## The current coil (R132) -/

section
variable {start : Nat} {events : List Event} {s : State}

theorem CoilAt.relay (m : Mark) (at_ : CoilAt start events s) : CoilAt start events (relay m s) := by
  unfold Machine.relay
  split
  · next i _ =>
    have held : CoilAt start events (withLosses (offered i s.feeds.losses) s) := at_
    exact (held.lossTest _).of_builder ((retroTest_frame i.low _ (bs := [.link])) .builder (by decide))
  · exact at_

/-- An ordinary mark that fires is the next event of the coil, while there is room for it. -/
theorem CoilAt.fireHead {m : Mark} (rest : List Mark) (ordinary : m.kind ≠ .lotChange ∧ m.kind ≠ .cutRequest)
    (room : events.length < 12) (at_ : CoilAt start events s) :
    CoilAt start (events ++ [eventOf start m false false]) (fireHead m rest s) := by
  obtain ⟨lot, cut⟩ := ordinary
  have kind : m.kind.isBoundary = false := by
    cases kind : m.kind with
    | lotChange => exact absurd kind lot
    | cutRequest => exact absurd kind cut
    | _ => rfl
  obtain ⟨on, cur, current, rfl, rfl⟩ := at_
  have recorded : CoilAt cur.record.start (cur.record.events ++ [eventOf cur.record.start m false false])
      (builderTakes m none (withWaiting rest s)) := by
    rw [builderTakes, if_neg (show (withWaiting rest s).builder.state ≠ .off from on), if_neg (Bool.eq_false_iff.1 kind),
      changeRecord_eq (s := withWaiting rest s) current]
    refine ⟨on, _, rfl, (recordMark_seat m false false cur.record).1, ?_⟩
    rw [recordMark, if_pos (show cur.record.events.length < eventPlaces from room)]
  rw [Machine.fireHead, fireMark_ordinary _ lot, fireOrdinary]
  exact ((recorded.relay m).of_builder ((forward_frame m _ (bs := [.port, .link])) .builder (by decide))).cutTest

end

/-! ## The line bus port, with the builder OFF (R46, R158) -/

/-- The port with the notice of a fired mark at the tail of its FIFO, one of this station's own marks apart. -/
def RelaysMark (m : Mark) (p v : BusPort) : Prop :=
  v.serialCounter = (if m.hops < 7 then nextSerial8 p.serialCounter else p.serialCounter) ∧
    v.class1 = p.class1 ++
      (if m.hops < 7 ∧ m.kind.isBoundary = true then [freshNotice (.mark (payloadOf m)) p.serialCounter] else []) ∧
    v.forwarded = p.forwarded ++ (if m.hops < 7 ∧ m.kind.isBoundary = false ∧ m.source ≠ .here then
      [freshNotice (.mark (payloadOf m)) p.serialCounter] else [])

theorem offerMark_own (m : MarkPayload) (s : State) : (offerMark .own m s).port.serialCounter = nextSerial8 s.port.serialCounter ∧
    (offerMark .own m s).port.class1 = s.port.class1 ∧ (offerMark .own m s).port.forwarded = s.port.forwarded := by
  unfold offerMark
  split <;> exact ⟨rfl, rfl, rfl⟩

theorem forward_relaysMark {m : Mark} {s : State} (on : s.profile.forwarding = true) (class1 : s.port.class1.length < 4)
    (forwarded : s.port.forwarded.length < 4) : RelaysMark m s.port (forward m s).port := by
  unfold RelaysMark
  by_cases hops : m.hops < 7
  swap
  · rw [forward, if_neg fun fires => hops fires.2]
    simp [hops]
  rw [forward, if_pos ⟨on, hops⟩]
  cases boundary : m.kind.isBoundary with
  | true =>
    have slot : markSlot m.kind m.source = .class1 := if_pos boundary
    rw [slot, offerMark_queued .class1 _ s class1]
    simp [hops, withFifo, fifoOf]
  | false =>
    cases source : m.source with
    | here =>
      have slot : markSlot m.kind .here = .own := if_neg (Bool.eq_false_iff.1 boundary)
      rw [slot]
      simpa [hops] using offerMark_own (payloadOf m) s
    | feed i =>
      have slot : markSlot m.kind (.feed i) = .forwarded := if_neg (Bool.eq_false_iff.1 boundary)
      rw [slot, offerMark_queued .forwarded _ s forwarded]
      simp [hops, withFifo, fifoOf]

end Sys2Proof.Machine
end

section
/-! PROOFS. What the marks that an advance reaches leave on the line bus port with the builder OFF, and the advance
itself (1.7). -/

namespace Sys2Proof.Machine

-- One theorem after another: side by side they need more threads than the memory of the check allows.
set_option Elab.async false

open SameOutside

/-! ## An activation with no fault run open (R85, R102) -/

/-- No fault run is open that an activation would close. -/
def NoRuns (s : State) : Prop := s.lay.faultRun = none ∧ s.knot.faultRun = none

theorem measureAtActivation_none {s : State} (none : s.lay.faultRun = none) (old new : Nat) :
    measureAtActivation old new s = s := by
  rw [measureAtActivation, none, if_neg nofun, measureLayRun, none]

theorem layActivation_none {s : State} (none : s.lay.faultRun = none) :
    SameOutside [.lay] s (layActivation s) ∧ (layActivation s).lay.faultRun = .none := by
  by_cases off : s.lay.state = .off
  · rw [layActivation, if_pos off]
    exact ⟨refl _ s, none⟩
  refine ⟨?_, (layActivation_lay off).2.2⟩
  rw [layActivation, if_neg off]
  dsimp only
  rw [measureAtActivation_none (s := changeLay (fun l => { l with
    working := some (layWorkingSet s.effective), trimCorrection := 0, window := .none }) s) none]
  exact SameOutside.ite (changeLay_frame _ s) ((changeLay_frame _ s).trans (enterSettling_frame _))

theorem knotActivation_none {s : State} (none : s.knot.faultRun = none) :
    SameOutside [.knot] s (knotActivation s) ∧ (knotActivation s).knot.faultRun = .none := by
  refine ⟨?_, (knotActivation_rows s).run.elim id fun same => same.trans none⟩
  have closed (t : State) (ended : t.knot.faultRun = .none) : closeKnotRun t = t := by rw [closeKnotRun, ended]
  unfold knotActivation
  rw [closed (changeKnot (fun k => { k with working := some (knotWorkingSet s.effective) }) s) none]
  exact SameOutside.ite (refl _ s) ((changeKnot_frame _ s).trans (changeKnot_frame _ _))

theorem lotChange_none (tag : Nat) {s : State} (none : NoRuns s) :
    SameOutside [.lots, .lay, .knot, .link] s (lotChange tag s) ∧ NoRuns (lotChange tag s) := by
  obtain ⟨lay, knot⟩ := none
  have active (t : State) (first : SameOutside [.lots] s t) :
      SameOutside [.lots, .lay, .knot, .link] s (offerActivation t) ∧ NoRuns (offerActivation t) := by
    obtain ⟨laid, ended⟩ := layActivation_none (s := t) (by rw [first .lay (by decide)]; exact lay)
    obtain ⟨knotted, closed⟩ := knotActivation_none (s := layActivation t)
      (by rw [laid .knot (by decide), first .knot (by decide)]; exact knot)
    refine ⟨((first.mono (by decide)).trans (laid.mono (by decide))).trans (knotted.mono (by decide)), ?_, closed⟩
    rw [offerActivation, knotted .lay (by decide)]
    exact ended
  unfold lotChange
  split
  · exact ⟨refl _ s, lay, knot⟩
  · split
    · exact active _ ((withLots s _).trans (withLots _ _))
    · exact ⟨(withLots s _).trans (latch_frame _ _), lay, knot⟩

/-! ## The port after a firing (R46) -/

theorem relay_state (m : Mark) (s : State) : (relay m s).builder.state = s.builder.state := by
  unfold relay
  split
  · next i _ =>
    rw [offerInterval, (retroTest_frame i.low _ (bs := [.link])) .builder (by decide), offerBuilder, lossTest_state]
    rfl
  · rfl

/-- With the builder OFF, a fired mark comes to the port alone, after the lot unit and the feed and loss unit. -/
theorem fireMark_off (m : Mark) {s : State} (off : s.builder.state = .off) (none : m.kind = .lotChange → NoRuns s) :
    ∃ u, fireMark m s = forward m u ∧ u.builder.state = .off ∧ u.port = s.port ∧ u.profile = s.profile ∧
      (NoRuns s → NoRuns u) := by
  by_cases kind : m.kind = .lotChange
  · obtain ⟨frame, ended⟩ := lotChange_none m.lotTag (none kind)
    have still : (lotChange m.lotTag s).builder.state = .off := by rw [frame .builder (by decide)]; exact off
    refine ⟨lotChange m.lotTag s, ?_, still, frame .port (by decide), frame .profile (by decide), fun _ => ended⟩
    rw [fireMark_lotChange s kind, builderTakes_off m _ still]
  · have frame := relay_frame m s (bs := [.feeds, .builder, .link])
    refine ⟨relay m s, ?_, (relay_state m s).trans off, frame .port (by decide), frame .profile (by decide), fun none => ?_⟩
    · rw [fireMark_ordinary s kind, fireOrdinary, builderTakes_off m .none off]
    · rw [NoRuns, frame .lay (by decide), frame .knot (by decide)]
      exact none

theorem fireHead_off {m : Mark} (rest : List Mark) {s : State} (off : s.builder.state = .off)
    (none : m.kind = .lotChange → NoRuns s) (on : s.profile.forwarding = true) (class1 : s.port.class1.length < 4)
    (forwarded : s.port.forwarded.length < 4) : (fireHead m rest s).builder.state = .off ∧
      RelaysMark m s.port (fireHead m rest s).port ∧ (NoRuns s → NoRuns (fireHead m rest s)) := by
  obtain ⟨u, fires, still, port, profile, runs⟩ := fireMark_off m (s := withWaiting rest s) off none
  have frame := forward_frame m u (bs := [.port, .link])
  have builder : (forward m u).builder.state = .off := by rw [frame .builder (by decide)]; exact still
  have sent := forward_relaysMark (m := m) (s := u) (by rw [profile]; exact on) (by rw [port]; exact class1)
    (by rw [port]; exact forwarded)
  rw [fireHead, fires, cutTest_idle (by rw [builder]; exact nofun)]
  rw [port] at sent
  refine ⟨builder, sent, fun none => ?_⟩
  rw [NoRuns, frame .lay (by decide), frame .knot (by decide)]
  exact runs none

/-! ## All the notices of an advance (R43, R46, R158) -/

/-- The notice of the first of the marks comes first, if it is forwarded, and the serials go on behind it. -/
theorem noticesOf_cons {s t : State} (m : Mark) (r : List Mark) (serial : s.port.serialCounter ≤ 255)
    (next : t.port.serialCounter = if m.hops < 7 then nextSerial8 s.port.serialCounter else s.port.serialCounter) :
    noticesOf s (m :: r) =
      (if m.hops < 7 then [(m, freshNotice (.mark (payloadOf m)) s.port.serialCounter)] else []) ++ noticesOf t r := by
  unfold noticesOf
  by_cases hops : m.hops < 7
  · rw [List.filter_cons_of_pos (by simpa using hops), List.zipIdx_cons, List.map_cons, Nat.zero_add, List.zipIdx_succ,
      List.map_map, if_pos hops]
    rw [if_pos hops] at next
    refine congrArg₂ List.cons ?_ (List.map_congr_left fun p _ => ?_)
    · have here : (s.port.serialCounter + 0) % 256 = s.port.serialCounter := by omega
      dsimp only
      rw [here]
      rfl
    · have shift : (s.port.serialCounter + (p.2 + 1)) % 256 = (t.port.serialCounter + p.2) % 256 := by
        rw [next, nextSerial8]
        split <;> omega
      simp only [Function.comp_apply, shift]
  · rw [List.filter_cons_of_neg (by simpa using hops), if_neg hops, List.nil_append]
    rw [if_neg hops] at next
    rw [next]

/-- The notices of the marks that go to class 1. -/
def class1Notices (s : State) (r : List Mark) : List Queued :=
  ((noticesOf s r).filter fun p => p.1.kind.isBoundary).map Prod.snd

/-- The notices of the marks that go to the FIFO of forwarded marks. -/
def forwardedNotices (s : State) (r : List Mark) : List Queued :=
  ((noticesOf s r).filter fun p => !p.1.kind.isBoundary && decide (p.1.source ≠ .here)).map Prod.snd

/-- With the builder OFF, the port takes on the notices of the marks still to fire, which it has room for. -/
structure Relaying (class1 forwarded : List Queued) (r : List Mark) (s : State) : Prop where
  off : s.builder.state = .off
  on : s.profile.forwarding = true
  runs : NoRuns s ∨ ∀ m ∈ r, m.kind ≠ .lotChange
  serial : s.port.serialCounter ≤ 255
  class1Room : s.port.class1.length + r.length ≤ 4
  forwardedRoom : s.port.forwarded.length + r.length ≤ 4
  class1Then : s.port.class1 ++ class1Notices s r = class1
  forwardedThen : s.port.forwarded ++ forwardedNotices s r = forwarded

theorem Relaying.fireHead {class1 forwarded : List Queued} {m : Mark} {r : List Mark} {s : State}
    (now : Relaying class1 forwarded (m :: r) s) (rest : List Mark) : Relaying class1 forwarded r (fireHead m rest s) := by
  have room := now.class1Room
  have room' := now.forwardedRoom
  rw [List.length_cons] at room room'
  obtain ⟨off, ⟨serial, class1Sent, forwardedSent⟩, runs⟩ := fireHead_off (m := m) rest now.off
    (fun kind => now.runs.resolve_right fun none => none m List.mem_cons_self kind) now.on (by omega) (by omega)
  have notices := noticesOf_cons m r now.serial serial
  have class1Then := now.class1Then
  have forwardedThen := now.forwardedThen
  rw [class1Notices, notices] at class1Then
  rw [forwardedNotices, notices] at forwardedThen
  refine ⟨off, by rw [fireHead_profile]; exact now.on, ?_, ?_, ?_, ?_, ?_, ?_⟩
  · exact now.runs.imp runs fun others w hw => others w (List.mem_cons_of_mem m hw)
  · rw [serial]
    split
    · exact nextSerial8_le now.serial
    · exact now.serial
  · rw [class1Sent, List.length_append]
    split <;> simp only [List.length_cons, List.length_nil] <;> omega
  · rw [forwardedSent, List.length_append]
    split <;> simp only [List.length_cons, List.length_nil] <;> omega
  · rw [← class1Then, class1Sent, List.append_assoc]
    refine congrArg _ ?_
    rw [class1Notices, List.filter_append, List.map_append]
    refine congrArg (· ++ _) ?_
    by_cases hops : m.hops < 7 <;> cases boundary : m.kind.isBoundary <;> simp [hops, boundary]
  · rw [← forwardedThen, forwardedSent, List.append_assoc]
    refine congrArg _ ?_
    rw [forwardedNotices, List.filter_append, List.map_append]
    refine congrArg (· ++ _) ?_
    by_cases hops : m.hops < 7 <;> cases boundary : m.kind.isBoundary <;> cases source : m.source <;>
      simp [hops, boundary, source]

end Sys2Proof.Machine
end

section
/-! PROOFS. An advance fires the marks it reaches (1.7, 3.6): O12. -/

namespace Sys2Proof.Machine

-- One theorem after another: side by side they need more threads than the memory of the check allows.
set_option Elab.async false

open SameOutside

/-! ## The marks reached (R35, R43) -/

/-- A list in order of position begins with the marks at or behind a position. -/
theorem sorted_split (count : Nat) {marks : List Mark} (sorted : marks.Pairwise fun a b => a.position ≤ b.position) :
    marks = marks.filter (fun m => decide (m.position ≤ count)) ++ marks.filter (fun m => decide (count < m.position)) ∧
      marks.takeWhile (fun m => decide (m.position ≤ count)) = marks.filter fun m => decide (m.position ≤ count) := by
  induction marks with
  | nil => exact ⟨rfl, rfl⟩
  | cons m rest ih =>
    obtain ⟨first, sorted⟩ := List.pairwise_cons.1 sorted
    obtain ⟨parts, taken⟩ := ih sorted
    by_cases reached : m.position ≤ count
    · have behind : ¬count < m.position := not_lt.2 reached
      simp only [List.filter_cons, List.takeWhile_cons, reached, behind, decide_true, decide_false, ite_true, taken,
        List.cons_append, ← parts, and_true, Bool.false_eq_true, if_false]
    · have later : ∀ w ∈ rest, count < w.position := fun w hw => (not_le.1 reached).trans_le (first w hw)
      have none : rest.filter (fun m => decide (m.position ≤ count)) = [] :=
        List.filter_eq_nil_iff.2 fun w hw => by simpa using later w hw
      have all : rest.filter (fun m => decide (count < m.position)) = rest :=
        List.filter_eq_self.2 fun w hw => by simpa using later w hw
      simp [reached, not_le.1 reached, none, all]

/-! ## An advance -/

/-- What an advance does with the marks `reached`, which the run count of `s` has reached. -/
structure AdvanceFires (s t : State) (reached : List Mark) : Prop where
  length : t.length = s.length
  waiting : t.marks.marks = s.marks.marks.filter fun w => decide (s.length.runCount < w.position)
  lots : t.lots = reached.foldl (lotsAfter s.profile.base) s.lots
  coil : ∀ start events, CoilAt start events s → (∀ m ∈ reached, m.kind ≠ .lotChange ∧ m.kind ≠ .cutRequest) →
    events.length + reached.length ≤ 12 →
    ∃ more, CoilAt start (events ++ reached.map (fun m => eventOf start m false false) ++ more) t
  port : ∀ class1 forwarded, Relaying class1 forwarded reached s →
    t.builder.state = .off ∧ t.port.class1 = class1 ∧ t.port.forwarded = forwarded
  losses : s.feeds.losses.length + reached.length ≤ 8 → ∀ m ∈ reached, ∀ i, relayedBy m = some i →
    Covers t.feeds.losses i.low (highOf i)
  feeds : (∀ m ∈ reached, relayedBy m = none) →
    t.feeds = { s.feeds with losses := s.feeds.losses.filter fun i => i.high.all fun h => decide (s.length.runCount ≤ h) }

namespace Raises

/-- A change of the coil builder that keeps its state. -/
theorem of_state {s t : State} (frame : SameOutside [.builder] s t) (state : t.builder.state = s.builder.state)
    (coil : ∀ start events, CoilAt start events s → CoilAt start events t) : Raises s t where
  waiting := congrArg MarkList.marks (frame .marks (by decide))
  length := frame .length (by decide)
  profile := frame .profile (by decide)
  feeds := frame .feeds (by decide)
  port off := by
    rw [show t.port = s.port from frame .port (by decide)]
    exact ⟨state.trans off, rfl, rfl⟩
  coil start events at_ := ⟨[], by
    rw [List.append_nil]
    exact coil start events at_⟩

theorem lossTest (is : List LossInterval) (s : State) : Raises s (lossTest is s) :=
  of_state (lossTest_frame is s) (lossTest_state is s) fun _ _ at_ => at_.lossTest is

theorem builderAdvance (s : State) : Raises s (builderAdvance s) :=
  (of_state (addTarget_frame s) (addTarget_state s) fun _ _ at_ => at_.addTarget).trans (cutTest _)

end Raises

theorem AdvanceFires.after {s t u : State} {reached : List Mark} (fires : AdvanceFires s t reached) (raises : Raises t u)
    (lots : u.lots = t.lots) : AdvanceFires s u reached where
  length := raises.length.trans fires.length
  waiting := raises.waiting.trans fires.waiting
  lots := lots.trans fires.lots
  coil start events at_ ordinary room := by
    obtain ⟨more, at_⟩ := fires.coil start events at_ ordinary room
    obtain ⟨most, at_⟩ := raises.coil start _ at_
    exact ⟨more ++ most, by rw [← List.append_assoc]; exact at_⟩
  port class1 forwarded relaying := by
    obtain ⟨off, class1, forwarded⟩ := fires.port class1 forwarded relaying
    obtain ⟨off', class1', forwarded'⟩ := raises.port off
    exact ⟨off', class1'.trans class1, forwarded'.trans forwarded⟩
  losses room m mem i relays := by
    rw [raises.feeds]
    exact fires.losses room m mem i relays
  feeds none := raises.feeds.trans (fires.feeds none)

theorem passed_covers {count : Nat} {added held : List LossInterval} {i : LossInterval} (mem : i ∈ added)
    (closed : isClosed i = true) (covers : Covers held i.low (highOf i)) : Covers (passed count added held) i.low (highOf i) := by
  obtain ⟨j, inside, h, isHigh, from_low, to_high⟩ := covers
  refine ⟨j, List.mem_filter.2 ⟨inside, ?_⟩, h, isHigh, from_low, to_high⟩
  have stands : standsFor i j = true := by
    have closed' : isClosed j = true := (isClosed_iff j).2 ⟨h, isHigh⟩
    have high' : highOf i ≤ highOf j := by rw [highOf_eq isHigh]; exact to_high
    simp [standsFor, closed, closed', from_low, high']
  rw [List.any_eq_true.2 ⟨i, mem, stands⟩, Bool.or_true]

theorem passed_none (count : Nat) (held : List LossInterval) :
    passed count [] held = held.filter fun i => i.high.all fun h => decide (count ≤ h) := by
  simp [passed]

theorem fireHead_lots (m : Mark) (rest : List Mark) (s : State) :
    (fireHead m rest s).lots = lotsAfter s.profile.base s.lots m := by
  rw [fireHead, (cutTest_frame _ (bs := [.builder, .hold, .port])) .lots (by decide), fireMark_lots]
  rfl

/-- With room for all that the marks still to fire relay, what a firing adds is covered, and what was covered stays so. -/
theorem relayedLosses_covers {m : Mark} {r reached : List Mark} {held : List LossInterval}
    (room : held.length + (r.length + 1) ≤ 8)
    (covers : ∀ w ∈ reached, ∀ i, relayedBy w = some i → w ∈ m :: r ∨ Covers held i.low (highOf i)) :
    (relayedLosses m held).length + r.length ≤ 8 ∧ ∀ w ∈ reached, ∀ i, relayedBy w = some i →
      w ∈ r ∨ Covers (relayedLosses m held) i.low (highOf i) := by
  have free : held.length < 8 := by omega
  unfold relayedLosses
  cases relays : relayedBy m with
  | none =>
    refine ⟨by dsimp only; omega, fun w hw i relayed => (covers w hw i relayed).imp_left fun mem => ?_⟩
    obtain rfl | mem := List.mem_cons.1 mem
    · cases relays.symm.trans relayed
    · exact mem
  | some new =>
    have longer := length_addClosed_le new free
    refine ⟨by dsimp only; omega, fun w hw i relayed => ?_⟩
    obtain mem | covered := covers w hw i relayed
    · obtain rfl | mem := List.mem_cons.1 mem
      · cases relays.symm.trans relayed
        exact .inr (addClosed_covers (relayedBy_closed relays) free)
      · exact .inl mem
    · exact .inr (covered.addClosed new free)

theorem advance_fires {s : State} {reached : List Mark} (sorted : s.marks.marks.Pairwise fun a b => a.position ≤ b.position)
    (isReached : reached = s.marks.marks.filter fun w => decide (w.position ≤ s.length.runCount))
    (behind : reached = [] ∨ RunBehind s) : AdvanceFires s (advance s) reached := by
  obtain ⟨parts, taken⟩ := sorted_split s.length.runCount sorted
  rw [← isReached] at parts taken
  have fires {P : List Mark → State → Prop} (step : ∀ m r t, RunBehind t → P (m :: r) t →
      P r (fireHead m (r ++ s.marks.marks.filter fun w => decide (s.length.runCount < w.position)) t)) (start : P reached s) :
      P [] (fireReached s.marks.marks.length s) ∧ (fireReached s.marks.marks.length s).marks.marks =
        s.marks.marks.filter fun w => decide (s.length.runCount < w.position) := by
    refine fireReached_induct step reached _ s behind parts ?_ ?_ ?_ start
    · rw [isReached]
      exact List.length_filter_le _ _
    · rw [isReached]
      exact fun m hm => by simpa using (List.mem_filter.1 hm).2
    · exact fun m hm => by simpa using (List.mem_filter.1 hm).2
  have length : (fireReached s.marks.marks.length s).length = s.length :=
    (fireReached_frame _ s (bs := firingBlocks)) .length (by decide)
  obtain ⟨fired, isFired⟩ : ∃ fired, fired = fireReached s.marks.marks.length s := ⟨_, rfl⟩
  rw [← isFired] at length fires
  have tested := Raises.lossTest fired.feeds.losses fired
  have testedLots : (lossTest fired.feeds.losses fired).lots = fired.lots :=
    (lossTest_frame fired.feeds.losses fired (bs := [.builder])) .lots (by decide)
  have whole : advance s = capGauges (builderAdvance (withLosses (passed (lossTest fired.feeds.losses fired).length.runCount
      (reached.filterMap relayedBy) (lossTest fired.feeds.losses fired).feeds.losses) (lossTest fired.feeds.losses fired))) := by
    rw [isFired, ← taken]
    rfl
  generalize lossTest fired.feeds.losses fired = x at tested testedLots whole
  rw [tested.length, length, tested.feeds] at whole
  obtain ⟨y, isY⟩ : ∃ y, y = withLosses (passed s.length.runCount (reached.filterMap relayedBy) fired.feeds.losses) x := ⟨_, rfl⟩
  rw [← isY] at whole
  have last : Raises y (advance s) := whole ▸ (Raises.builderAdvance y).trans (Raises.capGauges _)
  have lastLots : (advance s).lots = y.lots := by
    rw [whole, (capGauges_frame _ (bs := gaugeBlocks)) .lots (by decide),
      (builderAdvance_frame y (bs := [.builder, .hold, .port])) .lots (by decide)]
  have feeds : (advance s).feeds = { fired.feeds with
      losses := passed s.length.runCount (reached.filterMap relayedBy) fired.feeds.losses } := by
    rw [last.feeds, isY, ← tested.feeds]
    rfl
  have waiting := (fires (P := fun _ _ => True) (fun _ _ _ _ _ => trivial) trivial).2
  refine ⟨?_, ?_, ?_, fun start events at_ ordinary room => ?_, fun class1 forwarded relaying => ?_, fun room m mem i relays => ?_,
    fun unrelayed => ?_⟩
  · rw [last.length, isY]
    exact tested.length.trans length
  · rw [last.waiting, isY]
    exact tested.waiting.trans waiting
  · have kept := (fires (P := fun r t => t.profile = s.profile ∧
        r.foldl (lotsAfter s.profile.base) t.lots = reached.foldl (lotsAfter s.profile.base) s.lots)
      (fun m r t _ ⟨profile, lots⟩ => ⟨(fireHead_profile m _ t).trans profile, by
        rw [fireHead_lots, profile]
        exact lots⟩) ⟨rfl, rfl⟩).1.2
    rw [lastLots, isY]
    exact testedLots.trans kept
  · obtain ⟨⟨es, now, -, -, whole⟩, -⟩ := fires (P := fun r t => ∃ es, CoilAt start es t ∧ es.length + r.length ≤ 12 ∧
        (∀ m ∈ r, m.kind ≠ .lotChange ∧ m.kind ≠ .cutRequest) ∧
        es ++ r.map (fun m => eventOf start m false false) = events ++ reached.map fun m => eventOf start m false false)
      (fun m r t _ ⟨es, now, room, ordinary, whole⟩ => by
        obtain ⟨here, ordinary⟩ := List.forall_mem_cons.1 ordinary
        rw [List.length_cons] at room
        refine ⟨_, now.fireHead _ here (by omega), ?_, ordinary, ?_⟩
        · rw [List.length_append, List.length_singleton]
          omega
        · rw [← whole, List.append_assoc]
          rfl) ⟨events, at_, room, ordinary, rfl⟩
    rw [List.map_nil, List.append_nil] at whole
    rw [whole] at now
    obtain ⟨more, now⟩ := tested.coil start _ now
    obtain ⟨most, now⟩ := last.coil start _ (show CoilAt start _ y by rw [isY]; exact now)
    exact ⟨more ++ most, by rw [← List.append_assoc]; exact now⟩
  · have now := (fires (P := Relaying class1 forwarded) (fun m r t _ relaying => relaying.fireHead _) relaying).1
    obtain ⟨off, class1', forwarded'⟩ := tested.port now.off
    obtain ⟨off, class1'', forwarded''⟩ := last.port (show y.builder.state = .off by rw [isY]; exact off)
    rw [isY] at class1'' forwarded''
    refine ⟨off, (class1''.trans class1').trans ?_, (forwarded''.trans forwarded').trans ?_⟩
    · exact (List.append_nil _).symm.trans now.class1Then
    · exact (List.append_nil _).symm.trans now.forwardedThen
  · have covers := ((fires (P := fun r t => t.feeds.losses.length + r.length ≤ 8 ∧ ∀ w ∈ reached, ∀ i, relayedBy w = some i →
        w ∈ r ∨ Covers t.feeds.losses i.low (highOf i)) (fun m r t behind ⟨room, covers⟩ => by
          rw [List.length_cons] at room
          rw [fireHead_feeds m _ behind]
          exact relayedLosses_covers room covers) ⟨room, fun w hw _ _ => .inl hw⟩).1.2 m mem i relays).resolve_left nofun
    rw [feeds]
    exact passed_covers (List.mem_filterMap.2 ⟨m, mem, relays⟩) (relayedBy_closed relays) covers
  · have still := (fires (P := fun r t => t.feeds = s.feeds ∧ ∀ m ∈ r, relayedBy m = none) (fun m r t behind ⟨same, unrelayed⟩ => by
        obtain ⟨here, unrelayed⟩ := List.forall_mem_cons.1 unrelayed
        refine ⟨?_, unrelayed⟩
        rw [fireHead_feeds m _ behind, relayedLosses, here]
        exact same) ⟨rfl, unrelayed⟩).1.1
    rw [feeds, still, List.filterMap_eq_nil_iff.2 unrelayed, passed_none]

end Sys2Proof.Machine
end

section
/-! PROOFS. Wheel and row advances, from what each does before its marks fire to what the statement says (O12). -/

namespace Sys2Proof.Machine

-- One theorem after another: side by side they need more threads than the memory of the check allows.
set_option Elab.async false

open SameOutside

/-! ## What comes before the marks fire -/

/-- The MARK notices queued, this station's own ordinary ones apart, and the notice serial, as they were. -/
def SameNotices (p v : BusPort) : Prop :=
  v.class1 = p.class1 ∧ v.forwarded = p.forwarded ∧ v.serialCounter = p.serialCounter

theorem giveHold_sameNotices (r : HoldReason) (s : State) : SameNotices s.port (giveHold r s).port := by
  unfold giveHold setReasons
  split <;> exact ⟨rfl, rfl, rfl⟩

/-- The part at the run count of an advance, before its marks fire. The two last fields hold where no lay window comes to
its cap and no fault run is open. -/
structure BeforeFiring (s v : State) (count : Nat) (reached : List Mark) : Prop where
  runCount : v.length.runCount = count
  waiting : v.marks.marks = s.marks.marks
  profile : v.profile = s.profile
  lots : v.lots = s.lots
  feeds : v.feeds = s.feeds
  behind : reached = [] ∨ RunBehind v
  quiet : (∀ w, s.lay.window = some w → count * 65536 + 65535 < w.start + 1310720000) → s.knot.faultRun = none →
    v.builder = s.builder ∧ SameNotices s.port v.port
  runs : (∀ w, s.lay.window = some w → count * 65536 + 65535 < w.start + 1310720000) → s.lay.faultRun = none →
    s.knot.faultRun = none → NoRuns v ∨ ∀ m ∈ reached, m.kind ≠ .lotChange

theorem noticesOf_congr {s v : State} (serial : v.port.serialCounter = s.port.serialCounter) (r : List Mark) :
    noticesOf v r = noticesOf s r := by
  unfold noticesOf
  rw [serial]

theorem relayedBy_here {m : Mark} (here : m.kind = .loss → m.source = .here) : relayedBy m = none := by
  unfold relayedBy
  split
  · next loss source => cases (here loss).symm.trans source
  · rfl

/-- An advance does as the statement says, by what came before its marks fired. -/
theorem BeforeFiring.firesReached {s v t : State} {count : Nat} {reached : List Mark} (before : BeforeFiring s v count reached)
    (fires : AdvanceFires v t reached) : firesReached s t count reached := by
  obtain ⟨counted, waiting, profile, lots, feeds, -, quiet, runs⟩ := before
  refine ⟨by rw [fires.length, counted], by rw [fires.waiting, waiting, counted], by rw [fires.lots, profile, lots],
    fun cur on current ordinary room short closed => ?_, fun off forwarding class1 forwarded serial short lay knot => ?_,
    fun room m mem kind source => ?_, fun here => ?_⟩
  · obtain ⟨builder, -⟩ := quiet short closed
    have at_ : CoilAt cur.record.start cur.record.events v := by
      rw [CoilAt, builder]
      exact ⟨on, cur, current, rfl, rfl⟩
    obtain ⟨more, -, next, now, -, events⟩ := fires.coil _ _ at_ ordinary room
    exact ⟨next, more, now, events⟩
  · obtain ⟨builder, class1Same, forwardedSame, serialSame⟩ := quiet short knot
    obtain ⟨-, class1Then, forwardedThen⟩ := fires.port (v.port.class1 ++ class1Notices v reached)
      (v.port.forwarded ++ forwardedNotices v reached)
      ⟨by rw [builder]; exact off, by rw [profile]; exact forwarding, runs short lay knot, by rw [serialSame]; exact serial,
        by rw [class1Same]; exact class1, by rw [forwardedSame]; exact forwarded, rfl, rfl⟩
    rw [class1Then, forwardedThen, class1Notices, forwardedNotices, noticesOf_congr serialSame, class1Same, forwardedSame]
    exact ⟨rfl, rfl⟩
  · cases received : m.source with
    | here => exact absurd received source
    | feed i => exact fires.losses (by rw [feeds]; exact room) m mem _ (relayedBy_loss received kind)
  · rw [fires.feeds fun m hm => relayedBy_here (here m hm), feeds, counted]

/-! ## A wheel advance (R5, R12, R76) -/

theorem moveForward_sameNotices (p : Nat) (s : State) : SameNotices s.port (moveForward p s).port := by
  unfold moveForward
  split
  · exact giveHold_sameNotices _ _
  · exact ⟨rfl, rfl, rfl⟩

/-- Whatever the order of the lay cap test and the advance, the marks fire at the position moved to. -/
theorem afterMove_fires {old : Nat} {moved : State} {reached : List Mark}
    (sorted : moved.marks.marks.Pairwise fun a b => a.position ≤ b.position)
    (isReached : reached = moved.marks.marks.filter fun w => decide (w.position ≤ moved.length.runCount))
    (behind : RunBehind moved) (fraction : moved.length.fraction < 65536) (rises : old < moved.length.runCount) :
    ∃ v, Raises moved v ∧ SameOutside advanceBlocks moved v ∧ v.lots = moved.lots ∧ RunBehind v ∧
      (capReached moved moved.fullPosition = false → v = moved) ∧ AdvanceFires v (afterMove old moved) reached := by
  have fires {v : State} (raises : Raises moved v) (behind : RunBehind v) : AdvanceFires v (advance v) reached :=
    advance_fires (by rw [raises.waiting]; exact sorted) (by rw [raises.waiting, raises.length]; exact isReached) (.inr behind)
  have order : Raises moved moved.useOrder := .of_frame (useOrder_frame moved (bs := [.orders]))
  unfold afterMove
  split
  · next capped =>
    split
    · have frame := layCapTest_frame moved.useOrder (bs := layBlocks)
      have tested : Raises moved (layCapTest moved.useOrder) := order.trans (.layCapTest fraction)
      have behind : RunBehind (layCapTest moved.useOrder) := by
        rw [RunBehind, tested.length, frame .knot (by decide)]
        exact behind
      refine ⟨_, tested, ((useOrder_frame moved).trans (layCapTest_frame _)), frame .lots (by decide), behind,
        fun short => absurd (capped.symm.trans short) nofun, ?_⟩
      rw [handOnRise, if_pos (by rw [tested.length]; exact rises)]
      exact fires tested behind
    · refine ⟨moved.useOrder, order, useOrder_frame moved, rfl, behind, fun short => absurd (capped.symm.trans short) nofun, ?_⟩
      rw [handOnRise, if_pos (by rw [order.length]; exact rises)]
      have frame := layCapTest_frame (advance moved.useOrder) (bs := layBlocks)
      have advanced := fires order behind
      refine advanced.after (.layCapTest ?_) (frame .lots (by decide))
      rw [advanced.length]
      exact fraction
  · refine ⟨moved, .refl moved, refl _ moved, rfl, behind, fun _ => rfl, ?_⟩
    rw [handOnRise, if_pos rises]
    exact fires (.refl moved) behind

/-! ## A row advance (R9, R93, R96) -/

/-- A ROW edge of a row with knots that asks for an advance. -/
theorem rowEdge_asks {s : State} (knots : ∃ c ∈ s.knot.sections, 0 < c.count)
    (asks : (s.knot.state = .firstRow ∧ s.knot.cause = .lot) ∨ s.knot.state = .counting) :
    rowEdge s = rowAdvance (knotRowEdge s) := by
  obtain ⟨c, mem, counted⟩ := knots
  have idle : isIdleRow s.knot.sections = false := Bool.eq_false_iff.2 fun idle =>
    absurd ((isIdleRow_iff s.knot.sections).1 idle c mem) counted.ne'
  refine if_pos ?_
  rw [rowAsksAdvance, idle]
  obtain ⟨state, cause⟩ | state := asks
  · rw [state, cause]
    rfl
  · rw [state]
    rfl

theorem knotRowEdge_raises {s : State} (behind : RunBehind s) : Raises s (knotRowEdge s) := by
  unfold knotRowEdge
  split
  · exact .refl s
  · exact .changeKnot _ s
  · exact .evaluateRow behind

theorem runAfterRow_behind {s : State} (behind : RunBehind s) {r : KnotFaultRun} (opened : runAfterRow s = some r) :
    r.start ≤ s.length.runCount := by
  unfold runAfterRow at opened
  split at opened
  · cases opened
  · split at opened
    · cases opened
    · cases opened
      rw [extendKnotRun_start]
      cases run : s.knot.faultRun with
      | none => exact le_rfl
      | some held => exact behind held run

theorem knotRowEdge_behind {s : State} (behind : RunBehind s) : RunBehind (knotRowEdge s) := by
  have length := (knotRowEdge_raises behind).length
  intro r opened
  rw [length]
  unfold knotRowEdge at opened
  split at opened
  · exact behind r opened
  · exact behind r opened
  · cases idle : isIdleRow s.knot.sections with
    | true =>
      rw [evaluateRow_idle idle] at opened
      exact behind r opened
    | false =>
      rw [evaluateRow_knot idle] at opened
      exact runAfterRow_behind behind opened

/-- A row that opens a fault run, or has none missing, raises nothing. -/
theorem fedRow_none {s : State} (none : s.knot.faultRun = none) : SameOutside [.knot] (testedRow s) (fedRow s) := by
  have closed : (testedRow s).knot.faultRun = .none := by
    obtain ⟨stop, knot⟩ := testedRow_knot s
    rw [knot]
    exact none
  rw [fedRow, feedKnotRun]
  refine SameOutside.ite ?_ ?_
  · rw [closeKnotRun, closed]
    exact refl _ _
  · dsimp only
    have one : ¬runRows ≤ (extendKnotRun .none (endedRow s) (testedRow s).effective.rowPitch).rows := (by decide : ¬64 ≤ 1)
    rw [closed, if_neg one]
    exact changeKnot_frame _ _

theorem testedRow_sameNotices (s : State) : SameNotices s.port (testedRow s).port := by
  unfold testedRow knotStopTest
  split
  · exact ⟨rfl, rfl, rfl⟩
  · dsimp only
    split
    · exact giveHold_sameNotices _ (countedRow s)
    · exact ⟨rfl, rfl, rfl⟩

theorem evaluateRow_none {s : State} (none : s.knot.faultRun = none) :
    (evaluateRow s).builder = s.builder ∧ SameNotices s.port (evaluateRow s).port := by
  cases idle : isIdleRow s.knot.sections with
  | true =>
    rw [evaluateRow_idle idle]
    exact ⟨rfl, rfl, rfl, rfl⟩
  | false =>
    rw [evaluateRow_knots idle]
    have frame : SameOutside [.knot] (testedRow s)
        (changeKnot (fun k => { k with sections := k.sections.map clearCount }) (fedRow s)) :=
      (fedRow_none none).trans (changeKnot_frame _ _)
    rw [frame .builder (by decide), frame .port (by decide), (testedRow_frame s (bs := [.knot, .hold, .port, .link])) .builder (by decide)]
    exact ⟨rfl, testedRow_sameNotices s⟩

theorem knotRowEdge_none {s : State} (none : s.knot.faultRun = none) :
    (knotRowEdge s).builder = s.builder ∧ SameNotices s.port (knotRowEdge s).port := by
  unfold knotRowEdge
  split
  · exact ⟨rfl, rfl, rfl, rfl⟩
  · exact ⟨rfl, rfl, rfl, rfl⟩
  · exact evaluateRow_none none

/-- A row without missing knots leaves no fault run open. -/
theorem knotRowEdge_noRun {s : State} (none : s.knot.faultRun = none) (all : ∀ c ∈ s.knot.sections, c.expected ≤ c.count) :
    (knotRowEdge s).knot.faultRun = .none := by
  unfold knotRowEdge
  split
  · exact none
  · exact none
  · cases idle : isIdleRow s.knot.sections with
    | true =>
      rw [evaluateRow_idle idle]
      exact none
    | false =>
      have total : (endedRow s).total = 0 := by
        change (s.knot.sections.map fun c => if isIdleRow s.knot.sections then 0 else missingOf c).sum = 0
        refine List.sum_eq_zero fun x hx => ?_
        obtain ⟨c, hc, rfl⟩ := List.mem_map.1 hx
        rw [idle]
        exact Nat.sub_eq_zero_of_le (all c hc)
      rw [evaluateRow_knot idle]
      exact if_pos total

theorem rowMoved_sameNotices (s : State) : SameNotices s.port (rowMoved s).port := by
  unfold rowMoved
  split
  · exact giveHold_sameNotices _ _
  · exact ⟨rfl, rfl, rfl⟩

/-- A forward count that raises the run count fires the marks reached. -/
theorem exec_wheelChange_fires (wha whb : Bool) {s : State} {count : Nat} {reached : List Mark} (law : MarkLaw s)
    (running : s.station = .running) (wheel : s.profile.source = .wheel) (forward : turnsForward s (wha, whb))
    (live : s.length.saturated = false) (counted : count = min ((s.fullPosition + s.profile.wheelStep) / 65536) maxCount)
    (rises : s.length.runCount < count) (runs : RunBehind s)
    (isReached : reached = s.marks.marks.filter fun w => decide (w.position ≤ count)) :
    ∃ t, exec (.wheelChange wha whb) s = .next t ∧ firesReached s t count reached := by
  obtain ⟨fit, -, -, -⟩ := (markLaw_iff s).1 law
  have next := exec_wheelChange_turnsForward wha whb s running wheel forward
  rw [forwardCount_eq (s := followed wha whb s) live] at next
  have position : (followed wha whb s).fullPosition + (followed wha whb s).profile.wheelStep =
      s.fullPosition + s.profile.wheelStep := rfl
  rw [position] at next
  have runCount : (moveForward (s.fullPosition + s.profile.wheelStep) (followed wha whb s)).length.runCount = count := by
    rw [moveForward_runCount, counted]
  have same : SameOutside [.pins, .length, .hold, .port, .link] s
      (moveForward (s.fullPosition + s.profile.wheelStep) (followed wha whb s)) :=
    SameOutside.trans ((followed_frame wha whb s).mono (by decide)) (moveForward_frame _ _)
  have fraction := moveForward_fraction (s.fullPosition + s.profile.wheelStep) (followed wha whb s)
  have notices : SameNotices s.port (moveForward (s.fullPosition + s.profile.wheelStep) (followed wha whb s)).port :=
    moveForward_sameNotices _ (followed wha whb s)
  generalize moveForward (s.fullPosition + s.profile.wheelStep) (followed wha whb s) = moved at *
  have marks : moved.marks = s.marks := same .marks (by decide)
  have behind : RunBehind moved := fun r opened => by
    rw [runCount]
    exact (runs r ((congrArg KnotMonitor.faultRun (same .knot (by decide))).symm.trans opened)).trans rises.le
  obtain ⟨v, raises, frame, lots, behind, alike, fires⟩ := afterMove_fires (old := (followed wha whb s).length.runCount)
    (reached := reached) (by rw [marks]; exact fit.sorted) (by rw [marks, runCount]; exact isReached) behind fraction
    (by rw [runCount]; exact rises)
  have short (windows : ∀ w, s.lay.window = some w → count * 65536 + 65535 < w.start + 1310720000) : v = moved := by
    refine alike (capReached_eq_false fun w window => ?_)
    have far := windows w ((congrArg LayMonitor.window (same .lay (by decide))).symm.trans window)
    rw [State.fullPosition, runCount]
    omega
  refine ⟨_, next, BeforeFiring.firesReached (v := v)
    ⟨?_, ?_, ?_, ?_, ?_, .inr behind, fun windows _ => ?_, fun windows lay knot => ?_⟩ fires⟩
  · rw [raises.length, runCount]
  · rw [raises.waiting, marks]
  · rw [raises.profile, same .profile (by decide)]
  · rw [lots, same .lots (by decide)]
  · rw [raises.feeds, same .feeds (by decide)]
  · rw [short windows]
    exact ⟨same .builder (by decide), notices⟩
  · rw [short windows, NoRuns, same .lay (by decide), same .knot (by decide)]
    exact .inl ⟨lay, knot⟩

/-- A ROW edge that asks for an advance fires the marks reached. -/
theorem exec_rowEdge_fires {i : Fin 32} {s : State} {count : Nat} {reached : List Mark} (law : MarkLaw s)
    (service : (assignment s.profile i).service = .row) (edge : edgeIsDue s i)
    (asks : (s.knot.state = .firstRow ∧ s.knot.cause = .lot) ∨ s.knot.state = .counting)
    (knots : ∃ c ∈ s.knot.sections, 0 < c.count) (live : s.length.saturated = false)
    (counted : count = min (s.length.runCount + s.effective.rowPitch) maxCount) (runs : RunBehind s)
    (isReached : reached = s.marks.marks.filter fun w => decide (w.position ≤ count))
    (condition : (∀ c ∈ s.knot.sections, c.expected ≤ c.count) ∨ ∀ m ∈ reached, m.kind ≠ .lotChange) :
    ∃ t, exec (.senseFilterExpiry i) s = .next t ∧ firesReached s t count reached := by
  obtain ⟨fit, ahead, within, -⟩ := (markLaw_iff s).1 law
  have next := exec_rowEdge service edge
  have frame : SameOutside [.sense] s (taken s i) := taken_frame s i
  rw [rowEdge_asks (s := taken s i) knots asks] at next
  have behind : RunBehind (taken s i) := runs
  have raises := knotRowEdge_raises behind
  have behindRow := knotRowEdge_behind behind
  have rowFrame := knotRowEdge_frame (taken s i) (bs := knotBlocks)
  have quiet : s.knot.faultRun = none → _ := knotRowEdge_none (s := taken s i)
  have noRun : s.knot.faultRun = none → (∀ c ∈ s.knot.sections, c.expected ≤ c.count) → _ := knotRowEdge_noRun (s := taken s i)
  generalize knotRowEdge (taken s i) = k at *
  have length : k.length = s.length := raises.length.trans (frame .length (by decide))
  have lots : k.lots = s.lots := (rowFrame .lots (by decide)).trans (frame .lots (by decide))
  have profile : k.profile = s.profile := raises.profile.trans (frame .profile (by decide))
  have effective : k.effective = s.effective := by rw [State.effective, lots, profile, State.effective]
  rw [rowAdvance_live (by rw [length]; exact live)] at next
  have moved := rowMoved_frame k (bs := [.length, .hold, .port, .link])
  have runCount : (rowMoved k).length.runCount = count := by rw [rowMoved_runCount, length, effective, counted]
  have marks : (rowMoved k).marks.marks = s.marks.marks := by
    rw [moved .marks (by decide), raises.waiting]
    rfl
  have behindThen : reached = [] ∨ RunBehind (rowMoved k) := by
    cases first : reached with
    | nil => exact .inl rfl
    | cons m rest =>
      have mem : m ∈ s.marks.marks := List.mem_of_mem_filter (isReached ▸ first ▸ List.mem_cons_self)
      have after := ahead m mem
      have last := within m mem
      refine .inr fun r opened => ?_
      rw [moved .knot (by decide)] at opened
      have start := behindRow r opened
      rw [length] at start
      rw [runCount]
      omega
  refine ⟨_, next, BeforeFiring.firesReached (v := rowMoved k) ⟨runCount, marks, ?_, ?_, ?_, behindThen, fun _ knot => ?_,
    fun _ lay knot => ?_⟩ (advance_fires (by rw [marks]; exact fit.sorted) (by rw [marks, runCount]; exact isReached) behindThen)⟩
  · rw [moved .profile (by decide), profile]
  · rw [moved .lots (by decide), lots]
  · rw [moved .feeds (by decide), raises.feeds]
    rfl
  · obtain ⟨builder, class1, forwarded, serial⟩ := quiet knot
    obtain ⟨class1', forwarded', serial'⟩ := rowMoved_sameNotices k
    rw [moved .builder (by decide)]
    exact ⟨builder, class1'.trans class1, forwarded'.trans forwarded, serial'.trans serial⟩
  · refine condition.imp_left fun all => ⟨?_, ?_⟩
    · rw [moved .lay (by decide), rowFrame .lay (by decide)]
      exact lay
    · rw [moved .knot (by decide)]
      exact noRun knot all

/-- Settles O12: the wheel and the row each come to the run count first, and the advance fires the marks there. -/
theorem advanceFiresTheMarksItReaches : Obligations.AdvanceFiresTheMarksItReaches :=
  ⟨fun wha whb _ _ _ law running wheel forward live counted rises runs isReached =>
    exec_wheelChange_fires wha whb law running wheel forward live counted rises runs isReached,
  fun _ _ _ _ _ law service edge asks knots live counted runs isReached condition =>
    exec_rowEdge_fires law service edge asks knots live counted runs isReached condition⟩

end Sys2Proof.Machine
end
